-- ==== Sys2Proof/Word.lean ====
section
/-! DEFINITION. The word types of the VB2420 model: only what the manual itself treats as bits. -/

namespace Sys2Proof

/-- One byte on the wire ("Frame and Record Layouts"). -/
abbrev Byte := BitVec 8

/-- A 16-bit station bus node number (header of 11.1). -/
abbrev Node := BitVec 16

/-- A statistics counter: 32-bit, wrapping modulo 2^32 ("Conventions", Counters, 1). -/
abbrev Counter := BitVec 32

end Sys2Proof
end

