-- ==== Sys2Proof/Config.lean ====
section
/-! DEFINITION. What the VB2420 fixes: capacities, rates, limits. Every value is the manual's own.
The manual leaves no implementation constant open, so this file holds no free value. -/

namespace Sys2Proof.Config

/-- Sample sets per second ("Conventions", Sample rate). -/
def sampleRate : Nat := 12800

/-- Greatest payload of a frame (11.1). -/
def maxPayload : Nat := 1500

/-- Least and greatest total length of a frame (R3). -/
def minFrame : Nat := 12
def maxFrame : Nat := 1512

/-- Pass-through buffer limits (R7). -/
def passFrames : Nat := 24
def passBytes : Nat := 32768

/-- Local egress queue capacities (R9). -/
def alertRoom : Nat := 8
def replyRoom : Nat := 8
def reportRoom : Nat := 4

/-- Alignment queue capacity (R55). -/
def alignRoom : Nat := 16

/-- Record Queue capacity in words (R130) and word limit of one removal (R132). -/
def queueWords : Nat := 16384
def removalWords : Nat := 373

/-- No removal takes more than 11 records (R142). -/
def removalRecords : Nat := 11

/-- Request queue capacity (R169). -/
def requestRoom : Nat := 8

/-- Reply data room in bytes and COUNTERS words in one reply (R174). -/
def replyData : Nat := 1494
def replyWords : Nat := 373

/-- Load idle limit in ms (R194). -/
def loadIdle : Nat := 1000

/-- Ticket time limits in ms (R201). -/
def ticketWaiting : Nat := 5000
def ticketReady : Nat := 2000

/-- Energy divisors (R111). -/
def fundDivisor : Nat := 46080000
def harmDivisor : Nat := 46080

/-- The clamp of a calibrated sample (R53) and of a phasor component (R96). -/
def sampleMax : Int := 8388607
def phasorMax : Int := 16777215

/-- Peak of the twiddle ROM (R87). -/
def twiddlePeak : Nat := 32767

/-- Valid band of period256 (R79). -/
def periodMin : Nat := 46812
def periodMax : Nat := 81920

/-- Greatest window length (R67, R79). -/
def maxLength : Nat := 4096

/-- Part code and revision of the DEVICE entry (R178). -/
def partCode : BitVec 16 := 0x2420#16
def revision : Byte := 1#8

/-- Broadcast node number (Terms: node). -/
def broadcast : Node := 0xFFFF#16

end Sys2Proof.Config
end

