-- ==== Sys2Proof/Syntax.lean ====
section
/-! DEFINITION. The commands of the VB2420: one constructor of `Instr` for each row of
spec/opcode_table.json, with the operands the row's rule gives the event or request. -/

namespace Sys2Proof

/-- The two station bus ports (chapter 1). -/
inductive Port where
  | a | b
deriving DecidableEq, Repr

/-- What every management request brings besides the fields of its kind: the arrival port, the source
node of its frame and its tag (R170, R171). -/
structure ReqHeader where
  port : Port
  source : Node
  tag : BitVec 16
deriving DecidableEq, Repr

/-- The commands. The first twelve and the two expiries are events of the links, of the timebase or of
a block; the others are management requests reaching the Management Agent. -/
inductive Instr where
  /-- POWER_ON_RESET (R209): the reset input is released with the node straps at this level. -/
  | powerOnReset (straps : BitVec 12)
  /-- RESET_ASSERTED (R210). -/
  | resetAsserted
  /-- LINK_UP (R17): training succeeds on a port. -/
  | linkUp (p : Port)
  /-- LINK_DOWN (R15): a port loses signal or training; `receiving` says whether a frame was partly
  received at that moment (R2). -/
  | linkDown (p : Port) (receiving : Bool)
  /-- FRAME_RECEIVED (R2): the last byte of a frame arrives; `bytes` is the whole frame. -/
  | frameReceived (p : Port) (bytes : List Byte)
  /-- LOSS_TIMEOUT (R36) of a slot. -/
  | lossTimeout (k : Fin 32)
  /-- FINISH_BEGIN (R94). -/
  | finishBegin
  /-- FINISH_COMPLETE (R102). -/
  | finishComplete
  /-- ABANDONED_FINISH (R95). -/
  | abandonedFinish
  /-- TRANSMISSION_END (R11) on a port. -/
  | transmissionEnd (p : Port)
  /-- ALERT_OFFER (R156) to a port's ALERT queue. -/
  | alertOffer (p : Port)
  /-- SEND_ATTEMPT (R142) of a push channel. -/
  | sendAttempt (c : Fin 4)
  /-- READ (R174). -/
  | read (h : ReqHeader) (space : Byte) (index count : BitVec 16)
  /-- WRITE (R176) of a space without its own write behaviour. -/
  | write (h : ReqHeader) (space : Byte) (index count : BitVec 16) (data : List Byte)
  /-- WRITE_POSTED (R177) of any space. -/
  | writePosted (h : ReqHeader) (space : Byte) (index count : BitVec 16) (data : List Byte)
  /-- SLOT_WRITE (R40): a WRITE of the SLOT space. -/
  | slotWrite (h : ReqHeader) (index count : BitVec 16) (data : List Byte)
  /-- POINT_WRITE (R48): a WRITE of the POINT space. -/
  | pointWrite (h : ReqHeader) (index count : BitVec 16) (data : List Byte)
  /-- PUSH_WRITE (R138): a WRITE of the PUSH space. -/
  | pushWrite (h : ReqHeader) (index count : BitVec 16) (data : List Byte)
  /-- ALERT_WRITE (R162): a WRITE of the ALERT space. -/
  | alertWrite (h : ReqHeader) (index count : BitVec 16) (data : List Byte)
  /-- DEVICE_WRITE (R178): a WRITE of the DEVICE space. -/
  | deviceWrite (h : ReqHeader) (index count : BitVec 16) (data : List Byte)
  /-- FETCH_RECORDS (R136). -/
  | fetchRecords (h : ReqHeader) (count : BitVec 16)
  /-- ALERT_ACK (R160): the vector stands in the index field. -/
  | alertAck (h : ReqHeader) (vector : BitVec 16)
  /-- ALERT_CLEAR (R161). -/
  | alertClear (h : ReqHeader) (vector : BitVec 16)
  /-- PUSH_START (R182). -/
  | pushStart (h : ReqHeader) (channel : BitVec 16)
  /-- RESET_POINT (R183). -/
  | resetPoint (h : ReqHeader) (point : BitVec 16)
  /-- RESTART_ACCOUNTING (R184). -/
  | restartAccounting (h : ReqHeader)
  /-- LOCK_METROLOGY (R180). -/
  | lockMetrology (h : ReqHeader)
  /-- LOAD_OPEN (R190). -/
  | loadOpen (h : ReqHeader) (space : Byte) (index count : BitVec 16)
  /-- LOAD_DATA (R191): the byte offset stands in the index field. -/
  | loadData (h : ReqHeader) (offset count : BitVec 16) (data : List Byte)
  /-- LOAD_CLOSE (R192): the data begins with the CRC-32 of the staged bytes. -/
  | loadClose (h : ReqHeader) (data : List Byte)
  /-- LOAD_ABORT (R193). -/
  | loadAbort (h : ReqHeader)
  /-- LOAD_EXPIRED (R194). -/
  | loadExpired
  /-- SNAPSHOT_ISSUE (R198): a SNAPSHOT with ticket field 0. -/
  | snapshotIssue (h : ReqHeader) (point : BitVec 16)
  /-- SNAPSHOT_RETRIEVE (R200): a SNAPSHOT naming a ticket. -/
  | snapshotRetrieve (h : ReqHeader) (point ticket : BitVec 16)
  /-- TICKET_EXPIRED (R201) of ticket `t` + 1. -/
  | ticketExpired (t : Fin 4)
deriving DecidableEq, Repr

end Sys2Proof
end

