-- ==== Sys2Proof/WellFormed.lean ====
section
/-! DEFINITION. What makes a command one the table can spell. Operands whose range is a plain fact of one
field carry it in their type; this file checks the rest. -/

namespace Sys2Proof

/-- The data of a request follows 8 payload bytes, so it is at most 1,492 bytes (R170, 11.2). -/
def dataFits (data : List Byte) : Bool := data.length ≤ 1492

/-- The WRITE row is for the spaces without a write row of their own: not DEVICE, SLOT, POINT, ALERT or
PUSH (codes of 11.2). A code that names no space, or a read-only space, stands here too: it is refused. -/
def plainWriteSpace (space : Byte) : Bool :=
  !([0x01#8, 0x03#8, 0x04#8, 0x07#8, 0x08#8].contains space)

/-- The command is one a sender can put on the links, or an event that can be named. -/
def WellFormed : Instr → Bool
  | .powerOnReset _ => true
  | .resetAsserted => true
  | .linkUp _ => true
  | .linkDown _ _ => true
  | .frameReceived _ _ => true
  | .lossTimeout _ => true
  | .finishBegin => true
  | .finishComplete => true
  | .abandonedFinish => true
  | .transmissionEnd _ => true
  | .alertOffer _ => true
  | .sendAttempt _ => true
  | .read _ _ _ _ => true
  | .write _ space _ _ data => plainWriteSpace space && dataFits data
  | .writePosted _ _ _ _ data => dataFits data
  | .slotWrite _ _ _ data => dataFits data
  | .pointWrite _ _ _ data => dataFits data
  | .pushWrite _ _ _ data => dataFits data
  | .alertWrite _ _ _ data => dataFits data
  | .deviceWrite _ _ _ data => dataFits data
  | .fetchRecords _ _ => true
  | .alertAck _ _ => true
  | .alertClear _ _ => true
  | .pushStart _ _ => true
  | .resetPoint _ _ => true
  | .restartAccounting _ => true
  | .lockMetrology _ => true
  | .loadOpen _ _ _ _ => true
  | .loadData _ _ _ data => dataFits data
  | .loadClose _ data => dataFits data
  | .loadAbort _ => true
  | .loadExpired => true
  | .snapshotIssue _ _ => true
  | .snapshotRetrieve _ _ ticket => ticket != 0
  | .ticketExpired _ => true

end Sys2Proof
end

