-- ==== Sys2Proof/Machine/State.lean ====
section
/-! DEFINITION. The state of the VB2420: everything the manual gives the part, as plain data, and the state
right after reset. Where the manual gives two views of one thing (an occupied word count, a delivery
status), the state holds it once and the other view is computed. -/

namespace Sys2Proof.Machine

/-! ## Shared shapes -/

/-- One value for each of the seven signals the accounts use: IA, IB, IC, IN, VA, VB, VC (R88). -/
structure Seven (α : Type) where
  ia : α
  ib : α
  ic : α
  inn : α
  va : α
  vb : α
  vc : α
deriving DecidableEq, Repr

/-- One value per local egress class (R13, R14). -/
structure PerClass (α : Type) where
  alert : α
  reply : α
  report : α
deriving DecidableEq, Repr

/-- The local egress classes (R9). -/
inductive EgressClass where
  | alert | reply | report
deriving DecidableEq, Repr

/-- The ten table spaces (R173). -/
inductive Space where
  | device | window | slot | point | hset | limit | alert | push | counters | result
deriving DecidableEq, Repr

/-- The status codes of a reply (R172, Status codes). -/
inductive Status where
  | ok | retry | busy | denied | badKind | badSpace | badIndex | badValue | readOnly | inUse
  | locked | noLoad | badOffset | loadSize | loadCrc | noTicket | badState | short
deriving DecidableEq, Repr

/-! ## Stream windows and slots (chapter 2) -/

/-- What a stream window does with the frames it selects (R23). -/
inductive WindowKind where
  | tap | sink | pass
deriving DecidableEq, Repr

/-- A window of the stream window table (R23). -/
structure StreamWindow where
  enabled : Bool
  kind : WindowKind
  base : BitVec 32
  mask : BitVec 32
  slotBase : Fin 32
deriving DecidableEq, Repr

/-- The Frame Classifier: its table and its counters (R23, R26). -/
structure Classifier where
  windows : Vector StreamWindow 16
  hits : Vector Counter 16
  noSlot : Counter
  noTag : Counter
deriving DecidableEq, Repr

/-- The configuration of a stream slot (R27). -/
structure SlotCfg where
  enabled : Bool
  acceptTest : Bool
  lossTimeout : Nat
  acquire : Nat
  maxGap : Nat
deriving DecidableEq, Repr

/-- The states of a slot (R28). -/
inductive SlotState where
  | disabled | idle | acquiring | locked | lost
deriving DecidableEq, Repr

/-- The counters of a slot (R28). -/
structure SlotCounters where
  frames : Counter
  sets : Counter
  late : Counter
  gapSets : Counter
  reacquire : Counter
  malformed : Counter
  unusable : Counter
  tagConflict : Counter
deriving DecidableEq, Repr

/-- A stream slot: configuration and dynamic state (R27, R28). -/
structure Slot where
  cfg : SlotCfg
  st : SlotState
  tag : Option (BitVec 32)
  expected : Option Nat
  good : Nat
  lateRun : Nat
  lastUsable : Option Nat
  lostSeen : Bool
  ctr : SlotCounters
deriving DecidableEq, Repr

/-! ## Points: pairing (chapter 3) -/

/-- The nominal frequency of a point (R45). -/
inductive Nominal where
  | hz50 | hz60
deriving DecidableEq, Repr

/-- The gap policy of a point (R45). -/
inductive GapPolicy where
  | restart | bridge | skip
deriving DecidableEq, Repr

/-- The configuration of a POINT entry (R45). -/
structure PointCfg where
  enabled : Bool
  vSlot : Fin 32
  iSlot : Fin 32
  useNeutral : Bool
  nominal : Nominal
  cycles : Nat
  hset : Fin 8
  limit : Fin 8
  policy : GapPolicy
  bridgeLimit : Nat
  minCoverage : Nat
  tanLimit : Nat
  gains : Seven Nat
deriving DecidableEq, Repr

/-- One side of a paired set, waiting in an alignment queue: the calibrated values of the channels its
side needs (the others 0) and its clamp mark (R55). -/
structure AlignEntry where
  index : Nat
  vals : Seven Int
  clamp : Bool
deriving DecidableEq, Repr

/-- The pairing counters of a point (R60). -/
structure PairCounters where
  paired : Counter
  unpaired : Counter
  invalidSets : Counter
  clampValues : Counter
  overflow : Counter
deriving DecidableEq, Repr

/-! ## Points: framing and tracking (chapter 4) -/

/-- The states of a framer (R65). -/
inductive FramerState where
  | disabled | waiting | collecting | held
deriving DecidableEq, Repr

/-- The sums of one order of a bank (R88). -/
structure OrderSums where
  order : Nat
  re : Seven Int
  im : Seven Int
deriving DecidableEq, Repr

/-- What a bank holds for its window: orders, use neutral, C, L and the sums (R88). -/
structure BankSums where
  neutral : Bool
  cycles : Nat
  len : Nat
  orders : List OrderSums
  ss : Seven Int
deriving DecidableEq, Repr

/-- An accumulator bank in one of its three states (R69). -/
inductive Bank where
  | free
  | active (b : BankSums)
  | out (b : BankSums)
deriving DecidableEq, Repr

/-- Which of the two banks of a framer. -/
inductive BankIx where
  | first | second
deriving DecidableEq, Repr

/-- The flags of a window (R67, R70): `incomplete` is PARTIAL. -/
structure WindowFlags where
  untracked : Bool
  clamped : Bool
  bridged : Bool
  incomplete : Bool
  firstAfterChange : Bool
deriving DecidableEq, Repr

/-- The current window record of a framer (R67). `lastReal` is the position of the last real set taken,
by which R77 knows whether position n - 1 was real. -/
structure Window where
  len : Nat
  cfg : PointCfg
  bank : BankIx
  start : Option Nat
  expected : Option Nat
  pos : Nat
  covered : Nat
  bridgedCount : Nat
  flags : WindowFlags
  firstCross : Option Nat
  lastCross : Option Nat
  crossings : Nat
  lastVals : Option (Seven Int)
  lastReal : Option Nat
deriving DecidableEq, Repr

/-- The frequency tracker of a point (R77 to R81). -/
structure Tracker where
  period : Nat
  nextLen : Nat
  clampedMark : Bool
  freq : Nat
  run : Nat
  untracked : Bool
deriving DecidableEq, Repr

/-- The reasons of a discard (R76). -/
inductive DiscardReason where
  | gap | stepBack | source | coverage | finishLate
deriving DecidableEq, Repr

/-- The counters of a framer (R82). -/
structure FramerCounters where
  handed : Counter
  discarded : Counter
  gap : Counter
  stepBack : Counter
  source : Counter
  coverage : Counter
  finishLate : Counter
  samples : Counter
  bridgedSets : Counter
  untrackedWindows : Counter
deriving DecidableEq, Repr

/-- The Window Framer of a point (chapter 4). -/
structure Framer where
  st : FramerState
  bank1 : Bank
  bank2 : Bank
  window : Option Window
  trk : Tracker
  seq : BitVec 32
  ctr : FramerCounters
deriving DecidableEq, Repr

/-! ## Finish Queue, harmonic sets, limits, results (chapter 5) -/

/-- A limit profile (R92): `orders[h - 2]` is lim_h. -/
structure LimitProfile where
  orders : Vector Nat 49
  triplen : Nat
  nonFund : Nat
deriving DecidableEq, Repr

/-- An entry of the Finish Queue: the window description with its OUT bank (R70, R93). -/
structure FinishEntry where
  point : Fin 24
  bank : BankIx
  seq : BitVec 32
  start : Nat
  len : Nat
  covered : Nat
  bridgedCount : Nat
  flags : WindowFlags
  freq : Nat
  cfg : PointCfg
deriving DecidableEq, Repr

/-- The finish under way: when it ends (timebase clock in microseconds), the limit profile it read at its
begin, and whether it is abandoned (R94, R95). -/
structure ActiveFinish where
  due : Nat
  limits : LimitProfile
  abandoned : Bool
deriving DecidableEq, Repr

/-- The Finisher (chapter 5): `active = none` is idle; otherwise the head of `queue` is being finished. -/
structure Finisher where
  queue : List FinishEntry
  active : Option ActiveFinish
  abandonedCount : Counter
  peak : Nat
  hsets : Vector (List Nat) 8
  limits : Vector LimitProfile 8
deriving DecidableEq, Repr

/-- One order block of a window result (R103). -/
structure OrderResult where
  order : Nat
  re : Seven Int
  im : Seven Int
  p : Int
  q : Int
  exceed : Bool
deriving DecidableEq, Repr

/-- Total and non-fundamental squared RMS of one current signal (R98). -/
structure CurrentTotals where
  total : Nat
  nonFund : Nat
deriving DecidableEq, Repr

/-- A latest window result (R103). -/
structure WindowResult where
  seq : BitVec 32
  start : Nat
  len : Nat
  covered : Nat
  bridgedCount : Nat
  flags : WindowFlags
  neutral : Bool
  freq : Nat
  excess : Nat
  orders : List OrderResult
  ia : CurrentTotals
  ib : CurrentTotals
  ic : CurrentTotals
  inn : CurrentTotals
  nonFundExceed : Bool
deriving DecidableEq, Repr

/-! ## Interval accounting (chapter 6) -/

/-- An energy accumulator: whole units and remainder (R111). -/
structure Accum where
  whole : Nat
  rem : Nat
deriving DecidableEq, Repr

/-- Harmonic import and export of one order (R111). -/
structure HarmAccum where
  imp : Accum
  exp : Accum
deriving DecidableEq, Repr

/-- The accumulators of a point (R111): `harm[h - 2]` is order h. -/
structure Accumulators where
  activeImp : Accum
  activeExp : Accum
  q1 : Accum
  q2 : Accum
  q3 : Accum
  q4 : Accum
  excess : Accum
  harm : Vector HarmAccum 49
deriving DecidableEq, Repr

/-- The flags seen and the carried flags of an open interval (R113). -/
structure IntervalFlags where
  merged : Bool
  reconfigured : Bool
  timeStep : Bool
  untracked : Bool
  clamped : Bool
  bridged : Bool
  incomplete : Bool
deriving DecidableEq, Repr

/-- An order of an interval's list with its exceeded windows count (R113). -/
structure OrderCount where
  order : Nat
  exceeded : Nat
deriving DecidableEq, Repr

/-- The fields an interval has in OPEN only (R113). -/
structure OpenFields where
  firstNo : Nat
  lastNo : Nat
  openLen : Nat
  orders : List OrderCount
  firstStart : Nat
  lastEnd : Nat
  windows : Nat
  elapsed : Nat
  covered : Nat
  nonFundExceeded : Nat
  freqMin : Option Nat
  freqMax : Option Nat
  flags : IntervalFlags
deriving DecidableEq, Repr

/-- The open interval of a point: EMPTY when `fields` is none; the discard counts run in both (R113). -/
structure Interval where
  fields : Option OpenFields
  discardedWindows : Nat
  discardedSamples : Nat
deriving DecidableEq, Repr

/-- One order block of an interval record (R120). -/
structure RecordBlock where
  order : Nat
  exceeded : Nat
  imp : Nat
  exp : Nat
deriving DecidableEq, Repr

/-- An interval record (R120, 11.3). -/
structure IntervalRecord where
  point : Fin 24
  flags : IntervalFlags
  cut : Bool
  firstNo : Nat
  lastNo : Nat
  firstStart : Nat
  lastEnd : Nat
  windows : Nat
  discardedWindows : Nat
  elapsed : Nat
  covered : Nat
  discardedSamples : Nat
  nonFundExceeded : Nat
  freqMin : Nat
  freqMax : Nat
  activeImp : Nat
  activeExp : Nat
  q1 : Nat
  q2 : Nat
  q3 : Nat
  q4 : Nat
  excess : Nat
  blocks : List RecordBlock
deriving DecidableEq, Repr

/-- The IAU counters of a point (R126). -/
structure IauCounters where
  closed : Counter
  merges : Counter
  discardedIntervals : Counter
deriving DecidableEq, Repr

/-- Everything the part keeps for one accounting point (chapters 3 to 6). -/
structure Point where
  cfg : PointCfg
  waitingCfg : Option PointCfg
  changeMark : Bool
  vLocked : Bool
  iLocked : Bool
  vQueue : List AlignEntry
  iQueue : List AlignEntry
  pair : PairCounters
  framer : Framer
  result : Option WindowResult
  harmFlag : Bool
  excessFlag : Bool
  finished : Counter
  acc : Accumulators
  ivl : Interval
  iau : IauCounters
deriving DecidableEq, Repr

/-! ## Alerts (chapter 8) -/

/-- The configuration of an alert entry (R151); `deliverFrame` is delivery FRAME. -/
structure AlertCfg where
  masked : Bool
  level : Nat
  vector : Byte
  dest : Node
  port : Port
  deliverFrame : Bool
deriving DecidableEq, Repr

/-- An alert entry (R151, R153). `pending` holds the first detail of an EDGE entry while it is pending;
`active` and `detail` are the stored condition of a LEVEL source; the delivery status is SEND-PENDING
exactly when `queuedOn` is a port. -/
structure AlertEntry where
  cfg : AlertCfg
  pending : Option (BitVec 32)
  count : Nat
  active : Bool
  detail : BitVec 32
  awaiting : Bool
  queuedOn : Option Port
  occurrences : Counter
  frames : Counter
  restored : Counter
deriving DecidableEq, Repr

/-! ## Frames the part holds (chapters 1, 11) -/

/-- An ALERT frame as built (R157); its bytes and its CRC follow from these fields. -/
structure AlertFrame where
  dest : Node
  source : Node
  vector : Byte
  level : Nat
  number : Fin 20
  edge : Bool
  count : Nat
  detail : BitVec 32
  timebase : BitVec 32
deriving DecidableEq, Repr

/-- A REPLY frame as built (R171). -/
structure ReplyFrame where
  dest : Node
  source : Node
  tag : BitVec 16
  status : Status
  kind : Byte
  count : BitVec 16
  data : List Byte
deriving DecidableEq, Repr

/-- A RECORD frame as built (R142). -/
structure RecordFrame where
  dest : Node
  source : Node
  channel : Fin 4
  seq : BitVec 32
  records : List IntervalRecord
deriving DecidableEq, Repr

/-- A frame under transmission; a forwarded frame is its received bytes (R8). -/
inductive TxFrame where
  | pass (bytes : List Byte)
  | alert (f : AlertFrame)
  | reply (f : ReplyFrame)
  | report (f : RecordFrame)
deriving DecidableEq, Repr

/-- The counters of a port; `passOverflow` counts the buffer that leads toward it (1.7). -/
structure PortCounters where
  rxFrames : Counter
  lengthErr : Counter
  crcErr : Counter
  looped : Counter
  linkdownDrop : Counter
  recordsLost : Counter
  txFrames : Counter
  passOverflow : Counter
deriving DecidableEq, Repr

/-- A port: link, receive buffer, transmitter, the pass-through buffer that leads toward it, local queues, arbiter
state and counters (chapter 1). -/
structure PortState where
  up : Bool
  rx : List Byte
  tx : Option TxFrame
  pass : List (List Byte)
  alertQ : List AlertFrame
  replyQ : List ReplyFrame
  reportQ : List RecordFrame
  passCount : Nat
  current : PerClass Nat
  lastWinner : Option EgressClass
  ctr : PortCounters
deriving DecidableEq, Repr

/-! ## Record Queue and push channels (chapter 7) -/

/-- The Record Queue (R130, R134); occupied words and records held follow from `records`. -/
structure RecordQueue where
  records : List IntervalRecord
  peakWords : Nat
  appended : Counter
  fetched : Counter
  pushed : Counter
deriving DecidableEq, Repr

/-- The trigger kinds (R138). -/
inductive TriggerKind where
  | source | interval | manual
deriving DecidableEq, Repr

/-- The configuration of a push channel (R138). -/
structure PushCfg where
  enabled : Bool
  trigger : TriggerKind
  source : Fin 20
  dest : Node
  port : Port
  count : Nat
  burst : Bool
deriving DecidableEq, Repr

/-- The states of a push channel (R139). -/
inductive PushState where
  | disabled | armed | sending | done
deriving DecidableEq, Repr

/-- A push channel (R138, R139, R147). `fresh` says whether the send attempt the channel is making or
waiting to make began at a trigger (R144), as opposed to continuing a burst. -/
structure Channel where
  cfg : PushCfg
  st : PushState
  remaining : Nat
  backlog : Nat
  seq : BitVec 32
  fresh : Bool
  framesPushed : Counter
  recordsSent : Counter
  emptyTrigger : Counter
  backlogSat : Counter
deriving DecidableEq, Repr

/-- The delivery side: both ports, the alert entries, the push channels with the wait list of each port
(R143), and the Record Queue. The cascades of R140, R143 and R156 stay within it. -/
structure Delivery where
  portA : PortState
  portB : PortState
  alerts : Vector AlertEntry 20
  channels : Vector Channel 4
  waitA : List (Fin 4)
  waitB : List (Fin 4)
  recq : RecordQueue
deriving DecidableEq, Repr

/-! ## Management (chapters 9 and 10) -/

/-- The DEVICE entry (R178). -/
structure Device where
  node : Node
  managers : List Node
  intervalLen : Nat
  floor : Nat
  watermark : Nat
  priority : PerClass Nat
  metrologyLock : Bool
deriving DecidableEq, Repr

/-- A request in the request queue: its arrival port and its frame. Kind, payload length and CRC of the
frame follow from these (R169). -/
structure Request where
  port : Port
  dest : Node
  source : Node
  flags : Byte
  payload : List Byte
deriving DecidableEq, Repr

/-- The open table load (R189). -/
structure Load where
  opener : Node
  space : Space
  first : Nat
  count : Nat
  staged : List Byte
  lastActivity : Nat
deriving DecidableEq, Repr

/-- A snapshot copy (R199). -/
structure SnapshotCopy where
  point : Fin 24
  seq : BitVec 32
  ivl : Interval
  acc : Accumulators
  takenAt : Nat
deriving DecidableEq, Repr

/-- A snapshot ticket (R197). -/
inductive Ticket where
  | free
  | waiting (point : Fin 24) (since : Nat)
  | ready (point : Fin 24) (since : Nat) (copy : SnapshotCopy)
deriving DecidableEq, Repr

/-- The Management Agent without the DEVICE entry (chapters 9 and 10). -/
structure Agent where
  queue : List Request
  received : Counter
  dropped : Counter
  postedRefused : Counter
  load : Option Load
  loadsOpened : Counter
  loadsApplied : Counter
  loadsExpired : Counter
  tickets : Vector Ticket 4
  issued : Counter
  delivered : Counter
  ticketsExpired : Counter
deriving DecidableEq, Repr

/-- The whole part. `inReset` says that the reset input is asserted; `straps` is the level of the node
straps; `clock` is the timebase in microseconds since the release of reset; `pending` is the model's
queue of commands that wait, first in first out. -/
structure State where
  inReset : Bool
  straps : BitVec 12
  clock : Nat
  pending : List Instr
  device : Device
  classifier : Classifier
  slots : Vector Slot 32
  points : Vector Point 24
  finisher : Finisher
  dlv : Delivery
  agent : Agent
deriving DecidableEq, Repr

/-- The faults. The manual stops the part at no command, so no meaning of the model raises one. -/
inductive Fault where
  /-- Raised by nobody: kept so that the type names a reason. Safe: a stop proves nothing. -/
  | unused
deriving DecidableEq, Repr

/-- The refusals. -/
inductive Refusal where
  /-- Raised by `exec` for a row without a meaning yet; no row is left so. Safe: a stop proves nothing. -/
  | notModelled (mnemonic : String)
deriving DecidableEq, Repr

/-! ## Reset -/

/-- The default of a stream window (R23). -/
def StreamWindow.init : StreamWindow :=
  { enabled := false, kind := .tap, base := 0x00000000#32, mask := 0xFFFFFFFF#32, slotBase := 0 }

/-- The classifier at power-on (R23, R26). -/
def Classifier.init : Classifier :=
  { windows := Vector.replicate 16 StreamWindow.init, hits := Vector.replicate 16 0, noSlot := 0, noTag := 0 }

/-- The counters of a slot at 0 (R41). -/
def SlotCounters.zero : SlotCounters :=
  { frames := 0, sets := 0, late := 0, gapSets := 0, reacquire := 0, malformed := 0, unusable := 0, tagConflict := 0 }

/-- A slot at power-on (R27, R41). -/
def Slot.init : Slot :=
  { cfg := { enabled := false, acceptTest := false, lossTimeout := 20, acquire := 8, maxGap := 64 }
    st := .disabled, tag := none, expected := none, good := 0, lateRun := 0, lastUsable := none
    lostSeen := false, ctr := .zero }

/-- The power-on configuration of a point (R45). -/
def PointCfg.init : PointCfg :=
  { enabled := false, vSlot := 0, iSlot := 0, useNeutral := false, nominal := .hz50, cycles := 10
    hset := 0, limit := 0, policy := .restart, bridgeLimit := 4, minCoverage := 90, tanLimit := 400
    gains := ⟨16384, 16384, 16384, 16384, 16384, 16384, 16384⟩ }

/-- Pairing counters at 0 (R61). -/
def PairCounters.zero : PairCounters :=
  { paired := 0, unpaired := 0, invalidSets := 0, clampValues := 0, overflow := 0 }

/-- Framer counters at 0 (R83). -/
def FramerCounters.zero : FramerCounters :=
  { handed := 0, discarded := 0, gap := 0, stepBack := 0, source := 0, coverage := 0, finishLate := 0
    samples := 0, bridgedSets := 0, untrackedWindows := 0 }

/-- The tracker's nominal state under the power-on configuration, 50 Hz and C = 10 (R81). -/
def Tracker.init : Tracker :=
  { period := 65536, nextLen := 2560, clampedMark := false, freq := 50000, run := 0, untracked := false }

/-- A framer at power-on (R83). -/
def Framer.init : Framer :=
  { st := .disabled, bank1 := .free, bank2 := .free, window := none, trk := .init, seq := 0, ctr := .zero }

/-- An accumulator at 0 (R127). -/
def Accum.zero : Accum := ⟨0, 0⟩

/-- All accumulators of a point at 0 (R127). -/
def Accumulators.zero : Accumulators :=
  { activeImp := .zero, activeExp := .zero, q1 := .zero, q2 := .zero, q3 := .zero, q4 := .zero
    excess := .zero, harm := Vector.replicate 49 ⟨.zero, .zero⟩ }

/-- The EMPTY interval (R113). -/
def Interval.empty : Interval := { fields := none, discardedWindows := 0, discardedSamples := 0 }

/-- IAU counters at 0 (R126). -/
def IauCounters.zero : IauCounters := { closed := 0, merges := 0, discardedIntervals := 0 }

/-- A point at power-on (R45, R61, R83, R103, R106, R127). -/
def Point.init : Point :=
  { cfg := .init, waitingCfg := none, changeMark := false, vLocked := false, iLocked := false
    vQueue := [], iQueue := [], pair := .zero, framer := .init, result := none, harmFlag := false
    excessFlag := false, finished := 0, acc := .zero, ivl := .empty, iau := .zero }

/-- A limit profile at power-on: no limit at all (R92). -/
def LimitProfile.zero : LimitProfile := { orders := Vector.replicate 49 0, triplen := 0, nonFund := 0 }

/-- The Finisher at power-on (R91, R92, R106). -/
def Finisher.init : Finisher :=
  { queue := [], active := none, abandonedCount := 0, peak := 0, hsets := Vector.replicate 8 [1]
    limits := Vector.replicate 8 .zero }

/-- The default class priorities (R14). -/
def PerClass.defaultPriority : PerClass Nat := { alert := 0, reply := 1, report := 2 }

/-- Port counters at 0 (R19). -/
def PortCounters.zero : PortCounters :=
  { rxFrames := 0, lengthErr := 0, crcErr := 0, looped := 0, linkdownDrop := 0, recordsLost := 0
    txFrames := 0, passOverflow := 0 }

/-- A port at power-on: DOWN and empty (R19). -/
def PortState.init : PortState :=
  { up := false, rx := [], tx := none, pass := [], alertQ := [], replyQ := [], reportQ := [], passCount := 0
    current := .defaultPriority, lastWinner := none, ctr := .zero }

/-- The power-on configuration of alert entry n (R151). -/
def AlertCfg.init (n : Nat) : AlertCfg :=
  { masked := true, level := 0, vector := BitVec.ofNat 8 (0x10 + n), dest := 0x0000#16, port := .a
    deliverFrame := true }

/-- An alert entry at power-on (R151, R166); LINK_DOWN, source 19, is active with both ports (R18). -/
def AlertEntry.init (n : Nat) : AlertEntry :=
  { cfg := .init n, pending := none, count := 0, active := n == 19
    detail := if n == 19 then 0x00000003#32 else 0x00000000#32
    awaiting := false, queuedOn := none, occurrences := 0, frames := 0, restored := 0 }

/-- The Record Queue at power-on (R134, R135). -/
def RecordQueue.init : RecordQueue :=
  { records := [], peakWords := 0, appended := 0, fetched := 0, pushed := 0 }

/-- A push channel at power-on (R138, R147). -/
def Channel.init : Channel :=
  { cfg := { enabled := false, trigger := .manual, source := 0, dest := 0x0000#16, port := .a, count := 0, burst := false }
    st := .disabled, remaining := 0, backlog := 0, seq := 0, fresh := false
    framesPushed := 0, recordsSent := 0, emptyTrigger := 0, backlogSat := 0 }

/-- The delivery side at power-on. -/
def Delivery.init : Delivery :=
  { portA := .init, portB := .init, alerts := Vector.ofFn fun n => AlertEntry.init n.val
    channels := Vector.replicate 4 .init, waitA := [], waitB := [], recq := .init }

/-- The DEVICE entry at power-on: the node number is read from the straps (R178, R179). -/
def Device.init (straps : BitVec 12) : Device :=
  { node := straps.setWidth 16, managers := [], intervalLen := 900, floor := 1, watermark := 12288
    priority := .defaultPriority, metrologyLock := false }

/-- The Management Agent at power-on (R186, R196, R202). -/
def Agent.init : Agent :=
  { queue := [], received := 0, dropped := 0, postedRefused := 0, load := none, loadsOpened := 0
    loadsApplied := 0, loadsExpired := 0, tickets := Vector.replicate 4 .free, issued := 0
    delivered := 0, ticketsExpired := 0 }

/-- The part at the release of the reset input with the given straps, and the commands that wait (R209). -/
def State.powerOn (straps : BitVec 12) (pending : List Instr) : State :=
  { inReset := false, straps := straps, clock := 0, pending := pending, device := .init straps
    classifier := .init, slots := Vector.replicate 32 .init, points := Vector.replicate 24 .init
    finisher := .init, dlv := .init, agent := .init }

/-- The machine right after reset. The level of the node straps is an input the manual does not fix:
DESIGN CHOICE all straps low, so node number 0x0000 (notes/assumptions/2.md, unsafe). -/
def State.reset : State := State.powerOn 0x000#12 []

end Sys2Proof.Machine
end

