-- ==== Sys2Proof/Machine/Arith.lean ====
section
/-! DEFINITION. The arithmetic of the manual's conventions: rounding, big-endian fields, bit maps. -/

namespace Sys2Proof.Machine

/-- "round" of n / d: to the nearest integer, a half away from zero (Conventions, Rounding). -/
def roundDiv (n : Int) (d : Nat) : Int :=
  if 0 ≤ n then (2 * n + d) / (2 * d) else -((2 * (-n) + d) / (2 * d))

/-- "round" of a non-negative quotient. -/
def roundDivNat (n d : Nat) : Nat := (2 * n + d) / (2 * d)

/-- Limits a value to ±bound (R53, R96). -/
def clampTo (bound : Int) (x : Int) : Int :=
  if x > bound then bound else if x < -bound then -bound else x

/-- The w bytes of n, most significant first (R205); the value is taken modulo 256^w. -/
def beNat : Nat → Nat → List Byte
  | 0, _ => []
  | w + 1, n => BitVec.ofNat 8 (n / 256 ^ w) :: beNat w n

/-- The w bytes of a signed value in two's complement, most significant first (R205, 1). -/
def beInt (w : Nat) (x : Int) : List Byte := beNat w (x % (256 ^ w : Nat)).toNat

/-- The number a run of bytes spells, most significant first. -/
def beToNat (l : List Byte) : Nat := l.foldl (fun a b => a * 256 + b.toNat) 0

/-- The unsigned field of w bytes at an offset of a structure (chapter 11). -/
def field (off w : Nat) (l : List Byte) : Nat := beToNat ((l.drop off).take w)

/-- A two's complement reading of an n-bit number (R205, 1). -/
def signedOf (bits n : Nat) : Int := if n < 2 ^ (bits - 1) then n else (n : Int) - 2 ^ bits

/-- A flag as its byte (R205, 2). -/
def flagByte (b : Bool) : Byte := if b then 1 else 0

/-- A flag as bit n of a number (R205, 7). -/
def bitAt (b : Bool) (n : Nat) : Nat := if b then 2 ^ n else 0

/-- w reserved bytes, sent as 0 (R205, 4). -/
def pad (w : Nat) : List Byte := List.replicate w 0

/-- The map with bit i set for each i of Fin n that satisfies f (R205, 7). -/
def mapOf {n : Nat} (f : Fin n → Bool) : Nat := ((List.finRange n).map fun i => bitAt (f i) i.val).sum

/-- A count that saturates at the greatest value of a field of w bytes (R205, 8). -/
def satAdd (w : Nat) (a b : Nat) : Nat := min (a + b) (256 ^ w - 1)

/-- An occurrence count, which saturates at 255 (R153). -/
def sat255 (n : Nat) : Nat := min n 255

/-- A number as an index below n, if it is one. -/
def toIndex (n k : Nat) : Option (Fin n) := if h : k < n then some ⟨k, h⟩ else none

/-- Applies f to each of the seven values. -/
def Seven.map {α β : Type} (f : α → β) (x : Seven α) : Seven β :=
  ⟨f x.ia, f x.ib, f x.ic, f x.inn, f x.va, f x.vb, f x.vc⟩

/-- Combines two sevens value by value. -/
def Seven.zipWith {α β γ : Type} (f : α → β → γ) (x : Seven α) (y : Seven β) : Seven γ :=
  ⟨f x.ia y.ia, f x.ib y.ib, f x.ic y.ic, f x.inn y.inn, f x.va y.va, f x.vb y.vb, f x.vc y.vc⟩

/-- The same value for each of the seven signals. -/
def Seven.const {α : Type} (a : α) : Seven α := ⟨a, a, a, a, a, a, a⟩

/-- The seven values in the order of the POINT gains: IA, IB, IC, IN, VA, VB, VC (R207). -/
def Seven.toList {α : Type} (x : Seven α) : List α := [x.ia, x.ib, x.ic, x.inn, x.va, x.vb, x.vc]

/-- The other port (chapter 1). -/
def otherPort : Port → Port
  | .a => .b
  | .b => .a

/-- A port as its code in a single field (R205, 7). -/
def portCode : Port → Nat
  | .a => 0
  | .b => 1

/-- The timebase in milliseconds (Conventions, Two clocks). -/
def timebase (s : State) : Nat := s.clock / 1000

end Sys2Proof.Machine
end

