-- ==== Sys2Proof/Machine/Crc.lean ====
section
/-! DEFINITION. The CRC-32 of frames and of LOAD-CLOSE (R206). -/

namespace Sys2Proof.Machine

/-- The generator (R206). -/
def crcGenerator : BitVec 32 := 0x04C11DB7#32

/-- One message bit into the register. -/
def crcBit (r : BitVec 32) (bit : Bool) : BitVec 32 :=
  if r.getLsbD 31 != bit then (r <<< 1) ^^^ crcGenerator else r <<< 1

/-- One byte, least significant bit first (R206). -/
def crcByte (r : BitVec 32) (b : Byte) : BitVec 32 :=
  (List.range 8).foldl (fun r i => crcBit r (b.getLsbD i)) r

/-- The value bit-reversed. -/
def reverse32 (r : BitVec 32) : BitVec 32 :=
  BitVec.ofNat 32 (((List.range 32).map fun i => bitAt (r.getLsbD i) (31 - i)).sum)

/-- The CRC-32 of a run of bytes: initial value all ones, each byte least significant bit first, the result
bit-reversed and complemented (R206). -/
def crc32 (l : List Byte) : BitVec 32 := ~~~ reverse32 (l.foldl crcByte 0xFFFFFFFF#32)

end Sys2Proof.Machine
end

