-- ==== Sys2Proof/Machine/Twiddle.lean ====
section
/-! DEFINITION. The twiddle ROM (R87): COS[i] = round(32,767 × cos(2πi / 4,096)) and the sine of the same
angle. The contents are computed, in fixed point with 36 decimal places, from the power series of the
cosine over the first quarter. The nearest the exact products come to a half is over 10^-4 (checked
for every entry when this file was written; the series is exact to 10^-35), so the series fixes every entry. -/

namespace Sys2Proof.Machine

/-- One in fixed point: 36 decimal places. -/
def fixOne : Nat := 10 ^ 36

/-- 2π in fixed point, rounded down. -/
def fixTwoPi : Nat := 6283185307179586476925286766559005768

/-- The alternating sum of the cosine series from the term `t` = x^2k / (2k)! on, `n` terms, with x2 = x². -/
def cosSeries : Nat → Nat → Nat → Nat → Int
  | 0, _, _, _ => 0
  | n + 1, k, t, x2 => (t : Int) - cosSeries n (k + 1) (t * x2 / (fixOne * ((2 * k + 1) * (2 * k + 2)))) x2

/-- round(32,767 × cos(2πj / 4,096)) for j in the first quarter, 0..1,024. -/
def cosQuarter (j : Nat) : Int :=
  let x := fixTwoPi * j / 4096
  roundDiv (Config.twiddlePeak * cosSeries 22 0 fixOne (x * x / fixOne)) fixOne

/-- COS[i] (R87), i in 0..4,095. -/
def twiddleCos (i : Nat) : Int :=
  if i ≤ 1024 then cosQuarter i
  else if i ≤ 2048 then -cosQuarter (2048 - i)
  else if i ≤ 3072 then -cosQuarter (i - 2048)
  else cosQuarter (4096 - i)

/-- SIN[i] (R87): the sine is the cosine a quarter turn earlier. -/
def twiddleSin (i : Nat) : Int := twiddleCos ((i + 3072) % 4096)

end Sys2Proof.Machine
end

