-- ==== Sys2Proof/Machine/Correlate.lean ====
section
/-! DEFINITION. The correlation of a bank (R88, R89). -/

namespace Sys2Proof.Machine

/-- A bank made ready for a window: every sum 0 (R88). -/
def BankSums.begin (cfg : PointCfg) (len : Nat) (orders : List Nat) : BankSums :=
  { neutral := cfg.useNeutral, cycles := cfg.cycles, len := len
    orders := orders.map fun h => { order := h, re := .const 0, im := .const 0 }
    ss := .const 0 }

/-- The twiddle index of position n for order h with C cycles in a window of length L (R89). -/
def twiddleIndex (h c n len : Nat) : Nat := ((2 * (h * c) * n * 4096 + len) / (2 * len)) % 4096

/-- The signals of a position that the bank sums: IN only with use neutral on (R88). -/
def BankSums.signals (b : BankSums) (x : Seven Int) : Seven Int := { x with inn := if b.neutral then x.inn else 0 }

/-- One order's sums with position n added (R89). -/
def OrderSums.add (c len n : Nat) (x : Seven Int) (o : OrderSums) : OrderSums :=
  let idx := twiddleIndex o.order c n len
  { o with
    re := o.re.zipWith (fun acc v => acc + v * twiddleCos idx) x
    im := o.im.zipWith (fun acc v => acc - v * twiddleSin idx) x }

/-- The bank with position n added (R89). -/
def BankSums.add (n : Nat) (x : Seven Int) (b : BankSums) : BankSums :=
  let y := b.signals x
  { b with
    orders := b.orders.map (OrderSums.add b.cycles b.len n y)
    ss := b.ss.zipWith (fun acc v => acc + v * v) y }

end Sys2Proof.Machine
end

