-- ==== Sys2Proof/Machine/Framer.lean ====
section
/-! DEFINITION. The Window Framer and frequency tracker of one point, and the application of a point's
configuration (R49, R65 to R83). Every function here works on one `Point` and answers it with the
events the other blocks must see, in order. -/

namespace Sys2Proof.Machine

/-- What a point reads from the rest of the part: the harmonic sets and the present slot states. -/
structure PointCtx where
  hsets : Vector (List Nat) 8
  slots : Vector Slot 32
deriving DecidableEq, Repr

/-- What a point's block reports to the others. -/
inductive PointEvent where
  /-- PAIRING_OVERFLOW (R57). -/
  | overflow
  /-- WINDOW_DISCARDED with its reason (R76). -/
  | discarded (r : DiscardReason)
  /-- The point's untracked flag takes a value (R80). -/
  | untracked (b : Bool)
  /-- A window is placed on the Finish Queue; the entry's point is filled in by the receiver (R69). -/
  | handOver (e : FinishEntry)
deriving DecidableEq, Repr

/-- A point with the events it has reported. -/
abbrev PointStep := Point × List PointEvent

/-- Runs a second part of an event after a first. -/
def PointStep.andThen (x : PointStep) (f : Point → PointStep) : PointStep :=
  ((f x.1).1, x.2 ++ (f x.1).2)

/-! ## Banks -/

def otherBank : BankIx → BankIx
  | .first => .second
  | .second => .first

def Framer.bank (f : Framer) : BankIx → Bank
  | .first => f.bank1
  | .second => f.bank2

def Framer.setBank (f : Framer) (ix : BankIx) (b : Bank) : Framer :=
  match ix with
  | .first => { f with bank1 := b }
  | .second => { f with bank2 := b }

/-- The bank a window is begun in at entry from WAITING: the first when it is FREE (R66). -/
def Framer.freeIx (f : Framer) : BankIx := if f.bank1 = .free then .first else .second

/-- An ACTIVE bank given up becomes FREE; an OUT bank stays (R74, R83). -/
def Bank.released : Bank → Bank
  | .active _ => .free
  | .free => .free
  | .out b => .out b

/-- Position n filled with the given values: the ACTIVE bank takes them (R89). -/
def Bank.fill (n : Nat) (x : Seven Int) : Bank → Bank
  | .active b => .active (b.add n x)
  | .free => .free
  | .out b => .out b

/-- The bank of a window handed over (R69, 3). -/
def Bank.handed : Bank → Bank
  | .active b => .out b
  | .free => .free
  | .out b => .out b

/-! ## The nominal state of the tracker (R81) -/

def Nominal.hz : Nominal → Nat
  | .hz50 => 50
  | .hz60 => 60

/-- L_nom = round(C × 12,800 / f_nom) (R81). -/
def nominalLength (cfg : PointCfg) : Nat := roundDivNat (cfg.cycles * Config.sampleRate) cfg.nominal.hz

/-- The nominal state of the tracker for a configuration (R81). -/
def nominalTracker (cfg : PointCfg) : Tracker :=
  { period := roundDivNat (Config.sampleRate * 256) cfg.nominal.hz
    nextLen := nominalLength cfg
    clampedMark := false
    freq := cfg.nominal.hz * 1000
    run := 0
    untracked := false }

/-- The report of a change of the untracked flag, when it changes (R80). -/
def untrackedEvents (before after : Tracker) : List PointEvent :=
  if before.untracked = after.untracked then [] else [.untracked after.untracked]

/-- The point's tracker takes the nominal state for a configuration (R81). -/
def Point.setNominal (cfg : PointCfg) (p : Point) : PointStep :=
  ({ p with framer := { p.framer with trk := nominalTracker cfg } }, untrackedEvents p.framer.trk (nominalTracker cfg))

/-! ## Queues and source states -/

/-- Both alignment queues are emptied, each entry counted UNPAIRED (R49, R50, R59). -/
def Point.emptyQueues (p : Point) : Point :=
  { p with
    vQueue := [], iQueue := []
    pair := { p.pair with unpaired := p.pair.unpaired + BitVec.ofNat 32 (p.vQueue.length + p.iQueue.length) } }

/-- The source states are taken from the present states of the slots (R49, R50, R61). -/
def Point.takeSources (ctx : PointCtx) (p : Point) : Point :=
  { p with vLocked := ctx.slots[p.cfg.vSlot].st = .locked, iLocked := ctx.slots[p.cfg.iSlot].st = .locked }

/-! ## Applying a configuration (R49) -/

/-- A field of the binding differs: the V slot, the I slot, use neutral or a gain (R49, 1). -/
def bindingDiffers (a b : PointCfg) : Bool :=
  a.vSlot ≠ b.vSlot || a.iSlot ≠ b.iSlot || a.useNeutral ≠ b.useNeutral || a.gains ≠ b.gains

/-- A field other than the tan limit differs (R49, 2). -/
def differsBeyondTan (a b : PointCfg) : Bool := { a with tanLimit := b.tanLimit } ≠ b

/-- A configuration is put in force (R49); `mark` is clear at a point reset and an accounting restart. A
change of C or of the nominal frequency gives the tracker its nominal state (R81). -/
def Point.applyCfg (ctx : PointCtx) (mark : Bool) (new : PointCfg) (p : Point) : PointStep :=
  let old := p.cfg
  let p1 := { p with cfg := new, changeMark := p.changeMark || (mark && differsBeyondTan old new) }
  let p2 := if bindingDiffers old new then p1.emptyQueues.takeSources ctx else p1
  if old.cycles ≠ new.cycles || old.nominal ≠ new.nominal then p2.setNominal new else (p2, [])

/-- A pending configuration, if one is held, is applied (R49). -/
def Point.applyPending (ctx : PointCtx) (p : Point) : PointStep :=
  match p.waitingCfg with
  | none => (p, [])
  | some c => { p with waitingCfg := none }.applyCfg ctx true c

/-! ## Beginning a window (R66, R67) -/

/-- The window record formed for a point (R67). -/
def newWindow (p : Point) (ix : BankIx) : Window :=
  { len := p.framer.trk.nextLen, cfg := p.cfg, bank := ix, start := none, expected := none, pos := 0
    covered := 0, bridgedCount := 0
    flags := { untracked := false, clamped := p.framer.trk.clampedMark, bridged := false, incomplete := false
               firstAfterChange := p.changeMark }
    firstCross := none, lastCross := none, crossings := 0, lastVals := none, lastReal := none }

/-- The framer begins a window in a bank, which becomes ACTIVE with its sums at 0 (R67, R88); the change
mark is given to the window and cleared. -/
def Point.beginWindow (ctx : PointCtx) (ix : BankIx) (p : Point) : Point :=
  let sums := BankSums.begin p.cfg p.framer.trk.nextLen ctx.hsets[p.cfg.hset]
  { p with
    changeMark := false
    framer := { p.framer.setBank ix (.active sums) with st := .collecting, window := some (newWindow p ix) } }

/-- Both source states of the point are LOCKED. -/
def Point.bothLocked (p : Point) : Bool := p.vLocked && p.iLocked

/-- A framer in WAITING whose source states are both LOCKED enters COLLECTING (R66). -/
def Point.enterIfLocked (ctx : PointCtx) (p : Point) : Point :=
  if p.framer.st = .waiting && p.bothLocked then p.beginWindow ctx p.framer.freeIx else p

/-! ## Giving up and discarding (R74, R76) -/

/-- The current window is given up: no record, and its ACTIVE bank FREE (R74, R83). -/
def Point.dropWindow (p : Point) : Point :=
  { p with framer := { p.framer with window := none, bank1 := p.framer.bank1.released, bank2 := p.framer.bank2.released } }

/-- The counters of a discard (R76, R82). -/
def FramerCounters.discard (r : DiscardReason) (elapsed : Nat) (c : FramerCounters) : FramerCounters :=
  let c1 := { c with discarded := c.discarded + 1, samples := c.samples + BitVec.ofNat 32 elapsed }
  match r with
  | .gap => { c1 with gap := c.gap + 1 }
  | .stepBack => { c1 with stepBack := c.stepBack + 1 }
  | .source => { c1 with source := c.source + 1 }
  | .coverage => { c1 with coverage := c.coverage + 1 }
  | .finishLate => { c1 with finishLate := c.finishLate + 1 }

/-- A discard report reaching the interval (R118). -/
def Interval.discard (elapsed : Nat) (v : Interval) : Interval :=
  { v with discardedWindows := satAdd 2 v.discardedWindows 1, discardedSamples := satAdd 4 v.discardedSamples elapsed }

/-- The elapsed samples of a window discarded before its end: expected index - s (R76). -/
def Window.elapsed (w : Window) : Nat := w.expected.getD 0 - w.start.getD 0

/-- A discard of window w, short of what follows it (R76, 1 to 3, and its last paragraph). -/
def Point.discard (r : DiscardReason) (elapsed : Nat) (w : Window) (p : Point) : PointStep :=
  ({ p with
     changeMark := p.changeMark || w.flags.firstAfterChange
     ivl := p.ivl.discard elapsed
     framer := { p.framer with ctr := p.framer.ctr.discard r elapsed } }, [.discarded r])

/-- The framer leaves COLLECTING for WAITING with no window; a pending configuration is applied, and a
framer that then finds both sources LOCKED enters COLLECTING (R49, R74). -/
def Point.toWaiting (ctx : PointCtx) (p : Point) : PointStep :=
  let p1 := p.dropWindow
  let x := { p1 with framer := { p1.framer with st := .waiting } }.applyPending ctx
  (x.1.enterIfLocked ctx, x.2)

/-- A source leaves LOCKED while the framer is in COLLECTING (R74). -/
def Point.sourceLost (ctx : PointCtx) (p : Point) : PointStep :=
  match p.framer.window with
  | none => p.toWaiting ctx
  | some w =>
    if w.start.isNone then { p with changeMark := p.changeMark || w.flags.firstAfterChange }.toWaiting ctx
    else if w.cfg.policy = .restart then (p.discard .source w.elapsed w).andThen (Point.toWaiting ctx)
    else ({ p with framer := { p.framer with st := .held } }, [])

/-- The framer acts on source states just taken as on reports (R49, 1). -/
def Point.react (ctx : PointCtx) (p : Point) : PointStep :=
  if p.framer.st = .collecting && !p.bothLocked then p.sourceLost ctx else (p.enterIfLocked ctx, [])

/-- A pending configuration is applied, a new window is begun in a bank, and the framer acts on the source
states (R49, R69 steps 4 and 5, R76). -/
def Point.nextWindow (ctx : PointCtx) (ix : BankIx) (p : Point) : PointStep :=
  (p.applyPending ctx).andThen fun q => (q.beginWindow ctx ix).react ctx

/-- A window is discarded before its end and a new one is begun in its bank (R71, R73). -/
def Point.restartWindow (ctx : PointCtx) (r : DiscardReason) (w : Window) (p : Point) : PointStep :=
  (p.discard r w.elapsed w).andThen (Point.nextWindow ctx w.bank)

/-! ## The frequency tracker (R77 to R80) -/

/-- The position of a positive-going zero crossing at the set taken at position n, when position n - 1 was
real and taken (R77). -/
def crossingAt (w : Window) (n : Nat) (va : Int) : Option Nat :=
  match w.lastReal, w.lastVals with
  | some r, some y =>
    if r + 1 = n && y.va < 0 && 0 ≤ va then some (r * 256 + (256 * (-y.va) / (va - y.va)).toNat) else none
  | _, _ => none

/-- A crossing offered for acceptance (R78). -/
def Window.offerCrossing (period pos : Nat) (w : Window) : Window :=
  match w.lastCross with
  | none => { w with firstCross := some pos, lastCross := some pos, crossings := 1 }
  | some l => if l + 3 * period / 4 ≤ pos then { w with lastCross := some pos, crossings := w.crossings + 1 } else w

/-- The crossing of a set at position n, if there is one, is offered (R77, R78). -/
def Window.examine (period n : Nat) (va : Int) (w : Window) : Window :=
  match crossingAt w n va with
  | none => w
  | some pos => w.offerCrossing period pos

/-- period256 of a window with at least two crossings (R79). -/
def Window.period256 (w : Window) : Option Nat :=
  if 2 ≤ w.crossings then some (roundDivNat (w.lastCross.getD 0 - w.firstCross.getD 0) (w.crossings - 1)) else none

/-- The valid period of a window, if it has one (R79). -/
def Window.validPeriod (w : Window) : Option Nat :=
  match w.period256 with
  | none => none
  | some p => if Config.periodMin ≤ p && p ≤ Config.periodMax then some p else none

/-- The tracker after a window with a valid period (R79). -/
def Tracker.tracked (c p : Nat) : Tracker :=
  let len := roundDivNat (c * p) 256
  { period := p
    nextLen := min len Config.maxLength
    clampedMark := Config.maxLength < len
    freq := roundDivNat 3276800000 p
    run := 0
    untracked := false }

/-- The tracker after a window without one (R80). -/
def Tracker.lost (w : Window) (t : Tracker) : Tracker :=
  let run := min 3 (t.run + 1)
  if run < 3 then { t with nextLen := w.len, run := run }
  else
    { period := (nominalTracker w.cfg).period, nextLen := nominalLength w.cfg, clampedMark := false
      freq := t.freq, run := run, untracked := true }

/-- The tracker's evaluation of a window at its end (R79, R80). -/
def Tracker.evaluate (w : Window) (t : Tracker) : Tracker :=
  match w.validPeriod with
  | some p => .tracked w.cfg.cycles p
  | none => t.lost w

/-! ## The end of a window (R69) -/

/-- The Finish Queue entry of an ended window (R70). -/
def finishEntry (p : Point) (w : Window) : FinishEntry :=
  { point := 0, bank := w.bank, seq := p.framer.seq, start := w.start.getD 0, len := w.len, covered := w.covered
    bridgedCount := w.bridgedCount, flags := w.flags, freq := p.framer.trk.freq, cfg := w.cfg }

/-- The hand-over of an ended window: its bank becomes OUT and it takes the next sequence number (R69, R70). -/
def Point.handOver (w : Window) (p : Point) : PointStep :=
  let f := p.framer
  let p1 := { p with
    framer := { f.setBank w.bank (f.bank w.bank).handed with
      seq := f.seq + 1, window := none, ctr := { f.ctr with handed := f.ctr.handed + 1 } } }
  (p1, [.handOver (finishEntry p1 w)])

/-- Step 1 of R69: the tracker evaluates the window (R79, R80). -/
def Point.trackerStep (w : Window) (p : Point) : PointStep :=
  let t := p.framer.trk.evaluate w
  let c := p.framer.ctr
  ({ p with
     framer := { p.framer with
       trk := t
       ctr := if w.validPeriod.isNone then { c with untrackedWindows := c.untrackedWindows + 1 } else c } },
    untrackedEvents p.framer.trk t)

/-- The coverage test (R72). -/
def Window.coverageOk (w : Window) : Bool := w.cfg.minCoverage * w.len ≤ w.covered * 100

/-- Positions of the window were skipped (R69, 2). -/
def Window.skipped (w : Window) : Bool := w.covered + w.bridgedCount < w.len

/-- The ended window with its UNTRACKED and PARTIAL flags (R72, R80). -/
def Window.ended (w : Window) : Window :=
  { w with flags := { w.flags with untracked := w.validPeriod.isNone, incomplete := w.skipped } }

/-- Steps 2 to 5 of R69. -/
def Point.closeWindow (ctx : PointCtx) (w : Window) (p : Point) : PointStep :=
  if w.skipped && !w.coverageOk then (p.discard .coverage w.len w).andThen (Point.nextWindow ctx w.bank)
  else if p.framer.bank (otherBank w.bank) = .free then
    (p.handOver w.ended).andThen (Point.nextWindow ctx (otherBank w.bank))
  else (p.discard .finishLate w.len w).andThen (Point.nextWindow ctx w.bank)

/-- The current window ends (R69). -/
def Point.windowEnd (ctx : PointCtx) (p : Point) : PointStep :=
  match p.framer.window with
  | none => (p, [])
  | some w => (p.trackerStep w).andThen (Point.closeWindow ctx w)

/-! ## Taking paired sets (R68, R71 to R73) -/

/-- A paired set as the Pairing Unit hands it over (R58). -/
structure PairedSet where
  index : Nat
  vals : Seven Int
  clamp : Bool
deriving DecidableEq, Repr

/-- The window with a real set taken at position n (R68). -/
def Window.takeReal (period n : Nat) (x : PairedSet) (w : Window) : Window :=
  { w.examine period n x.vals.va with
    covered := w.covered + 1
    expected := some (x.index + 1)
    pos := n + 1
    lastVals := some x.vals
    lastReal := some n
    flags := { w.flags with clamped := w.flags.clamped || x.clamp } }

/-- The window with its next position bridged (R71). -/
def Window.takeBridged (w : Window) : Window :=
  { w with
    expected := some (w.expected.getD 0 + 1)
    pos := w.pos + 1
    bridgedCount := w.bridgedCount + 1
    flags := { w.flags with bridged := true } }

/-- A real set is taken at position n of window w; at position L - 1 the window ends (R68). -/
def Point.takeAt (ctx : PointCtx) (n : Nat) (x : PairedSet) (w : Window) (p : Point) : PointStep :=
  let f := p.framer
  let p1 := { p with
    framer := { f.setBank w.bank ((f.bank w.bank).fill n x.vals) with window := some (w.takeReal f.trk.period n x) } }
  if n + 1 = w.len then p1.windowEnd ctx else (p1, [])

/-- A set starts the window begun, if the framer is in COLLECTING with one (R68, 1). A set that has ended or discarded
the window before it starts the next one even when a pending configuration with another binding was applied
in between, and is used by nobody when the framer went to WAITING (DESIGN CHOICE, notes/assumptions/15.md). -/
def Point.startWith (ctx : PointCtx) (x : PairedSet) (p : Point) : PointStep :=
  match p.framer.st, p.framer.window with
  | .collecting, some w => p.takeAt ctx 0 x { w with start := some x.index }
  | _, _ => (p, [])

/-- The next k positions of the current window are bridged with the last values (R71). -/
def Point.bridge : Nat → Point → Point
  | 0, p => p
  | k + 1, p =>
    match p.framer.window with
    | none => p
    | some w =>
      let f := p.framer
      Point.bridge k { p with
        framer := { f.setBank w.bank ((f.bank w.bank).fill w.pos (w.lastVals.getD (.const 0))) with
          window := some w.takeBridged
          ctr := { f.ctr with bridgedSets := f.ctr.bridgedSets + 1 } } }

/-- A gap under BRIDGE within the limit (R71). Where the window ends by bridging, the arriving set may start the next one
(notes/assumptions/15.md, as for `Point.startWith`). -/
def Point.bridgeGap (ctx : PointCtx) (x : PairedSet) (g s : Nat) (w : Window) (p : Point) : PointStep :=
  if w.len ≤ w.pos + g then
    ((p.bridge (w.len - w.pos)).windowEnd ctx).andThen (Point.startWith ctx x)
  else
    let p1 := p.bridge g
    match p1.framer.window with
    | none => (p1, [])
    | some w1 => p1.takeAt ctx (x.index - s) x w1

/-- A gap under SKIP (R72). Where the window ends short, the arriving set may start the next one
(notes/assumptions/15.md, as for `Point.startWith`). -/
def Point.skipGap (ctx : PointCtx) (x : PairedSet) (s : Nat) (w : Window) (p : Point) : PointStep :=
  if x.index < s + w.len then p.takeAt ctx (x.index - s) x w
  else (p.windowEnd ctx).andThen (Point.startWith ctx x)

/-- A gap of g positions before the arriving set (R71, R72). -/
def Point.gap (ctx : PointCtx) (x : PairedSet) (g s : Nat) (w : Window) (p : Point) : PointStep :=
  match w.cfg.policy with
  | .skip => p.skipGap ctx x s w
  | .bridge =>
    if g ≤ w.cfg.bridgeLimit then p.bridgeGap ctx x g s w
    else (p.restartWindow ctx .gap w).andThen (Point.startWith ctx x)
  | .restart => (p.restartWindow ctx .gap w).andThen (Point.startWith ctx x)

/-- A paired set reaches the framer (R68). -/
def Point.frame (ctx : PointCtx) (x : PairedSet) (p : Point) : PointStep :=
  match p.framer.st, p.framer.window with
  | .collecting, some w =>
    match w.start with
    | none => p.startWith ctx x
    | some s =>
      let e := w.expected.getD 0
      if x.index = e then p.takeAt ctx (x.index - s) x w
      else if e < x.index then p.gap ctx x (x.index - e) s w
      else (p.restartWindow ctx .stepBack w).andThen (Point.startWith ctx x)
  | _, _ => (p, [])

end Sys2Proof.Machine
end

