-- ==== Sys2Proof/Machine/Finish.lean ====
section
/-! DEFINITION. The finish computation (R94 to R101, R103): a full bank and its window description become a
window result. -/

namespace Sys2Proof.Machine

/-- The duration of a finish of n orders, in microseconds (R94). -/
def finishDuration (n : Nat) : Nat := 1000 + 250 * n

/-- The divisor D of a window (5.5). -/
def finishDivisor (e : FinishEntry) : Nat := if e.flags.incomplete then e.covered else e.len

/-- A phasor component before its clamp (R96). -/
def phasorRaw (d : Nat) (sum : Int) : Int := roundDiv (2 * sum) (Config.twiddlePeak * d)

/-- A phasor component (R96). -/
def phasorPart (d : Nat) (sum : Int) : Int := clampTo Config.phasorMax (phasorRaw d sum)

/-- The clamp changes a component of the order (R96). -/
def phasorClamped (d : Nat) (o : OrderSums) : Bool :=
  (o.re.toList ++ o.im.toList).any fun x => phasorPart d x ≠ phasorRaw d x

/-- The three-phase sum behind P_h: Vre × Ire + Vim × Iim (R97). -/
def activeSum (re im : Seven Int) : Int :=
  (re.va * re.ia + im.va * im.ia) + (re.vb * re.ib + im.vb * im.ib) + (re.vc * re.ic + im.vc * im.ic)

/-- The three-phase sum behind Q_h: Vim × Ire - Vre × Iim (R97). -/
def reactiveSum (re im : Seven Int) : Int :=
  (im.va * re.ia - re.va * im.ia) + (im.vb * re.ib - re.vb * im.ib) + (im.vc * re.ic - re.vc * im.ic)

/-- The limit lim_h of a profile; 0 is no limit (R92). -/
def LimitProfile.order (l : LimitProfile) (h : Nat) : Nat := (l.orders[h - 2]?).getD 0

/-- A current phasor exceeds a limit: re² + im² > 2 × lim² (R99). -/
def exceeds (lim : Nat) (re im : Int) : Bool := lim ≠ 0 && 2 * (lim : Int) ^ 2 < re ^ 2 + im ^ 2

/-- The exceed flag of order h (R99); order 1 is always clear. -/
def exceedFlag (l : LimitProfile) (neutral : Bool) (h : Nat) (re im : Seven Int) : Bool :=
  2 ≤ h &&
    (exceeds (l.order h) re.ia im.ia || exceeds (l.order h) re.ib im.ib || exceeds (l.order h) re.ic im.ic ||
      (neutral && h % 3 == 0 && exceeds l.triplen re.inn im.inn))

/-- One order's block of the result (R96, R97, R99). -/
def orderResult (d : Nat) (neutral : Bool) (l : LimitProfile) (o : OrderSums) : OrderResult :=
  let re := o.re.map (phasorPart d)
  let im := o.im.map (phasorPart d)
  { order := o.order, re := re, im := im
    p := roundDiv (activeSum re im) 200000
    q := roundDiv (reactiveSum re im) 200000
    exceed := exceedFlag l neutral o.order re im }

/-- Total and non-fundamental squared RMS of a current signal, from its sum of squares and its order-1
phasor (R98). -/
def currentTotals (d : Nat) (ss re im : Int) : CurrentTotals :=
  let total := (ss / d).toNat
  { total := total, nonFund := total - ((re ^ 2 + im ^ 2) / 2).toNat }

/-- The reactive excess (R101). -/
def reactiveExcess (tan : Nat) (p q : Int) : Nat := q.natAbs - tan * p.natAbs / 1000

/-- The order-1 block of a list of results. -/
def fundamental (l : List OrderResult) : OrderResult :=
  (l.find? fun o => o.order == 1).getD { order := 1, re := .const 0, im := .const 0, p := 0, q := 0, exceed := false }

/-- The non-fundamental exceed flag (R100). -/
def nonFundFlag (l : LimitProfile) (ia ib ic : CurrentTotals) : Bool :=
  l.nonFund ≠ 0 && (l.nonFund ^ 2 < ia.nonFund || l.nonFund ^ 2 < ib.nonFund || l.nonFund ^ 2 < ic.nonFund)

/-- The window result of a finish (R96 to R101, R103). -/
def finishResult (e : FinishEntry) (b : BankSums) (l : LimitProfile) : WindowResult :=
  let d := finishDivisor e
  let orders := b.orders.map (orderResult d b.neutral l)
  let f := fundamental orders
  let ia := currentTotals d b.ss.ia f.re.ia f.im.ia
  let ib := currentTotals d b.ss.ib f.re.ib f.im.ib
  let ic := currentTotals d b.ss.ic f.re.ic f.im.ic
  { seq := e.seq, start := e.start, len := e.len, covered := e.covered, bridgedCount := e.bridgedCount
    flags := { e.flags with clamped := e.flags.clamped || b.orders.any (phasorClamped d) }
    neutral := b.neutral, freq := e.freq, excess := reactiveExcess e.cfg.tanLimit f.p f.q, orders := orders
    ia := ia, ib := ib, ic := ic
    inn := if b.neutral then currentTotals d b.ss.inn f.re.inn f.im.inn else ⟨0, 0⟩
    nonFundExceed := nonFundFlag l ia ib ic }

/-- Any exceed flag of the window is set (R102, 2). -/
def anyExceed (r : WindowResult) : Bool := r.nonFundExceed || r.orders.any (·.exceed)

end Sys2Proof.Machine
end

