-- ==== Sys2Proof/Machine/Ops.lean ====
section
/-! DEFINITION. The shared operations of the delivery side: ports and arbiters (chapter 1), alert entries
(chapter 8), push channels and the Record Queue (chapter 7), and the cascade in which one event of that
side brings about the next. -/

namespace Sys2Proof.Machine

/-- What the delivery side reads from the rest of the part: fields of the DEVICE entry and the timebase. -/
structure Env where
  node : Node
  floor : Nat
  watermark : Nat
  priority : PerClass Nat
  now : Nat
deriving DecidableEq, Repr

/-- The environment of the delivery side in a state. -/
def State.env (s : State) : Env :=
  { node := s.device.node, floor := s.device.floor, watermark := s.device.watermark
    priority := s.device.priority, now := timebase s }

/-! ## Access -/

def Delivery.port (d : Delivery) : Port → PortState
  | .a => d.portA
  | .b => d.portB

def Delivery.setPort (d : Delivery) (p : Port) (q : PortState) : Delivery :=
  match p with
  | .a => { d with portA := q }
  | .b => { d with portB := q }

def Delivery.modPort (d : Delivery) (p : Port) (f : PortState → PortState) : Delivery := d.setPort p (f (d.port p))

/-- The wait list of a port (R143). -/
def Delivery.wait (d : Delivery) : Port → List (Fin 4)
  | .a => d.waitA
  | .b => d.waitB

def Delivery.setWait (d : Delivery) (p : Port) (w : List (Fin 4)) : Delivery :=
  match p with
  | .a => { d with waitA := w }
  | .b => { d with waitB := w }

def Delivery.alert (d : Delivery) (n : Fin 20) : AlertEntry := d.alerts[n]

def Delivery.setAlert (d : Delivery) (n : Fin 20) (e : AlertEntry) : Delivery :=
  { d with alerts := d.alerts.set n e }

def Delivery.channel (d : Delivery) (c : Fin 4) : Channel := d.channels[c]

def Delivery.setChannel (d : Delivery) (c : Fin 4) (x : Channel) : Delivery :=
  { d with channels := d.channels.set c x }

/-- Changes the counters of a port. -/
def Delivery.count (d : Delivery) (p : Port) (f : PortCounters → PortCounters) : Delivery :=
  d.modPort p fun q => { q with ctr := f q.ctr }

/-- A frame has left the receive buffer of a port, with a verdict that changes the port's counters (R2). -/
def Delivery.received (d : Delivery) (p : Port) (f : PortCounters → PortCounters) : Delivery :=
  d.modPort p fun q => { q with rx := [], ctr := f q.ctr }

/-! ## The egress arbiter (R11 to R13) -/

/-- Some local queue of the port holds a frame. -/
def PortState.localWaiting (q : PortState) : Bool :=
  !(q.alertQ.isEmpty && q.replyQ.isEmpty && q.reportQ.isEmpty)

/-- The class has a frame waiting. -/
def PortState.classWaiting (q : PortState) : EgressClass → Bool
  | .alert => !q.alertQ.isEmpty
  | .reply => !q.replyQ.isEmpty
  | .report => !q.reportQ.isEmpty

/-- The value of a class. -/
def PerClass.get {α : Type} (v : PerClass α) : EgressClass → α
  | .alert => v.alert
  | .reply => v.reply
  | .report => v.report

/-- The circular order of R13, counted from the class that follows the last winner. -/
def classOrder : Option EgressClass → List EgressClass
  | none => [.alert, .reply, .report]
  | some .alert => [.reply, .report, .alert]
  | some .reply => [.report, .alert, .reply]
  | some .report => [.alert, .reply, .report]

/-- The class a local grant goes to: lowest current value, ties to the first in the circular order (R13). -/
def pickClass (q : PortState) : Option EgressClass :=
  ((classOrder q.lastWinner).filter q.classWaiting).foldl
    (fun best c => match best with
      | none => some c
      | some b => if q.current.get c < q.current.get b then some c else some b) none

/-- A class's current value after a local grant (R13, 1 to 3). -/
def currentAfter (initial : PerClass Nat) (q : PortState) (win c : EgressClass) : Nat :=
  if c = win then initial.get c
  else if q.classWaiting c then q.current.get c - 1 else q.current.get c

/-- The arbiter's state after a local grant to a class, once the frame has left its queue: the pass-through
counter is 0, the values follow R13 and the winner is kept. -/
def afterLocalGrant (initial : PerClass Nat) (q : PortState) (win : EgressClass) : PortState :=
  { q with
    passCount := 0
    current := ⟨currentAfter initial q win .alert, currentAfter initial q win .reply, currentAfter initial q win .report⟩
    lastWinner := some win }

/-- The transmitter is free: the link is UP and nothing is being transmitted (R11). -/
def PortState.free (q : PortState) : Bool := q.up && q.tx.isNone

/-- Between pass-through and local, the grant goes to pass-through (R12). -/
def grantsPass (q : PortState) : Bool := !q.pass.isEmpty && (!q.localWaiting || q.passCount < 3)

/-! ## Alert entries -/

/-- The LEVEL sources (R150); every other source is an EDGE source. -/
def isLevel (n : Fin 20) : Bool := [0, 4, 5, 6, 8, 19].contains n.val

/-- An entry is deliverable (R152). -/
def AlertEntry.deliverable (floor : Nat) (e : AlertEntry) : Bool :=
  !e.cfg.masked && e.cfg.deliverFrame && floor ≤ e.cfg.level

/-- An entry is ready (R156). -/
def AlertEntry.ready (floor : Nat) (n : Fin 20) (e : AlertEntry) : Bool :=
  e.deliverable floor && e.queuedOn.isNone && (if isLevel n then e.active && !e.awaiting else e.pending.isSome)

/-- The ready entry naming a port that is offered first: highest level, then lowest source number (R156). -/
def bestReady (floor : Nat) (p : Port) (d : Delivery) : Option (Fin 20) :=
  (List.finRange 20).foldl
    (fun best n =>
      let e := d.alert n
      if e.ready floor n && e.cfg.port = p then
        match best with
        | none => some n
        | some b => if (d.alert b).cfg.level < e.cfg.level then some n else some b
      else best) none

/-- The alert frame of an entry at its building (R157). -/
def buildAlert (env : Env) (n : Fin 20) (e : AlertEntry) : AlertFrame :=
  { dest := e.cfg.dest, source := env.node, vector := e.cfg.vector, level := e.cfg.level, number := n
    edge := !isLevel n, count := e.count
    detail := if isLevel n then e.detail else e.pending.getD 0
    timebase := BitVec.ofNat 32 env.now }

/-- An entry once its frame is built (R157): SEND-PENDING; a LEVEL entry's count becomes 0. -/
def AlertEntry.afterBuild (n : Fin 20) (p : Port) (e : AlertEntry) : AlertEntry :=
  { e with queuedOn := some p, count := if isLevel n then 0 else e.count }

/-- A frame placed in the ALERT queue: after every frame of its level or a higher one (R10). -/
def insertAlert (f : AlertFrame) (q : List AlertFrame) : List AlertFrame :=
  q.takeWhile (fun g => f.level ≤ g.level) ++ f :: q.dropWhile (fun g => f.level ≤ g.level)

/-- An entry at the hand-over of its frame (R159). -/
def AlertEntry.afterHandOver (n : Fin 20) (e : AlertEntry) : AlertEntry :=
  if isLevel n then { e with queuedOn := none, awaiting := true, frames := e.frames + 1 }
  else { e with queuedOn := none, pending := none, count := 0, frames := e.frames + 1 }

/-- An EDGE entry after an occurrence (R154). -/
def AlertEntry.occur (detail : BitVec 32) (e : AlertEntry) : AlertEntry :=
  { e with
    pending := some (e.pending.getD detail)
    count := if e.pending.isNone then 1 else sat255 (e.count + 1)
    occurrences := e.occurrences + 1 }

/-- The frame of source n in an ALERT queue takes the entry's new count (R158). -/
def mergeCount (n : Fin 20) (count : Nat) (q : List AlertFrame) : List AlertFrame :=
  q.map fun f => if f.number = n then { f with count := count } else f

/-- A LEVEL report: the condition and its detail (R155). -/
structure LevelReport where
  number : Fin 20
  active : Bool
  detail : BitVec 32
deriving DecidableEq, Repr

/-- A LEVEL entry after a report; a rise is counted (R155). -/
def AlertEntry.level (r : LevelReport) (e : AlertEntry) : AlertEntry :=
  if r.active && !e.active then
    { e with active := true, detail := r.detail, count := sat255 (e.count + 1), occurrences := e.occurrences + 1 }
  else { e with active := r.active, detail := r.detail }

/-- Removes from the ALERT queue of a port the frames that fail `keep`; a removal that leaves the three
local queues empty sets the pass-through counter to 0 (R10). -/
def PortState.removeAlerts (keep : AlertFrame → Bool) (q : PortState) : PortState :=
  let q' := { q with alertQ := q.alertQ.filter keep }
  if q'.alertQ.length < q.alertQ.length && !q'.localWaiting then { q' with passCount := 0 } else q'

/-! ## The Record Queue -/

/-- The size of a record in words (R120). -/
def recordWords (r : IntervalRecord) : Nat := 28 + 5 * r.blocks.length

/-- The words of a run of records. -/
def wordsOf (l : List IntervalRecord) : Nat := (l.map recordWords).sum

/-- The occupied word count (R130). -/
def RecordQueue.words (q : RecordQueue) : Nat := wordsOf q.records

/-- The free word count (R130). -/
def RecordQueue.freeWords (q : RecordQueue) : Nat := Config.queueWords - q.words

/-- A removal (R132): the records taken and the records left. -/
def takeRecords : Nat → Nat → List IntervalRecord → List IntervalRecord × List IntervalRecord
  | _, _, [] => ([], [])
  | limit, words, r :: rs =>
    if 0 < limit && recordWords r ≤ words then
      (r :: (takeRecords (limit - 1) (words - recordWords r) rs).1, (takeRecords (limit - 1) (words - recordWords r) rs).2)
    else ([], r :: rs)

/-- The Record Queue after an accepted append (R131, 1 to 3). -/
def RecordQueue.append (r : IntervalRecord) (q : RecordQueue) : RecordQueue :=
  let records := q.records ++ [r]
  { q with records := records, peakWords := max q.peakWords (wordsOf records), appended := q.appended + 1 }

/-- The QUEUE_HIGH report at an evaluation (R133). -/
def queueHighReport (watermark : Nat) (q : RecordQueue) : LevelReport :=
  { number := 8, active := watermark ≤ q.words, detail := BitVec.ofNat 32 q.words }

/-! ## The cascade -/

/-- What one event of the delivery side can bring about next. -/
inductive Task where
  /-- An occurrence of an EDGE source with its detail (R154). -/
  | edge (n : Fin 20) (detail : BitVec 32)
  /-- Reports of LEVEL conditions, taken together (R155). -/
  | levels (reports : List LevelReport)
  /-- An evaluation of QUEUE_HIGH (R133). -/
  | queueHigh
  /-- A trigger to a push channel (R141). -/
  | trigger (c : Fin 4)
  /-- A send attempt of a channel; `head` when it is made by the head of its wait list (R142, R143). -/
  | attempt (c : Fin 4) (head : Bool)
  /-- What a channel does after placing a frame of k records (R144). -/
  | sent (c : Fin 4) (k : Nat)
  /-- The head of a port's wait list attempts again, and then the next (R143). -/
  | waitList (p : Port)
  /-- The Alert Unit offers frames to a port until one is refused (R156). -/
  | offers (p : Port)
  /-- A grant of the port's transmitter when it is free and a frame is waiting (R11). -/
  | grant (p : Port)
  /-- A grant of a REPORT frame has freed a place in the port's REPORT queue (R143, 1). -/
  | freed (p : Port)
deriving DecidableEq, Repr

/-- The triggers an alert source gives: each channel of kind SOURCE naming it, in increasing number (R140). -/
def sourceTriggers (d : Delivery) (n : Fin 20) : List Task :=
  ((List.finRange 4).filter fun c => (d.channel c).cfg.trigger = .source && (d.channel c).cfg.source = n).map .trigger

/-- The triggers an append gives: each channel of kind INTERVAL (R140). -/
def intervalTriggers (d : Delivery) : List Task :=
  ((List.finRange 4).filter fun c => (d.channel c).cfg.trigger = .interval).map .trigger

/-- An occurrence of an EDGE source (R154, R158, R164). -/
def recordEdge (n : Fin 20) (detail : BitVec 32) (d : Delivery) : Delivery × List Task :=
  let e := (d.alert n).occur detail
  let d1 := d.setAlert n e
  match e.queuedOn with
  | some p => (d1.modPort p fun q => { q with alertQ := mergeCount n e.count q.alertQ }, sourceTriggers d n)
  | none => (d1, sourceTriggers d n ++ [.offers e.cfg.port])

/-- Reports of LEVEL conditions taken together: all are stored, the rises trigger, and the entries whose
condition is active are offered (R155, R164). R102, R104, R140 and R164 do not order the triggers of two rises reported
together: that all triggers of the first report come before those of the second, so those of source 5 before those of
source 6, and the offers after both, is the model's choice (DESIGN CHOICE, notes/assumptions/7.md). -/
def recordLevels (reports : List LevelReport) (d : Delivery) : Delivery × List Task :=
  let d1 := reports.foldl (fun d r => d.setAlert r.number ((d.alert r.number).level r)) d
  let rises := reports.filter fun r => r.active && !(d.alert r.number).active
  (d1, rises.flatMap (fun r => sourceTriggers d r.number) ++
    (reports.filter (·.active)).map fun r => .offers (d.alert r.number).cfg.port)

/-- One offer of the Alert Unit to a port (R156, R157). -/
def offerOne (env : Env) (p : Port) (d : Delivery) : Delivery × List Task :=
  match bestReady env.floor p d with
  | none => (d, [])
  | some n =>
    let q := d.port p
    if q.up && q.alertQ.length < Config.alertRoom then
      ((d.setPort p { q with alertQ := insertAlert (buildAlert env n (d.alert n)) q.alertQ }).setAlert n
          ((d.alert n).afterBuild n p),
        [.grant p, .offers p])
    else (d, [])

/-- A local grant to a class (R11, R13): the head frame of the class starts its transmission. -/
def grantLocal (env : Env) (p : Port) (win : EgressClass) (d : Delivery) : Delivery × List Task :=
  let q := d.port p
  let after := afterLocalGrant env.priority q win
  match win with
  | .alert =>
    match q.alertQ with
    | [] => (d, [])
    | f :: rest =>
      ((d.setPort p { after with alertQ := rest, tx := some (.alert f) }).setAlert f.number
          ((d.alert f.number).afterHandOver f.number),
        [.offers p])
  | .reply =>
    match q.replyQ with
    | [] => (d, [])
    | f :: rest => (d.setPort p { after with replyQ := rest, tx := some (.reply f) }, [])
  | .report =>
    match q.reportQ with
    | [] => (d, [])
    | f :: rest => (d.setPort p { after with reportQ := rest, tx := some (.report f) }, [.freed p])

/-- A grant, when the transmitter is free and a frame is waiting (R11, R12). -/
def grant (env : Env) (p : Port) (d : Delivery) : Delivery × List Task :=
  let q := d.port p
  if !q.free then (d, [])
  else if grantsPass q then
    match q.pass with
    | [] => (d, [])
    | f :: rest =>
      (d.setPort p { q with pass := rest, tx := some (.pass f), passCount := if q.localWaiting then q.passCount + 1 else 0 }, [])
  else
    match pickClass q with
    | none => (d, [])
    | some win => grantLocal env p win d

/-- A trigger reaching a channel (R141). -/
def takeTrigger (c : Fin 4) (d : Delivery) : Delivery × List Task :=
  let ch := d.channel c
  match ch.st with
  | .armed => (d.setChannel c { ch with st := .sending, fresh := true }, [.attempt c false])
  | .sending =>
    if ch.cfg.burst then (d, [])
    else if ch.backlog < 255 then (d.setChannel c { ch with backlog := ch.backlog + 1 }, [])
    else (d.setChannel c { ch with backlogSat := ch.backlogSat + 1 }, [])
  | .disabled => (d, [])
  | .done => (d, [])

/-- The record limit of a channel's removal (R142, 2). -/
def Channel.recordLimit (ch : Channel) : Nat :=
  if !ch.cfg.burst then 1 else if ch.cfg.count ≠ 0 then ch.remaining else Config.removalRecords

/-- A channel whose attempt finds the Record Queue empty (R144). -/
def Channel.foundEmpty (ch : Channel) : Channel :=
  { ch with
    st := .armed, backlog := 0, fresh := false
    emptyTrigger := if ch.fresh then ch.emptyTrigger + 1 else ch.emptyTrigger }

/-- A channel once a frame of k records is placed (R142). -/
def Channel.placed (k : Nat) (ch : Channel) : Channel :=
  { ch with seq := ch.seq + 1, framesPushed := ch.framesPushed + 1, recordsSent := ch.recordsSent + BitVec.ofNat 32 k }

/-- A channel joins the tail of its port's wait list, on which it stands at most once (R143). -/
def joinWait (c : Fin 4) (p : Port) (d : Delivery) : Delivery :=
  if (d.wait p).contains c then d else d.setWait p (d.wait p ++ [c])

/-- A send attempt (R142). -/
def attemptSend (env : Env) (c : Fin 4) (head : Bool) (d : Delivery) : Delivery × List Task :=
  let ch := d.channel c
  let p := ch.cfg.port
  let q := d.port p
  if ch.st ≠ .sending then (d, [])
  else if q.up && (head || (d.wait p).isEmpty) && q.reportQ.length < Config.reportRoom then
    if d.recq.records.isEmpty then (d.setChannel c ch.foundEmpty, [])
    else
      let taken := takeRecords ch.recordLimit Config.removalWords d.recq.records
      let k := taken.1.length
      let f : RecordFrame := { dest := ch.cfg.dest, source := env.node, channel := c, seq := ch.seq + 1, records := taken.1 }
      let d1 := { d with recq := { d.recq with records := taken.2, pushed := d.recq.pushed + BitVec.ofNat 32 k } }
      ((d1.setChannel c (ch.placed k)).setPort p { q with reportQ := q.reportQ ++ [f] },
        [.queueHigh, .grant p, .sent c k])
  else (joinWait c p d, [])

/-- What a channel does after a send attempt has placed a frame of k records (R144, R145). -/
def continueSend (c : Fin 4) (k : Nat) (d : Delivery) : Delivery × List Task :=
  let ch := d.channel c
  let remaining := if ch.cfg.count ≠ 0 then ch.remaining - k else ch.remaining
  let ch1 := { ch with remaining := remaining }
  if ch.cfg.count ≠ 0 && remaining == 0 then
    (d.setChannel c { ch1 with st := .done, backlog := 0, fresh := false },
      [.edge ⟨10 + c.val, by omega⟩ (BitVec.ofNat 32 c.val)])
  else if ch.cfg.burst then
    if d.recq.records.isEmpty then (d.setChannel c { ch1 with st := .armed, fresh := false }, [])
    else (d.setChannel c { ch1 with fresh := false }, [.attempt c false])
  else if 0 < ch.backlog then
    (d.setChannel c { ch1 with backlog := ch.backlog - 1, fresh := true }, [.attempt c false])
  else (d.setChannel c { ch1 with st := .armed, fresh := false }, [])

/-- The head of a wait list leaves it for its attempt while the port is UP and its REPORT queue has room,
and then the next (R143). -/
def serveWaitList (p : Port) (d : Delivery) : Delivery × List Task :=
  let q := d.port p
  match d.wait p with
  | [] => (d, [])
  | c :: rest =>
    if q.up && q.reportQ.length < Config.reportRoom then (d.setWait p rest, [.attempt c true, .waitList p])
    else (d, [])

/-- One task of the cascade: its effect, and what it brings about next. -/
def perform (env : Env) : Task → Delivery → Delivery × List Task
  | .edge n detail, d => recordEdge n detail d
  | .levels reports, d => recordLevels reports d
  | .queueHigh, d => (d, [.levels [queueHighReport env.watermark d.recq]])
  | .trigger c, d => takeTrigger c d
  | .attempt c head, d => attemptSend env c head d
  | .sent c k, d => continueSend c k d
  | .waitList p, d => serveWaitList p d
  | .offers p, d => offerOne env p d
  | .grant p, d => grant env p d
  | .freed p, d => (d, [.waitList p])

/-- The task stands back until what is under way is done: the waiting channels take a place that a grant has
freed only after the channel whose frame was placed has continued, so that its next attempt finds the
REPORT queue as the placement left it and the others still ahead of it (R142, R143, R144). -/
def Task.deferred : Task → Bool
  | .freed _ => true
  | .edge _ _ => false
  | .levels _ => false
  | .queueHigh => false
  | .trigger _ => false
  | .attempt _ _ => false
  | .sent _ _ => false
  | .waitList _ => false
  | .offers _ => false
  | .grant _ => false

/-- The tasks that follow a task: what it has brought about, then the tasks that stood behind it, then what it
has brought about that stands back. -/
def follow (new rest : List Task) : List Task :=
  new.filter (fun t => !t.deferred) ++ rest ++ new.filter Task.deferred

/-- Runs the tasks depth first: what a task brings about is done whole before the task that follows it
(R140: a channel takes a trigger with every send attempt that begins at once from it), but for the tasks
that stand back. The number bounds the tasks run; see `cascadeBound`. Where the rules give no order of two
consequences the order here is the model's choice (DESIGN CHOICE, notes/assumptions/7.md). -/
def settle (env : Env) : Nat → List Task → Delivery → Delivery
  | 0, _, d => d
  | _ + 1, [], d => d
  | n + 1, t :: ts, d => settle env n (follow (perform env t d).2 ts) (perform env t d).1

/-- The most tasks one event can bring about is far below this bound (notes/assumptions/9.md): each port
makes at most one grant between two ends of transmission, a REPORT queue has 4 places, a channel that
is DONE stays so within an event, and an entry whose frame is built is not ready again. -/
def cascadeBound : Nat := 4096

/-- The state after the delivery side has settled some tasks. -/
def State.run (s : State) (ts : List Task) : State := { s with dlv := settle s.env cascadeBound ts s.dlv }

/-- An occurrence of an EDGE source raised by another block. -/
def State.raise (s : State) (n : Fin 20) (detail : Nat) : State := s.run [.edge n (BitVec.ofNat 32 detail)]

end Sys2Proof.Machine
end

