-- ==== Sys2Proof/Machine/Interval.lean ====
section
/-! DEFINITION. The Interval Accounting Unit for one point (R109 to R124). -/

namespace Sys2Proof.Machine

/-- The interval number of a window starting at s (R110). -/
def intervalNumber (len s : Nat) : Nat := s / (len * Config.sampleRate)

/-! ## Accumulators (R111, R112, R115, R116) -/

/-- An increment enters an accumulator (R112). -/
def Accum.add (divisor inc : Nat) (a : Accum) : Accum :=
  { whole := a.whole + (a.rem + inc) / divisor, rem := (a.rem + inc) % divisor }

/-- An increment of a fundamental accumulator when a condition holds. -/
def Accum.addIf (c : Bool) (inc : Nat) (a : Accum) : Accum := if c then a.add Config.fundDivisor inc else a

/-- The fundamental increments and the reactive excess of a window (R115, R116). -/
def Accumulators.addFundamental (len excess : Nat) (p q : Int) (a : Accumulators) : Accumulators :=
  let pi := p.natAbs * len
  let qi := q.natAbs * len
  { a with
    activeImp := a.activeImp.addIf (0 ≤ p) pi
    activeExp := a.activeExp.addIf (p < 0) pi
    q1 := a.q1.addIf (0 < q && 0 ≤ p) qi
    q2 := a.q2.addIf (0 < q && p < 0) qi
    q3 := a.q3.addIf (q < 0 && p < 0) qi
    q4 := a.q4.addIf (q < 0 && 0 ≤ p) qi
    excess := a.excess.add Config.fundDivisor (excess * len) }

/-- Harmonic import or export of one order (R116). -/
def HarmAccum.add (len : Nat) (p : Int) (a : HarmAccum) : HarmAccum :=
  if 0 < p then { a with imp := a.imp.add Config.harmDivisor (p.natAbs * len) }
  else if p < 0 then { a with exp := a.exp.add Config.harmDivisor (p.natAbs * len) }
  else a

/-- The block of one order enters the harmonic accumulators, for orders 2..50 (R116). -/
def Accumulators.addHarmonic (len : Nat) (o : OrderResult) (a : Accumulators) : Accumulators :=
  if h : 2 ≤ o.order ∧ o.order - 2 < 49 then
    { a with harm := a.harm.set (o.order - 2) ((a.harm[o.order - 2]'h.2).add len o.p) h.2 }
  else a

/-- Every increment of a window (R115, R116). -/
def Accumulators.addWindow (r : WindowResult) (a : Accumulators) : Accumulators :=
  let f := fundamental r.orders
  r.orders.foldl (fun a o => a.addHarmonic r.len o) (a.addFundamental r.len r.excess f.p f.q)

/-- The harmonic accumulators of order h. -/
def Accumulators.harmOf (a : Accumulators) (h : Nat) : HarmAccum := (a.harm[h - 2]?).getD ⟨.zero, .zero⟩

/-! ## The open interval (R113, R117) -/

/-- No flag carried and none seen. -/
def IntervalFlags.none : IntervalFlags := ⟨false, false, false, false, false, false, false⟩

/-- The flags seen with those of a window (R117, 7). -/
def IntervalFlags.see (w : WindowFlags) (f : IntervalFlags) : IntervalFlags :=
  { f with
    untracked := f.untracked || w.untracked, clamped := f.clamped || w.clamped
    bridged := f.bridged || w.bridged, incomplete := f.incomplete || w.incomplete }

/-- The orders of a window. -/
def WindowResult.orderList (r : WindowResult) : List Nat := r.orders.map (·.order)

/-- The window carries a set exceed flag for order h (R117, 4). -/
def WindowResult.exceedsAt (r : WindowResult) (h : Nat) : Bool := 2 ≤ h && r.orders.any fun o => o.order == h && o.exceed

/-- The interval a window opens (R114, 3). -/
def openFields (no len : Nat) (r : WindowResult) : OpenFields :=
  { firstNo := no, lastNo := no, openLen := len, orders := r.orderList.map fun h => ⟨h, 0⟩
    firstStart := r.start, lastEnd := r.start + r.len, windows := 0, elapsed := 0, covered := 0
    nonFundExceeded := 0, freqMin := Option.none, freqMax := Option.none, flags := .none }

/-- The lower frequency, when there is one already (R117, 6). -/
def lowerOf (f : Nat) : Option Nat → Option Nat
  | Option.none => some f
  | some g => some (min f g)

/-- The higher frequency. -/
def higherOf (f : Nat) : Option Nat → Option Nat
  | Option.none => some f
  | some g => some (max f g)

/-- The fields with a window accounted (R117). -/
def OpenFields.addWindow (no : Nat) (r : WindowResult) (f : OpenFields) : OpenFields :=
  { f with
    lastNo := no
    lastEnd := r.start + r.len
    windows := satAdd 2 f.windows 1
    elapsed := satAdd 4 f.elapsed r.len
    covered := satAdd 4 f.covered r.covered
    orders := f.orders.map fun o => if r.exceedsAt o.order then { o with exceeded := satAdd 3 o.exceeded 1 } else o
    nonFundExceeded := if r.nonFundExceed then satAdd 2 f.nonFundExceeded 1 else f.nonFundExceeded
    freqMin := if r.flags.untracked then f.freqMin else lowerOf r.freq f.freqMin
    freqMax := if r.flags.untracked then f.freqMax else higherOf r.freq f.freqMax
    flags := f.flags.see r.flags }

/-! ## Records (R120, R121) -/

/-- One order block of a record (R120): order 1 carries zeros. -/
def recordBlock (a : Accumulators) (o : OrderCount) : RecordBlock :=
  if 2 ≤ o.order then
    { order := o.order, exceeded := o.exceeded, imp := (a.harmOf o.order).imp.whole, exp := (a.harmOf o.order).exp.whole }
  else { order := o.order, exceeded := 0, imp := 0, exp := 0 }

/-- The record of an OPEN interval, with the flags this close adds (R119, R120, R123, R124). -/
def buildRecord (i : Fin 24) (reconfigured timeStep cut : Bool) (f : OpenFields) (p : Point) : IntervalRecord :=
  { point := i
    flags := { f.flags with
      reconfigured := f.flags.reconfigured || reconfigured, timeStep := f.flags.timeStep || timeStep }
    cut := cut, firstNo := f.firstNo, lastNo := f.lastNo, firstStart := f.firstStart, lastEnd := f.lastEnd
    windows := f.windows, discardedWindows := p.ivl.discardedWindows, elapsed := f.elapsed, covered := f.covered
    discardedSamples := p.ivl.discardedSamples, nonFundExceeded := f.nonFundExceeded
    freqMin := f.freqMin.getD 0, freqMax := f.freqMax.getD 0
    activeImp := p.acc.activeImp.whole, activeExp := p.acc.activeExp.whole, q1 := p.acc.q1.whole
    q2 := p.acc.q2.whole, q3 := p.acc.q3.whole, q4 := p.acc.q4.whole, excess := p.acc.excess.whole
    blocks := f.orders.map (recordBlock p.acc) }

/-- An accumulator's whole units become 0; its remainder is kept (R121, 1). -/
def Accum.clearWhole (a : Accum) : Accum := { a with whole := 0 }

/-- The whole units a record names become 0 (R121, 1; R123, 2). -/
def Accumulators.clearReported (orders : List OrderCount) (a : Accumulators) : Accumulators :=
  { activeImp := a.activeImp.clearWhole, activeExp := a.activeExp.clearWhole, q1 := a.q1.clearWhole
    q2 := a.q2.clearWhole, q3 := a.q3.clearWhole, q4 := a.q4.clearWhole, excess := a.excess.clearWhole
    harm := Vector.ofFn fun j =>
      if orders.any fun o => o.order == j.val + 2 then ⟨a.harm[j].imp.clearWhole, a.harm[j].exp.clearWhole⟩
      else a.harm[j] }

/-- The point once its record is appended (R121, 1 to 3). -/
def Point.afterClose (f : OpenFields) (p : Point) : Point :=
  { p with acc := p.acc.clearReported f.orders, ivl := .empty, iau := { p.iau with closed := p.iau.closed + 1 } }

/-- The point once its interval is discarded at a disable or point reset (R123, 2). -/
def Point.afterDiscardedInterval (f : OpenFields) (p : Point) : Point :=
  { p with
    acc := p.acc.clearReported f.orders, ivl := .empty
    iau := { p.iau with discardedIntervals := p.iau.discardedIntervals + 1 } }

/-! ## Accounting a window (R114, R119, R122) -/

/-- The causes of a close (R119). -/
def closeReconfigured (len : Nat) (r : WindowResult) (f : OpenFields) : Bool :=
  r.flags.firstAfterChange || len ≠ f.openLen

/-- The open interval is closed before this window is added (R119). -/
def closeNeeded (len no : Nat) (r : WindowResult) (f : OpenFields) : Bool :=
  no ≠ f.lastNo || closeReconfigured len r f

/-- The order counts an interval keeps when its list becomes the window's (R122, 2). -/
def carryCounts (old : List OrderCount) (orders : List Nat) : List OrderCount :=
  orders.map fun h => ⟨h, ((old.find? fun o => o.order == h).map (·.exceeded)).getD 0⟩

/-- The fields after a merge, before the window is added (R122, 1 and 2). -/
def mergeFields (len no : Nat) (r : WindowResult) (f : OpenFields) : OpenFields :=
  let reconf := closeReconfigured len r f
  { f with
    flags := { f.flags with
      merged := true, timeStep := f.flags.timeStep || decide (no < f.lastNo), reconfigured := f.flags.reconfigured || reconf }
    orders := if reconf then carryCounts f.orders r.orderList else f.orders
    openLen := if reconf then len else f.openLen }

/-- What accounting a window leaves: the point, the record to append, and whether it merged. -/
structure Accounted where
  point : Point
  appended : Option IntervalRecord
  merged : Bool
deriving DecidableEq, Repr

/-- The window enters an interval that has these fields (R114, 4 and 5). -/
def Point.accountInto (no : Nat) (r : WindowResult) (f : OpenFields) (p : Point) : Point :=
  { p with acc := p.acc.addWindow r, ivl := { p.ivl with fields := some (f.addWindow no r) } }

/-- A window is accounted (R114); `len` is the interval length in force and `room` the free words of the
Record Queue. -/
def Point.account (i : Fin 24) (len room : Nat) (r : WindowResult) (p : Point) : Accounted :=
  let no := intervalNumber len r.start
  match p.ivl.fields with
  | Option.none => { point := p.accountInto no r (openFields no len r), appended := Option.none, merged := false }
  | some f =>
    if closeNeeded len no r f then
      let rcd := buildRecord i (closeReconfigured len r f) (decide (no < f.lastNo)) false f p
      if recordWords rcd ≤ room then
        { point := (p.afterClose f).accountInto no r (openFields no len r), appended := some rcd, merged := false }
      else
        { point := { p with iau := { p.iau with merges := p.iau.merges + 1 } }.accountInto no r (mergeFields len no r f)
          appended := Option.none, merged := true }
    else { point := p.accountInto no r f, appended := Option.none, merged := false }

/-- The close of a disable (RECONFIGURED) or of a point reset (CUT): the point and the record to append
(R123, R124). -/
def Point.closeNow (i : Fin 24) (cut : Bool) (room : Nat) (p : Point) : Point × Option IntervalRecord :=
  match p.ivl.fields with
  | Option.none => ({ p with ivl := .empty }, Option.none)
  | some f =>
    let rcd := buildRecord i (!cut) false cut f p
    if recordWords rcd ≤ room then (p.afterClose f, some rcd) else (p.afterDiscardedInterval f, Option.none)

/-- The accumulators and the interval after a point reset (R124, 1 and 2). -/
def Point.zeroAccounts (p : Point) : Point := { p with acc := .zero, ivl := .empty }

end Sys2Proof.Machine
end

