-- ==== Sys2Proof/Machine/Operands.lean ====
section
/-! DEFINITION. What the part reads on the wire: frame headers, sample payloads, request payloads and the
written part of every table entry (chapter 11). -/

namespace Sys2Proof.Machine

/-! ## Frames (11.1) -/

/-- Destination node of a frame. -/
def frameDest (f : List Byte) : Node := BitVec.ofNat 16 (field 0 2 f)

/-- Source node of a frame. -/
def frameSource (f : List Byte) : Node := BitVec.ofNat 16 (field 2 2 f)

/-- Kind of a frame. -/
def frameKind (f : List Byte) : Nat := field 4 1 f

/-- Flags of a frame. -/
def frameFlags (f : List Byte) : Byte := BitVec.ofNat 8 (field 5 1 f)

/-- Payload length field of a frame. -/
def frameLength (f : List Byte) : Nat := field 6 2 f

/-- Header and payload: what the CRC is computed over (R206). -/
def frameBody (f : List Byte) : List Byte := f.take (f.length - 4)

/-- The trailer of a frame. -/
def frameTrailer (f : List Byte) : BitVec 32 := BitVec.ofNat 32 (beToNat (f.drop (f.length - 4)))

/-- The payload of a frame. -/
def framePayload (f : List Byte) : List Byte := (frameBody f).drop 8

/-! ## Sample payloads (11.2, R29, R30) -/

/-- One sample set as it arrives: its sample index and, per channel, the raw value or none when the channel
is invalid. VN is carried and used by nothing (R52). -/
structure RawSet where
  index : Nat
  chan : Seven (Option Int)
  vn : Option Int
deriving DecidableEq, Repr

/-- The fields of a sample payload that a slot judges. -/
structure SampleView where
  tag : BitVec 32
  first : Nat
  setCount : Nat
  sync : Bool
  test : Bool
  sets : List RawSet
deriving DecidableEq, Repr

/-- The raw value of a 3-byte channel field, none when it is the invalid mark or its channel is masked
(R30). -/
def channelOf (masked : Bool) (n : Nat) : Option Int :=
  if masked || n == 0x800000 then none else some (signedOf 24 n)

/-- The set at place i of a sample payload (11.2, SAMPLE). -/
def rawSet (payload : List Byte) (first mask i : Nat) : RawSet :=
  let ch := fun c => channelOf (mask.testBit c) (field (14 + 24 * i + 3 * c) 3 payload)
  { index := first + i
    chan := { ia := ch 0, ib := ch 1, ic := ch 2, inn := ch 3, va := ch 4, vb := ch 5, vc := ch 6 }
    vn := ch 7 }

/-- A sample payload is malformed (R29). -/
def malformed (payload : List Byte) : Bool :=
  payload.length < 14 || 12800 ≤ field 8 2 payload || field 10 1 payload == 0 || 4 < field 10 1 payload ||
    payload.length != 14 + 24 * field 10 1 payload

/-- The view of a sample payload; the first index is second count × 12,800 + first sample count. -/
def sampleView (payload : List Byte) : SampleView :=
  let first := field 4 4 payload * Config.sampleRate + field 8 2 payload
  let quality := field 12 2 payload
  { tag := BitVec.ofNat 32 (field 0 4 payload)
    first := first
    setCount := field 10 1 payload
    sync := quality.testBit 15
    test := quality.testBit 14
    sets := (List.range (field 10 1 payload)).map (rawSet payload first (quality % 256)) }

/-! ## Request payloads (R170, R171) -/

/-- A field of a request payload; a field whose bytes are not all there is missing and taken as 0 (R171). -/
def reqField (off w : Nat) (payload : List Byte) : Nat :=
  if off + w ≤ payload.length then field off w payload else 0

/-- The tag, kind, space, index and count fields and the data of a request (11.2). -/
def reqTag (p : List Byte) : BitVec 16 := BitVec.ofNat 16 (reqField 0 2 p)
def reqKind (p : List Byte) : Nat := reqField 2 1 p
def reqSpace (p : List Byte) : Nat := reqField 3 1 p
def reqIndex (p : List Byte) : Nat := reqField 4 2 p
def reqCount (p : List Byte) : Nat := reqField 6 2 p
def reqData (p : List Byte) : List Byte := p.drop 8

/-- The payload a sender writes for a request (11.2). -/
def requestPayload (tag : BitVec 16) (kind : Nat) (space : Byte) (index count : BitVec 16) (data : List Byte) :
    List Byte :=
  beNat 2 tag.toNat ++ beNat 1 kind ++ [space] ++ beNat 2 index.toNat ++ beNat 2 count.toNat ++ data

/-- The space a code names (11.2). -/
def spaceOf : Nat → Option Space
  | 1 => some .device
  | 2 => some .window
  | 3 => some .slot
  | 4 => some .point
  | 5 => some .hset
  | 6 => some .limit
  | 7 => some .alert
  | 8 => some .push
  | 9 => some .counters
  | 10 => some .result
  | _ => none

/-- The code of a space (11.2). -/
def spaceCode : Space → Nat
  | .device => 1
  | .window => 2
  | .slot => 3
  | .point => 4
  | .hset => 5
  | .limit => 6
  | .alert => 7
  | .push => 8
  | .counters => 9
  | .result => 10

/-- The code of a status (11.2). -/
def statusCode : Status → Nat
  | .ok => 0x00
  | .retry => 0x01
  | .busy => 0x02
  | .denied => 0x03
  | .badKind => 0x04
  | .badSpace => 0x05
  | .badIndex => 0x06
  | .badValue => 0x07
  | .readOnly => 0x08
  | .inUse => 0x09
  | .locked => 0x0A
  | .noLoad => 0x0B
  | .badOffset => 0x0C
  | .loadSize => 0x0D
  | .loadCrc => 0x0E
  | .noTicket => 0x0F
  | .badState => 0x10
  | .short => 0x11

/-- The number of entries of a space (R173). -/
def spaceEntries : Space → Nat
  | .device => 1
  | .window => 16
  | .slot => 32
  | .point => 24
  | .hset => 8
  | .limit => 8
  | .alert => 20
  | .push => 4
  | .counters => 1
  | .result => 24

/-- The number of places a READ may name: the entries, or the 840 words of COUNTERS (R174, 11.5). -/
def readPlaces (sp : Space) : Nat := if sp = .counters then 840 else spaceEntries sp

/-- The write size of an entry (R207); 0 for the read-only spaces. -/
def writeSize : Space → Nat
  | .device => 20
  | .window => 12
  | .slot => 8
  | .point => 28
  | .hset => 20
  | .limit => 204
  | .alert => 8
  | .push => 12
  | .counters => 0
  | .result => 0

/-- The read size of an entry (R207); of a word for COUNTERS (R174). -/
def readSize : Space → Nat
  | .device => 24
  | .window => 12
  | .slot => 64
  | .point => 152
  | .hset => 20
  | .limit => 204
  | .alert => 32
  | .push => 40
  | .counters => 4
  | .result => 1316

/-! ## Written entries (R205, R207, R208): none is BAD-VALUE -/

/-- A flag byte: 0 or 1 (R205, 2). -/
def flagOf : Nat → Option Bool
  | 0 => some false
  | 1 => some true
  | _ => none

/-- A port code. -/
def portOf : Nat → Option Port
  | 0 => some .a
  | 1 => some .b
  | _ => none

/-- A number that lies in lo..hi. -/
def inRange (lo hi n : Nat) : Option Nat := if lo ≤ n && n ≤ hi then some n else none

/-- The written part of WINDOW (R23). -/
def decodeWindow (l : List Byte) : Option StreamWindow := do
  let enabled ← flagOf (field 0 1 l)
  let kind ← match field 1 1 l with
    | 0 => some WindowKind.tap
    | 1 => some WindowKind.sink
    | 2 => some WindowKind.pass
    | _ => none
  let slotBase ← toIndex 32 (field 2 1 l)
  return { enabled, kind, slotBase, base := BitVec.ofNat 32 (field 4 4 l), mask := BitVec.ofNat 32 (field 8 4 l) }

/-- The written part of SLOT (R27). -/
def decodeSlotCfg (l : List Byte) : Option SlotCfg := do
  let enabled ← flagOf (field 0 1 l)
  let acceptTest ← flagOf (field 1 1 l)
  let acquire ← inRange 2 64 (field 2 1 l)
  let lossTimeout ← inRange 2 200 (field 4 2 l)
  let maxGap ← inRange 1 256 (field 6 2 l)
  return { enabled, acceptTest, acquire, lossTimeout, maxGap }

/-- The gain of channel i in the written part of POINT (R45). -/
def decodeGain (l : List Byte) (i : Nat) : Option Nat := inRange 0 32767 (field (14 + 2 * i) 2 l)

/-- The written part of POINT (R45, R208). -/
def decodePointCfg (l : List Byte) : Option PointCfg := do
  let enabled ← flagOf (field 0 1 l)
  let vSlot ← toIndex 32 (field 1 1 l)
  let iSlot ← toIndex 32 (field 2 1 l)
  let useNeutral ← flagOf (field 3 1 l)
  let nominal ← match field 4 1 l with
    | 50 => some Nominal.hz50
    | 60 => some Nominal.hz60
    | _ => none
  let cycles ← inRange 6 16 (field 5 1 l)
  let hset ← toIndex 8 (field 6 1 l)
  let limit ← toIndex 8 (field 7 1 l)
  let policy ← match field 8 1 l with
    | 0 => some GapPolicy.restart
    | 1 => some GapPolicy.bridge
    | 2 => some GapPolicy.skip
    | _ => none
  let bridgeLimit ← inRange 1 16 (field 9 1 l)
  let minCoverage ← inRange 50 100 (field 10 1 l)
  let tanLimit ← inRange 0 2000 (field 12 2 l)
  let ia ← decodeGain l 0
  let ib ← decodeGain l 1
  let ic ← decodeGain l 2
  let inn ← decodeGain l 3
  let va ← decodeGain l 4
  let vb ← decodeGain l 5
  let vc ← decodeGain l 6
  return { enabled, vSlot, iSlot, useNeutral, nominal, cycles, hset, limit, policy, bridgeLimit, minCoverage,
           tanLimit, gains := ⟨ia, ib, ic, inn, va, vb, vc⟩ }

/-- A list of orders is valid (R91). -/
def validOrders (l : List Nat) : Bool :=
  1 ≤ l.length && l.length ≤ 16 && l.all (fun h => 1 ≤ h && h ≤ 50) && l.Pairwise (· < ·) && l.head? == some 1

/-- The written part of HSET: the first order-count places (R91, R208). -/
def decodeHset (l : List Byte) : Option (List Nat) :=
  let n := field 0 1 l
  let orders := (List.range n).map fun i => field (1 + i) 1 l
  if n ≤ 16 && validOrders orders then some orders else none

/-- A limit in mA (R92). -/
def decodeLimitField (l : List Byte) (i : Nat) : Nat := field (4 * i) 4 l

/-- The written part of LIMIT (R92). -/
def decodeLimit (l : List Byte) : Option LimitProfile :=
  if (List.range 51).all (fun i => decodeLimitField l i ≤ 16777215) then
    some { orders := Vector.ofFn fun i => decodeLimitField l i.val
           triplen := decodeLimitField l 49
           nonFund := decodeLimitField l 50 }
  else none

/-- The written part of ALERT (R151). -/
def decodeAlertCfg (l : List Byte) : Option AlertCfg := do
  let masked ← flagOf (field 0 1 l)
  let level ← inRange 0 7 (field 1 1 l)
  let vector ← inRange 0x10 0xFE (field 2 1 l)
  let port ← portOf (field 3 1 l)
  let deliverFrame ← match field 4 1 l with
    | 0 => some true
    | 1 => some false
    | _ => none
  return { masked, level, vector := BitVec.ofNat 8 vector, port, deliverFrame
           dest := BitVec.ofNat 16 (field 6 2 l) }

/-- The written part of PUSH (R138). -/
def decodePushCfg (l : List Byte) : Option PushCfg := do
  let enabled ← flagOf (field 0 1 l)
  let trigger ← match field 1 1 l with
    | 0 => some TriggerKind.source
    | 1 => some TriggerKind.interval
    | 2 => some TriggerKind.manual
    | _ => none
  let source ← toIndex 20 (field 2 1 l)
  let port ← portOf (field 3 1 l)
  let burst ← flagOf (field 4 1 l)
  return { enabled, trigger, source, port, burst, dest := BitVec.ofNat 16 (field 6 2 l), count := field 8 2 l }

/-- An interval length is valid (R109). -/
def validInterval (n : Nat) : Bool := 60 ≤ n && n ≤ 3600 && 86400 % n == 0

/-- The written part of DEVICE (R178, R208); the metrology lock is no written field and is kept. An empty
manager list is no valid value while the lock is set (R181). -/
def decodeDevice (lock : Bool) (l : List Byte) : Option Device := do
  let node := BitVec.ofNat 16 (field 0 2 l)
  let n ← inRange 0 4 (field 2 1 l)
  let floor ← inRange 1 7 (field 3 1 l)
  let managers := (List.range n).map fun i => BitVec.ofNat 16 (field (4 + 2 * i) 2 l)
  let watermark ← inRange 1 16384 (field 14 2 l)
  let pa ← inRange 0 15 (field 16 1 l)
  let pr ← inRange 0 15 (field 17 1 l)
  let pp ← inRange 0 15 (field 18 1 l)
  if node != 0xFFFF#16 && !managers.contains 0xFFFF#16 && validInterval (field 12 2 l) && !(lock && n == 0) then
    some { node, managers, intervalLen := field 12 2 l, floor, watermark
           priority := ⟨pa, pr, pp⟩, metrologyLock := lock }
  else none

end Sys2Proof.Machine
end

