-- ==== Sys2Proof/Machine/Encode.lean ====
section
/-! DEFINITION. What the part writes on the wire: its own frames, interval records, snapshot data, and the read
part of every table entry (chapter 11). -/

namespace Sys2Proof.Machine

/-! ## Interval records and snapshot data (11.3, 11.4) -/

/-- The flags word of a record (11.3); `cut` is bit 1. -/
def flagsWord (f : IntervalFlags) (cut : Bool) : Nat :=
  bitAt f.merged 0 + bitAt cut 1 + bitAt f.reconfigured 2 + bitAt f.timeStep 3 + bitAt f.untracked 8 +
    bitAt f.clamped 9 + bitAt f.bridged 10 + bitAt f.incomplete 11

/-- An order block of a record (11.3). -/
def encodeBlock (b : RecordBlock) : List Byte :=
  beNat 1 b.order ++ beNat 3 b.exceeded ++ beNat 8 b.imp ++ beNat 8 b.exp

/-- An interval record (11.3). -/
def encodeRecord (r : IntervalRecord) : List Byte :=
  beNat 1 r.point.val ++ beNat 1 r.blocks.length ++ beNat 2 (recordWords r) ++ beNat 4 (flagsWord r.flags r.cut) ++
  beNat 4 r.firstNo ++ beNat 4 r.lastNo ++ beNat 6 r.firstStart ++ beNat 6 r.lastEnd ++
  beNat 2 r.windows ++ beNat 2 r.discardedWindows ++ beNat 4 r.elapsed ++ beNat 4 r.covered ++
  beNat 4 r.discardedSamples ++ beNat 2 r.nonFundExceeded ++ pad 2 ++ beNat 4 r.freqMin ++ beNat 4 r.freqMax ++
  beNat 8 r.activeImp ++ beNat 8 r.activeExp ++ beNat 8 r.q1 ++ beNat 8 r.q2 ++ beNat 8 r.q3 ++ beNat 8 r.q4 ++
  beNat 8 r.excess ++ r.blocks.flatMap encodeBlock

/-- An accumulator in snapshot data: whole units and remainder. -/
def encodeAccum (a : Accum) : List Byte := beNat 8 a.whole ++ beNat 4 a.rem

/-- An order of snapshot data (11.4). -/
def encodeSnapshotOrder (a : Accumulators) (o : OrderCount) : List Byte :=
  beNat 1 o.order ++ beNat 3 o.exceeded ++ encodeAccum (a.harmOf o.order).imp ++ encodeAccum (a.harmOf o.order).exp

/-- The absent map of snapshot data (11.4): every bit in EMPTY; in OPEN, bit 6 without a frequency. -/
def absentMap : Option OpenFields → Nat
  | none => 0x7F
  | some f => bitAt f.freqMin.isNone 6

/-- The fields of snapshot data from the flags to the frequency maximum, offsets 12..63 (11.4). -/
def encodeSnapshotFields (v : Interval) : List Byte :=
  match v.fields with
  | none =>
    pad 12 ++ pad 4 ++ pad 6 ++ beNat 2 v.discardedWindows ++ pad 6 ++ pad 2 ++ pad 8 ++ beNat 4 v.discardedSamples ++ pad 8
  | some f =>
    beNat 4 (flagsWord f.flags false) ++ beNat 4 f.firstNo ++ beNat 4 f.lastNo ++ beNat 2 f.openLen ++
    beNat 2 f.windows ++ beNat 6 f.firstStart ++ beNat 2 v.discardedWindows ++ beNat 6 f.lastEnd ++
    beNat 2 f.nonFundExceeded ++ beNat 4 f.elapsed ++ beNat 4 f.covered ++ beNat 4 v.discardedSamples ++
    beNat 4 (f.freqMin.getD 0) ++ beNat 4 (f.freqMax.getD 0)

/-- The orders of a copy's interval. -/
def SnapshotCopy.orders (c : SnapshotCopy) : List OrderCount := (c.ivl.fields.map (·.orders)).getD []

/-- The snapshot data of a READY ticket (R199, 11.4). -/
def encodeSnapshot (c : SnapshotCopy) : List Byte :=
  beNat 1 c.point.val ++ [flagByte c.ivl.fields.isSome] ++ beNat 1 c.orders.length ++ pad 1 ++ beNat 4 c.seq.toNat ++
  beNat 4 c.takenAt ++ encodeSnapshotFields c.ivl ++ beNat 2 (absentMap c.ivl.fields) ++ pad 2 ++
  encodeAccum c.acc.activeImp ++ encodeAccum c.acc.activeExp ++ encodeAccum c.acc.q1 ++ encodeAccum c.acc.q2 ++
  encodeAccum c.acc.q3 ++ encodeAccum c.acc.q4 ++ encodeAccum c.acc.excess ++
  (c.orders.filter fun o => 2 ≤ o.order).flatMap (encodeSnapshotOrder c.acc)

/-! ## Frames (11.1, 11.2) -/

/-- A frame with its header and its trailer computed by the part (R206). -/
def sealFrame (dest source : Node) (kind : Nat) (payload : List Byte) : List Byte :=
  let body := beNat 2 dest.toNat ++ beNat 2 source.toNat ++ beNat 1 kind ++ beNat 1 0 ++ beNat 2 payload.length ++ payload
  body ++ beNat 4 (crc32 body).toNat

/-- The payload of an ALERT frame (11.2). -/
def alertPayload (f : AlertFrame) : List Byte :=
  [f.vector] ++ beNat 1 f.number.val ++ beNat 1 f.level ++ beNat 1 (if f.edge then 0x00 else 0x81) ++
  beNat 1 f.count ++ pad 3 ++ beNat 4 f.detail.toNat ++ beNat 4 f.timebase.toNat

/-- The payload of a REPLY frame (11.2). -/
def replyPayload (f : ReplyFrame) : List Byte :=
  beNat 2 f.tag.toNat ++ beNat 1 (statusCode f.status) ++ [f.kind] ++ beNat 2 f.count.toNat ++ f.data

/-- The payload of a RECORD frame (11.2). -/
def recordPayload (f : RecordFrame) : List Byte :=
  beNat 1 f.channel.val ++ beNat 1 f.records.length ++ beNat 4 f.seq.toNat ++ f.records.flatMap encodeRecord

/-- The bytes a frame under transmission puts on the wire: a forwarded frame exactly as received (R8), a
frame of the part's own with the CRC of its present contents (R206). -/
def TxFrame.bytes : TxFrame → List Byte
  | .pass f => f
  | .alert f => sealFrame f.dest f.source 0x04 (alertPayload f)
  | .reply f => sealFrame f.dest f.source 0x03 (replyPayload f)
  | .report f => sealFrame f.dest f.source 0x05 (recordPayload f)

/-! ## Written parts, as a READ returns them (R207) -/

def encodeWindow (w : StreamWindow) : List Byte :=
  [flagByte w.enabled] ++ beNat 1 (match w.kind with | .tap => 0 | .sink => 1 | .pass => 2) ++
  beNat 1 w.slotBase.val ++ pad 1 ++ beNat 4 w.base.toNat ++ beNat 4 w.mask.toNat

def encodeSlotCfg (c : SlotCfg) : List Byte :=
  [flagByte c.enabled, flagByte c.acceptTest] ++ beNat 1 c.acquire ++ pad 1 ++ beNat 2 c.lossTimeout ++ beNat 2 c.maxGap

def encodePointCfg (c : PointCfg) : List Byte :=
  [flagByte c.enabled] ++ beNat 1 c.vSlot.val ++ beNat 1 c.iSlot.val ++ [flagByte c.useNeutral] ++
  beNat 1 c.nominal.hz ++ beNat 1 c.cycles ++ beNat 1 c.hset.val ++ beNat 1 c.limit.val ++
  beNat 1 (match c.policy with | .restart => 0 | .bridge => 1 | .skip => 2) ++ beNat 1 c.bridgeLimit ++
  beNat 1 c.minCoverage ++ pad 1 ++ beNat 2 c.tanLimit ++ c.gains.toList.flatMap (beNat 2)

def encodeHset (l : List Nat) : List Byte :=
  beNat 1 l.length ++ l.flatMap (beNat 1) ++ pad (16 - l.length) ++ pad 3

def encodeLimit (l : LimitProfile) : List Byte :=
  l.orders.toList.flatMap (beNat 4) ++ beNat 4 l.triplen ++ beNat 4 l.nonFund

def encodeAlertCfg (c : AlertCfg) : List Byte :=
  [flagByte c.masked] ++ beNat 1 c.level ++ [c.vector] ++ beNat 1 (portCode c.port) ++ [flagByte (!c.deliverFrame)] ++
  pad 1 ++ beNat 2 c.dest.toNat

def encodePushCfg (c : PushCfg) : List Byte :=
  [flagByte c.enabled] ++ beNat 1 (match c.trigger with | .source => 0 | .interval => 1 | .manual => 2) ++
  beNat 1 c.source.val ++ beNat 1 (portCode c.port) ++ [flagByte c.burst] ++ pad 1 ++ beNat 2 c.dest.toNat ++
  beNat 2 c.count ++ pad 2

def encodeDeviceCfg (d : Device) : List Byte :=
  beNat 2 d.node.toNat ++ beNat 1 d.managers.length ++ beNat 1 d.floor ++ d.managers.flatMap (fun m => beNat 2 m.toNat) ++
  pad (2 * (4 - d.managers.length)) ++ beNat 2 d.intervalLen ++ beNat 2 d.watermark ++ beNat 1 d.priority.alert ++
  beNat 1 d.priority.reply ++ beNat 1 d.priority.report ++ pad 1

/-! ## Counters in their order (R207) -/

def counterBytes (l : List Counter) : List Byte := l.flatMap fun c => beNat 4 c.toNat

def SlotCounters.list (c : SlotCounters) : List Counter :=
  [c.frames, c.sets, c.late, c.gapSets, c.reacquire, c.malformed, c.unusable, c.tagConflict]

/-- The 15 counters of a POINT entry. -/
def Point.counterList (p : Point) : List Counter :=
  [p.pair.paired, p.pair.unpaired, p.pair.invalidSets, p.pair.clampValues, p.pair.overflow,
   p.framer.ctr.handed, p.framer.ctr.discarded, p.framer.ctr.gap, p.framer.ctr.stepBack, p.framer.ctr.source,
   p.framer.ctr.coverage, p.framer.ctr.finishLate, p.framer.ctr.samples, p.framer.ctr.bridgedSets,
   p.framer.ctr.untrackedWindows]

def PortCounters.list (c : PortCounters) : List Counter :=
  [c.rxFrames, c.lengthErr, c.crcErr, c.looped, c.linkdownDrop, c.recordsLost, c.txFrames]

def Channel.counterList (c : Channel) : List Counter := [c.framesPushed, c.recordsSent, c.emptyTrigger, c.backlogSat]

def AlertEntry.counterList (e : AlertEntry) : List Counter := [e.occurrences, e.frames, e.restored]

/-- A gauge as a 32-bit word. -/
def gauge (n : Nat) : Counter := BitVec.ofNat 32 n

/-- A ticket that is not FREE (R202). -/
def Ticket.held : Ticket → Bool
  | .free => false
  | .waiting _ _ => true
  | .ready _ _ _ => true

/-- TICKETS_HELD (R202). -/
def Agent.ticketsHeld (a : Agent) : Nat := (a.tickets.toList.filter Ticket.held).length

/-- The 840 words of the COUNTERS entry (R207). -/
def counterWords (s : State) : List Counter :=
  s.dlv.portA.ctr.list ++ s.dlv.portB.ctr.list ++ [s.dlv.portB.ctr.passOverflow, s.dlv.portA.ctr.passOverflow] ++
  s.classifier.hits.toList ++ [s.classifier.noSlot, s.classifier.noTag] ++
  s.slots.toList.flatMap (fun x => x.ctr.list) ++
  s.points.toList.flatMap (fun p =>
    p.counterList ++ [p.finished, p.iau.closed, p.iau.merges, p.iau.discardedIntervals]) ++
  [s.finisher.abandonedCount, gauge s.finisher.peak] ++
  [gauge s.dlv.recq.words, gauge s.dlv.recq.records.length, gauge s.dlv.recq.peakWords, s.dlv.recq.appended,
   s.dlv.recq.fetched, s.dlv.recq.pushed] ++
  s.dlv.channels.toList.flatMap Channel.counterList ++ s.dlv.alerts.toList.flatMap AlertEntry.counterList ++
  [s.agent.received, s.agent.dropped, s.agent.postedRefused, s.agent.loadsOpened, s.agent.loadsApplied,
   s.agent.loadsExpired, gauge s.agent.ticketsHeld, s.agent.issued, s.agent.delivered, s.agent.ticketsExpired]

/-! ## Read parts (R207) -/

def slotStateCode : SlotState → Nat
  | .disabled => 0
  | .idle => 1
  | .acquiring => 2
  | .locked => 3
  | .lost => 4

/-- The read part of a SLOT entry (R207). Offsets 13..15 and 26..27, which the table neither names nor calls reserved, are
sent as 0: DESIGN CHOICE, notes/assumptions/43.md. -/
def readSlot (x : Slot) : List Byte :=
  encodeSlotCfg x.cfg ++ beNat 1 (slotStateCode x.st) ++
  beNat 1 (bitAt x.tag.isSome 0 + bitAt x.expected.isSome 1 + bitAt x.lastUsable.isSome 2) ++
  beNat 1 x.good ++ beNat 1 x.lateRun ++ [flagByte x.lostSeen] ++ pad 3 ++ beNat 4 (x.tag.getD 0).toNat ++
  beNat 6 (x.expected.getD 0) ++ pad 2 ++ beNat 4 (x.lastUsable.getD 0) ++ counterBytes x.ctr.list

def framerStateCode : FramerState → Nat
  | .disabled => 0
  | .waiting => 1
  | .collecting => 2
  | .held => 3

def bankCode : Bank → Nat
  | .free => 0
  | .active _ => 1
  | .out _ => 2

/-- Offsets 64..77 of a POINT read: the current window's progress (R82). -/
def readProgress : Option Window → List Byte
  | none => pad 14
  | some w =>
    beNat 2 w.len ++ beNat 2 w.pos ++ beNat 2 w.covered ++ beNat 2 w.bridgedCount ++ beNat 6 (w.start.getD 0)

/-- The current window is started. -/
def Framer.started (f : Framer) : Bool := (f.window.map fun w => w.start.isSome).getD false

/-- The read part of a POINT entry (R207). Offsets 62..63, which the table does not name, are sent as 0: DESIGN CHOICE,
notes/assumptions/43.md. -/
def readPoint (p : Point) : List Byte :=
  encodePointCfg p.cfg ++
  (match p.waitingCfg with | none => pad 28 | some c => encodePointCfg c) ++
  beNat 1 (bitAt p.waitingCfg.isSome 0 + bitAt p.changeMark 1 + bitAt p.vLocked 2 + bitAt p.iLocked 3 +
    bitAt p.framer.trk.untracked 4 + bitAt p.framer.started 5) ++
  beNat 1 (framerStateCode p.framer.st) ++ beNat 1 (bankCode p.framer.bank1 + 4 * bankCode p.framer.bank2) ++
  beNat 1 p.vQueue.length ++ beNat 1 p.iQueue.length ++ beNat 1 p.framer.trk.run ++ pad 2 ++
  readProgress p.framer.window ++ beNat 2 p.framer.trk.nextLen ++ beNat 4 p.framer.trk.period ++
  beNat 4 p.framer.trk.freq ++ beNat 4 p.framer.seq.toNat ++ counterBytes p.counterList

def readAlert (n : Fin 20) (e : AlertEntry) : List Byte :=
  encodeAlertCfg e.cfg ++ [flagByte (if isLevel n then e.active else e.pending.isSome)] ++ beNat 1 e.count ++
  [flagByte e.queuedOn.isSome, flagByte e.awaiting, flagByte e.queuedOn.isSome, flagByte (isLevel n),
   flagByte (isLevel n && e.active)] ++
  beNat 1 ((e.queuedOn.map portCode).getD 0) ++
  beNat 4 (if isLevel n then e.detail else e.pending.getD 0).toNat ++ counterBytes e.counterList

def pushStateCode : PushState → Nat
  | .disabled => 0
  | .armed => 1
  | .sending => 2
  | .done => 3

/-- The read part of a PUSH entry (R207). Offsets 15 and 18..19, which the table does not name, are sent as 0: DESIGN
CHOICE, notes/assumptions/43.md. -/
def readPush (waiting : Bool) (c : Channel) : List Byte :=
  encodePushCfg c.cfg ++ beNat 1 (pushStateCode c.st) ++ beNat 1 c.backlog ++ [flagByte waiting] ++ pad 1 ++
  beNat 2 c.remaining ++ pad 2 ++ beNat 4 c.seq.toNat ++ counterBytes c.counterList

def readDevice (d : Device) : List Byte :=
  encodeDeviceCfg d ++ beNat 2 Config.partCode.toNat ++ [Config.revision, flagByte d.metrologyLock]

/-- The flags word of a window result (11.4). -/
def windowFlagsWord (f : WindowFlags) : Nat :=
  bitAt f.untracked 8 + bitAt f.clamped 9 + bitAt f.bridged 10 + bitAt f.incomplete 11 + bitAt f.firstAfterChange 12

/-- The phasors of an order block in their order: VA, VB, VC, IA, IB, IC, IN, each re then im (11.4). -/
def encodePhasors (re im : Seven Int) : List Byte :=
  [(re.va, im.va), (re.vb, im.vb), (re.vc, im.vc), (re.ia, im.ia), (re.ib, im.ib), (re.ic, im.ic), (re.inn, im.inn)].flatMap
    fun x => beInt 4 x.1 ++ beInt 4 x.2

def encodeOrderResult (o : OrderResult) : List Byte :=
  beNat 1 o.order ++ [flagByte o.exceed] ++ pad 2 ++ encodePhasors o.re o.im ++ beInt 8 o.p ++ beInt 8 o.q

def encodeTotals (t : CurrentTotals) : List Byte := beNat 8 t.total ++ beNat 8 t.nonFund

/-- A RESULT entry (11.4): not present, every field is 0 (R103). -/
def readResult (i : Fin 24) : Option WindowResult → List Byte
  | none => pad 1316
  | some r =>
    [flagByte true] ++ beNat 1 i.val ++ beNat 1 r.orders.length ++
    beNat 1 (bitAt r.nonFundExceed 0 + bitAt r.neutral 1) ++ beNat 4 r.seq.toNat ++ beNat 6 r.start ++ beNat 2 r.len ++
    beNat 2 r.covered ++ beNat 2 r.bridgedCount ++ beNat 2 (windowFlagsWord r.flags) ++ pad 2 ++ beNat 4 r.freq ++
    beNat 8 r.excess ++ encodeTotals r.ia ++ encodeTotals r.ib ++ encodeTotals r.ic ++ encodeTotals r.inn ++
    r.orders.flatMap encodeOrderResult ++ pad (76 * (16 - r.orders.length))

/-- The read part of entry i of a space; of COUNTERS, its word i (R173, R174). An index that names no entry
reads as nothing. -/
def readEntry (s : State) (sp : Space) (i : Nat) : List Byte :=
  match sp with
  | .device => readDevice s.device
  | .window => ((s.classifier.windows[i]?).map encodeWindow).getD []
  | .slot => ((s.slots[i]?).map readSlot).getD []
  | .point => ((s.points[i]?).map readPoint).getD []
  | .hset => ((s.finisher.hsets[i]?).map encodeHset).getD []
  | .limit => ((s.finisher.limits[i]?).map encodeLimit).getD []
  | .alert =>
    match toIndex 20 i with
    | none => []
    | some n => readAlert n (s.dlv.alert n)
  | .push =>
    match toIndex 4 i with
    | none => []
    | some c => readPush (s.dlv.waitA.contains c || s.dlv.waitB.contains c) (s.dlv.channel c)
  | .counters => (((counterWords s)[i]?).map fun c => beNat 4 c.toNat).getD []
  | .result =>
    match toIndex 24 i with
    | none => []
    | some k => readResult k s.points[k].result

end Sys2Proof.Machine
end

