-- ==== Sys2Proof/Machine/Flags.lean ====
section
/-! DEFINITION. The conditions the blocks report to the Alert Unit (R150): each LEVEL source's condition and
its detail, computed from the state of the block that owns it. -/

namespace Sys2Proof.Machine

/-- STREAM_LOST (R39): active while an enabled slot is LOST, with the map of those slots. -/
def streamLostReport (slots : Vector Slot 32) : LevelReport :=
  let m := mapOf fun k : Fin 32 => slots[k].st = .lost
  { number := 0, active := m ≠ 0, detail := BitVec.ofNat 32 m }

/-- A condition fed by per-point flags of the enabled points (R80, R104). -/
def pointFlagReport (n : Fin 20) (points : Vector Point 24) (flag : Fin 24 → Point → Bool) : LevelReport :=
  let m := mapOf fun i : Fin 24 => points[i].cfg.enabled && flag i points[i]
  { number := n, active := m ≠ 0, detail := BitVec.ofNat 32 m }

/-- FREQ_UNTRACKED (R80). -/
def freqUntrackedReport (points : Vector Point 24) : LevelReport :=
  pointFlagReport 4 points fun _ p => p.framer.trk.untracked

/-- FREQ_UNTRACKED at the moment point i's flag takes the value b (R80: updated at each set and clear). -/
def freqUntrackedAt (points : Vector Point 24) (i : Fin 24) (b : Bool) : LevelReport :=
  pointFlagReport 4 points fun j p => if j = i then b else p.framer.trk.untracked

/-- HARMONIC_LIMIT (R104). -/
def harmonicReport (points : Vector Point 24) : LevelReport := pointFlagReport 5 points fun _ p => p.harmFlag

/-- REACTIVE_EXCESS (R104). -/
def excessReport (points : Vector Point 24) : LevelReport := pointFlagReport 6 points fun _ p => p.excessFlag

/-- LINK_DOWN (R18): active while a port is DOWN, one flag for each. -/
def linkDownReport (d : Delivery) : LevelReport :=
  let m := bitAt (!d.portA.up) 0 + bitAt (!d.portB.up) 1
  { number := 19, active := m ≠ 0, detail := BitVec.ofNat 32 m }

end Sys2Proof.Machine
end

