-- ==== Sys2Proof/Machine/Pairing.lean ====
section
/-! DEFINITION. The Pairing Unit for one point: taking, calibrating and pairing sets (R51 to R59), and what a
lock report, an enable, a disable, a write, a point reset and an accounting restart do to the point's
pairing and framing (R48 to R50, R61, R83). -/

namespace Sys2Proof.Machine

/-! ## Usable sets and calibration (R52, R53) -/

/-- A channel is valid unless it is not needed. -/
def needed (need : Bool) (c : Option Int) : Bool := !need || c.isSome

/-- The set is usable for a point on the sides named (R52). -/
def usableSet (useNeutral vSide iSide : Bool) (r : RawSet) : Bool :=
  needed vSide r.chan.va && needed vSide r.chan.vb && needed vSide r.chan.vc &&
  needed iSide r.chan.ia && needed iSide r.chan.ib && needed iSide r.chan.ic && needed (iSide && useNeutral) r.chan.inn

/-- The calibrated value before the clamp: round(r × G / 16,384) (R53). -/
def scaled (r : Int) (g : Nat) : Int := roundDiv (r * g) 16384

/-- The calibrated value of a raw value with a gain (R53). -/
def calibrate (r : Int) (g : Nat) : Int := clampTo Config.sampleMax (scaled r g)

/-- The channels a point takes from a set on the sides named: the others are none (R52, R53). -/
def takenChannels (useNeutral vSide iSide : Bool) (r : RawSet) : Seven (Option Int) :=
  { ia := if iSide then r.chan.ia else none
    ib := if iSide then r.chan.ib else none
    ic := if iSide then r.chan.ic else none
    inn := if iSide && useNeutral then r.chan.inn else none
    va := if vSide then r.chan.va else none
    vb := if vSide then r.chan.vb else none
    vc := if vSide then r.chan.vc else none }

/-- A taken channel calibrated; a channel not taken is 0. -/
def calibrated (c : Option Int) (g : Nat) : Int :=
  match c with
  | none => 0
  | some r => calibrate r g

/-- The clamp changed the value of a taken channel (R53). -/
def clamps (c : Option Int) (g : Nat) : Bool :=
  match c with
  | none => false
  | some r => calibrate r g ≠ scaled r g

/-- The calibrated set, and the number of its values the clamp changed (R53, R55). -/
def calibrateSet (cfg : PointCfg) (vSide iSide : Bool) (r : RawSet) : AlignEntry × Nat :=
  let ch := takenChannels cfg.useNeutral vSide iSide r
  let n := ((ch.zipWith clamps cfg.gains).toList.filter id).length
  ({ index := r.index, vals := ch.zipWith calibrated cfg.gains, clamp := 0 < n }, n)

/-! ## Alignment (R56, R57) -/

/-- The outcome of an arriving set: its own queue and the partner queue after it, the entries counted
UNPAIRED, whether its queue overflowed, and the partner it pairs with. -/
structure Aligned where
  own : List AlignEntry
  partner : List AlignEntry
  unpaired : Nat
  overflow : Bool
  pairWith : Option AlignEntry
deriving DecidableEq, Repr

/-- A set appended to its own queue (R57). -/
def appendOwn (own : List AlignEntry) (x : AlignEntry) (dropped : Nat) : Aligned :=
  if own.length < Config.alignRoom then
    { own := own ++ [x], partner := [], unpaired := dropped, overflow := false, pairWith := none }
  else { own := own.drop 1 ++ [x], partner := [], unpaired := dropped + 1, overflow := true, pairWith := none }

/-- An arriving set against the partner queue (R56). -/
def align (own partner : List AlignEntry) (x : AlignEntry) : Aligned :=
  let rest := partner.dropWhile fun y => y.index < x.index
  let dropped := partner.length - rest.length
  match rest with
  | [] => appendOwn own x dropped
  | y :: ys =>
    if y.index = x.index then { own := own, partner := ys, unpaired := dropped, overflow := false, pairWith := some y }
    else { own := own, partner := y :: ys, unpaired := dropped + 1, overflow := false, pairWith := none }

/-- The paired set of a V-side and an I-side entry (R58): each side's values are 0 in the other's channels. -/
def joinSides (x y : AlignEntry) : PairedSet :=
  { index := x.index, vals := x.vals.zipWith (· + ·) y.vals, clamp := x.clamp || y.clamp }

/-- A paired set is counted PAIRED and handed to the framer (R58). -/
def Point.paired (ctx : PointCtx) (x : PairedSet) (p : Point) : PointStep :=
  { p with pair := { p.pair with paired := p.pair.paired + 1 } }.frame ctx x

/-- What an aligned set leaves in the point: the side says which queue is its own. -/
def Point.putAligned (vSide : Bool) (a : Aligned) (p : Point) : Point :=
  { p with
    vQueue := if vSide then a.own else a.partner
    iQueue := if vSide then a.partner else a.own
    pair := { p.pair with
      unpaired := p.pair.unpaired + BitVec.ofNat 32 a.unpaired
      overflow := if a.overflow then p.pair.overflow + 1 else p.pair.overflow } }

/-- A usable set on one side of a point with two distinct slots (R56, R57). -/
def Point.alignSet (ctx : PointCtx) (vSide : Bool) (x : AlignEntry) (p : Point) : PointStep :=
  let a := if vSide then align p.vQueue p.iQueue x else align p.iQueue p.vQueue x
  let p1 := p.putAligned vSide a
  match a.pairWith with
  | some y => p1.paired ctx (joinSides x y)
  | none => (p1, if a.overflow then [.overflow] else [])

/-- A set taken by a point on the sides named (R52 to R57). -/
def Point.takeSet (ctx : PointCtx) (vSide iSide : Bool) (r : RawSet) (p : Point) : PointStep :=
  if !usableSet p.cfg.useNeutral vSide iSide r then
    ({ p with pair := { p.pair with invalidSets := p.pair.invalidSets + 1 } }, [])
  else
    let c := calibrateSet p.cfg vSide iSide r
    let p1 := { p with pair := { p.pair with clampValues := p.pair.clampValues + BitVec.ofNat 32 c.2 } }
    if vSide && iSide then p1.paired ctx { index := c.1.index, vals := c.1.vals, clamp := c.1.clamp }
    else p1.alignSet ctx vSide c.1

/-- A set delivered by slot k is offered to the point (R51). -/
def Point.offerSet (ctx : PointCtx) (k : Fin 32) (r : RawSet) (p : Point) : PointStep :=
  let vSide := p.cfg.vSlot = k
  let iSide := p.cfg.iSlot = k
  if p.cfg.enabled && p.bothLocked && (vSide || iSide) then p.takeSet ctx vSide iSide r else (p, [])

/-! ## Lock reports (R59, R65) -/

/-- An enabled point names slot k (R38, R59). -/
def Point.follows (k : Fin 32) (p : Point) : Bool := p.cfg.enabled && (p.cfg.vSlot = k || p.cfg.iSlot = k)

/-- Slot k leaves LOCKED (R59, R74). -/
def Point.slotLeft (ctx : PointCtx) (k : Fin 32) (p : Point) : PointStep :=
  if !p.follows k then (p, [])
  else
    let p1 := { p with
      vLocked := p.vLocked && p.cfg.vSlot ≠ k
      iLocked := p.iLocked && p.cfg.iSlot ≠ k }.emptyQueues
    if p1.framer.st = .collecting then p1.sourceLost ctx else (p1, [])

/-- Slot k enters LOCKED (R59, R66, R75). -/
def Point.slotEntered (ctx : PointCtx) (k : Fin 32) (p : Point) : PointStep :=
  if !p.follows k then (p, [])
  else
    let p1 := { p with vLocked := p.vLocked || p.cfg.vSlot = k, iLocked := p.iLocked || p.cfg.iSlot = k }
    if p1.framer.st = .held && p1.bothLocked then ({ p1 with framer := { p1.framer with st := .collecting } }, [])
    else (p1.enterIfLocked ctx, [])

/-! ## Writes (R48 to R50) -/

/-- The point is enabled (R50): queues empty, source states fresh, change mark set, tracker nominal, the
framer in WAITING and then, with both sources LOCKED, in COLLECTING. -/
def Point.enable (ctx : PointCtx) (cfg : PointCfg) (p : Point) : PointStep :=
  let p1 := ({ p with cfg := cfg, changeMark := true }.emptyQueues).takeSources ctx
  let x := { p1 with framer := { p1.framer with st := .waiting } }.setNominal cfg
  (x.1.enterIfLocked ctx, x.2)

/-- The point's tracker with its untracked flag cleared (R83, Disable). -/
def Point.clearUntracked (p : Point) : PointStep :=
  let t := { p.framer.trk with untracked := false }
  ({ p with framer := { p.framer with trk := t } }, untrackedEvents p.framer.trk t)

/-- The pairing and framing side of a disable (R50, R83, R104): the configuration is stored in force, the
queues are emptied, any pending configuration and the change mark go, the window is given up, and the
untracked, harmonic and excess flags clear. -/
def Point.disable (ctx : PointCtx) (cfg : PointCfg) (p : Point) : PointStep :=
  let x := p.emptyQueues.applyCfg ctx false cfg
  x.andThen fun q =>
    let q1 := { q with waitingCfg := none, changeMark := false, harmFlag := false, excessFlag := false }.dropWindow
    { q1 with framer := { q1.framer with st := .disabled } }.clearUntracked

/-- A configuration stored in force at once in WAITING, or while the point stays disabled (R48, R49). -/
def Point.storeNow (ctx : PointCtx) (cfg : PointCfg) (p : Point) : PointStep :=
  let x := p.applyCfg ctx true cfg
  (x.1.enterIfLocked ctx, x.2)

/-- A configuration stored as pending (R48). -/
def Point.storePending (cfg : PointCfg) (p : Point) : PointStep := ({ p with waitingCfg := some cfg }, [])

/-! ## Resets (R61, R83, R183) -/

/-- The bank of a window on the Finish Queue, removed while waiting (R95, 1). -/
def Point.freeBank (ix : BankIx) (p : Point) : Point := { p with framer := p.framer.setBank ix .free }

/-- Steps 3 and 4 of R183, and the flags of step 5: pending configuration applied without a mark, queues
emptied, sources afresh, the window given up, the tracker nominal, WAITING or COLLECTING. -/
def Point.reset (ctx : PointCtx) (p : Point) : PointStep :=
  let p0 := { p with cfg := p.waitingCfg.getD p.cfg, waitingCfg := none, changeMark := false }
  let p1 := (p0.emptyQueues.takeSources ctx).dropWindow
  let st := if p1.framer.st = .disabled then FramerState.disabled else .waiting
  let p2 := { p1 with
    framer := { p1.framer with st := st }, result := none, harmFlag := false, excessFlag := false }
  let x := p2.setNominal p2.cfg
  (x.1.enterIfLocked ctx, x.2)

/-- The banks after a reset: FREE, except the one under an abandoned finish, which stays OUT (R83, R95). -/
def Bank.restarted (kept : Bool) (b : Bank) : Bank := if kept then b else .free

/-- A point after an accounting restart (R61, R83, R103, R106, R127); `keep` says which bank, if any, is
under the abandoned finish. The clearing of the untracked flag is reported with the other conditions. -/
def Point.restarted (keep : Option BankIx) (p : Point) : Point :=
  let cfg := p.waitingCfg.getD p.cfg
  { cfg := cfg, waitingCfg := none, changeMark := false
    vLocked := p.vLocked && !cfg.enabled, iLocked := p.iLocked && !cfg.enabled
    vQueue := [], iQueue := [], pair := .zero
    framer :=
      { st := if cfg.enabled then .waiting else .disabled
        bank1 := p.framer.bank1.restarted (keep = some .first)
        bank2 := p.framer.bank2.restarted (keep = some .second)
        window := none, trk := nominalTracker cfg, seq := 0, ctr := .zero }
    result := none, harmFlag := false, excessFlag := false, finished := 0
    acc := .zero, ivl := .empty, iau := .zero }

end Sys2Proof.Machine
end

