-- ==== Sys2Proof/Machine/Slots.lean ====
section
/-! DEFINITION. The stream tracker: what one slot does with a frame, at its loss deadline and at a write of
its entry (R29 to R41). -/

namespace Sys2Proof.Machine

/-- What a slot's treatment of one event leaves and reports: the slot, whether it left LOCKED, whether it
entered LOCKED (R38), whether STREAM_REACQUIRED is raised, whether it entered or left LOST (R39), and
the sets it delivers (R37). -/
structure SlotStep where
  slot : Slot
  left : Bool := false
  lostChanged : Bool := false
  entered : Bool := false
  reacquired : Bool := false
  delivered : List RawSet := []
deriving DecidableEq, Repr

/-- Adoption (R31): the slot follows the stream from this frame. -/
def Slot.adopt (now : Nat) (v : SampleView) (s : Slot) : Slot :=
  { s with
    tag := some v.tag
    expected := some (v.first + v.setCount)
    good := 1
    lateRun := 0
    lastUsable := some now
    st := .acquiring }

/-- Re-adoption; from LOCKED it is counted REACQUIRE and the leaving is reported (R31). -/
def Slot.readopt (now : Nat) (v : SampleView) (s : Slot) : SlotStep :=
  if s.st = .locked then
    { slot := { s.adopt now v with ctr := { s.ctr with reacquire := s.ctr.reacquire + 1 } }, left := true }
  else { slot := s.adopt now v }

/-- The slot after it has taken a frame in order: the last usable time, the late count and e (R33, R34). -/
def Slot.advance (now : Nat) (v : SampleView) (s : Slot) : Slot :=
  { s with lastUsable := some now, lateRun := 0, expected := some (v.first + v.setCount) }

/-- Counts the frame's sets as delivered (R37). -/
def Slot.countSets (v : SampleView) (s : Slot) : Slot :=
  { s with ctr := { s.ctr with sets := s.ctr.sets + BitVec.ofNat 32 v.sets.length } }

/-- The good count of a LOCKED slot after a frame whose sets it delivers, 0..64 (R28, R33). R34 does not say
whether a frame delivered across a gap raises it; the worked example of chapter 2 shows that it does
(DEDUCED, notes/assumptions/24.md). -/
def raiseGood (n : Nat) : Nat := if n < 64 then n + 1 else n

/-- A frame in sequence (R33, R39). -/
def Slot.inSequence (now : Nat) (v : SampleView) (s : Slot) : SlotStep :=
  let s1 := s.advance now v
  if s.st = .locked then
    { slot := { s1 with good := raiseGood s.good }.countSets v, delivered := v.sets }
  else if s.cfg.acquire ≤ s.good + 1 then
    { slot := { s1 with good := s.good + 1, st := .locked, lostSeen := false }.countSets v
      entered := true, reacquired := s.lostSeen, delivered := v.sets }
  else { slot := { s1 with good := s.good + 1 } }

/-- A frame after a forward gap of g sets (R34). -/
def Slot.forwardGap (now : Nat) (v : SampleView) (g : Nat) (s : Slot) : SlotStep :=
  if s.st = .locked && g ≤ s.cfg.maxGap then
    { slot := { s.advance now v with
        good := raiseGood s.good
        ctr := { s.ctr with gapSets := s.ctr.gapSets + BitVec.ofNat 32 g } }.countSets v
      delivered := v.sets }
  else s.readopt now v

/-- A late or duplicate frame, `back` sets before e (R35). -/
def Slot.lateFrame (now : Nat) (v : SampleView) (back : Nat) (s : Slot) : SlotStep :=
  if 12800 < back then s.readopt now v
  else
    let s1 := { s with lateRun := s.lateRun + 1, lastUsable := some now, ctr := { s.ctr with late := s.ctr.late + 1 } }
    if 8 ≤ s1.lateRun then s1.readopt now v else { slot := s1 }

/-- A usable frame of the latched tag in ACQUIRING or LOCKED (R33 to R35). -/
def Slot.follow (now : Nat) (v : SampleView) (s : Slot) : SlotStep :=
  let e := s.expected.getD 0
  if v.first = e then s.inSequence now v
  else if e < v.first then s.forwardGap now v (v.first - e)
  else s.lateFrame now v (e - v.first)

/-- A usable frame, by the state of the slot (R31, R32). -/
def Slot.usable (now : Nat) (v : SampleView) (s : Slot) : SlotStep :=
  match s.st with
  | .disabled => { slot := s }
  | .idle => { slot := s.adopt now v }
  | .lost => { slot := s.adopt now v, lostChanged := true }
  | .acquiring | .locked =>
    if s.tag = some v.tag then s.follow now v
    else { slot := { s with ctr := { s.ctr with tagConflict := s.ctr.tagConflict + 1 } } }

/-- A frame sent to an enabled slot, whole (R28 to R35). -/
def Slot.take (now : Nat) (payload : List Byte) (s : Slot) : SlotStep :=
  let s1 := { s with ctr := { s.ctr with frames := s.ctr.frames + 1 } }
  if malformed payload then { slot := { s1 with ctr := { s1.ctr with malformed := s1.ctr.malformed + 1 } } }
  else
    let v := sampleView payload
    if !v.sync || (v.test && !s.cfg.acceptTest) then
      { slot := { s1 with ctr := { s1.ctr with unusable := s1.ctr.unusable + 1 } } }
    else s1.usable now v

/-- The timebase has reached the slot's loss deadline while it is in ACQUIRING or LOCKED (R36). -/
def Slot.lossDue (now : Nat) (s : Slot) : Bool :=
  (s.st = .acquiring || s.st = .locked) && s.lastUsable.getD 0 + s.cfg.lossTimeout ≤ now

/-- The slot becomes LOST (R36). -/
def Slot.lose (s : Slot) : SlotStep :=
  { slot := { s with st := .lost, tag := none, good := 0, lateRun := 0, lostSeen := true }
    left := s.st = .locked, lostChanged := true }

/-- The dynamic state of a slot dropped, with its counters at 0, in a given state (R40, R41). -/
def Slot.cleared (cfg : SlotCfg) (st : SlotState) : Slot :=
  { cfg := cfg, st := st, tag := none, expected := none, good := 0, lateRun := 0, lastUsable := none
    lostSeen := false, ctr := .zero }

/-- A write of the SLOT entry (R40). -/
def Slot.write (now : Nat) (cfg : SlotCfg) (s : Slot) : SlotStep :=
  if s.cfg.enabled then
    if cfg.enabled then
      let s1 := { s with cfg := cfg }
      if s1.lossDue now then s1.lose else { slot := s1 }
    else { slot := .cleared cfg .disabled, left := s.st = .locked, lostChanged := s.st = .lost }
  else if cfg.enabled then { slot := .cleared cfg .idle }
  else { slot := { s with cfg := cfg } }

/-- A slot after an accounting restart (R41). -/
def Slot.restarted (s : Slot) : Slot := .cleared s.cfg (if s.cfg.enabled then .idle else .disabled)

end Sys2Proof.Machine
end

