-- ==== Sys2Proof/Machine/Points.lean ====
section
/-! DEFINITION. The blocks joined in the whole state: what the events of one point, one slot, the Finisher and
the Record Queue do to the others. -/

namespace Sys2Proof.Machine

/-! ## Access -/

def State.point (s : State) (i : Fin 24) : Point := s.points[i]

def State.setPoint (s : State) (i : Fin 24) (p : Point) : State := { s with points := s.points.set i p }

def State.slot (s : State) (k : Fin 32) : Slot := s.slots[k]

def State.setSlot (s : State) (k : Fin 32) (x : Slot) : State := { s with slots := s.slots.set k x }

/-- What a point reads in a state. -/
def State.ctx (s : State) : PointCtx := { hsets := s.finisher.hsets, slots := s.slots }

/-! ## The Finish Queue (R93 to R95) -/

/-- The idle Finisher begins the finish of the head entry: it reads the limit profile and is due after the
duration of its orders (R94). -/
def State.beginFinish (s : State) : State :=
  match s.finisher.active, s.finisher.queue with
  | none, e :: _ =>
    let n := match (s.point e.point).framer.bank e.bank with
      | .out b => b.orders.length
      | .active b => b.orders.length
      | .free => 0
    { s with finisher := { s.finisher with
        active := some { due := s.clock + finishDuration n, limits := s.finisher.limits[e.cfg.limit], abandoned := false } } }
  | _, _ => s

/-- An entry is appended; an idle Finisher begins at once (R93, R94, R106). -/
def State.appendFinish (e : FinishEntry) (s : State) : State :=
  let queue := s.finisher.queue ++ [e]
  { s with finisher := { s.finisher with queue := queue, peak := max s.finisher.peak queue.length } }.beginFinish

/-- Point i's entry is removed from the Finish Queue: at once with its bank FREE while it waits, abandoned
when its finish is under way (R95). -/
def State.dropFinish (i : Fin 24) (s : State) : State :=
  match s.finisher.active, s.finisher.queue with
  | some a, e :: rest =>
    if e.point = i then { s with finisher := { s.finisher with active := some { a with abandoned := true } } }
    else
      match rest.find? fun x => x.point = i with
      | none => s
      | some x =>
        { s with finisher := { s.finisher with queue := e :: rest.filter fun y => y.point ≠ i } }.setPoint i
          ((s.point i).freeBank x.bank)
  | none, q =>
    match q.find? fun x => x.point = i with
    | none => s
    | some x =>
      { s with finisher := { s.finisher with queue := q.filter fun y => y.point ≠ i } }.setPoint i
        ((s.point i).freeBank x.bank)
  | some _, [] => s

/-! ## Events of a point -/

/-- The number of a discard reason in an alert's detail (11.2). -/
def reasonCode : DiscardReason → Nat
  | .gap => 1
  | .stepBack => 2
  | .source => 3
  | .coverage => 4
  | .finishLate => 5

/-- One event of point i reaches the other blocks. -/
def State.pointEvent (i : Fin 24) (s : State) : PointEvent → State
  | .overflow => s.raise 2 i.val
  | .discarded r => s.raise 3 (i.val * 65536 + reasonCode r)
  | .untracked b => s.run [.levels [freqUntrackedAt s.points i b]]
  | .handOver e => s.appendFinish { e with point := i }

/-- Point i takes part of an event, and what it reports reaches the others in order. -/
def State.onPoint (i : Fin 24) (f : PointCtx → Point → PointStep) (s : State) : State :=
  let x := f s.ctx (s.point i)
  x.2.foldl (State.pointEvent i) (s.setPoint i x.1)

/-- Every point takes part of an event: a lock report (R38) or a delivered set (R51). The rules give no order among
the points; increasing point number is the model's choice (DESIGN CHOICE, notes/assumptions/40.md), which
decides the order of their Finish Queue appends (R69, R93) and of their alert occurrences. -/
def State.onPoints (f : PointCtx → Point → PointStep) (s : State) : State :=
  (List.finRange 24).foldl (fun s i => s.onPoint i f) s

/-! ## Slots (R37 to R39) -/

/-- What a slot's treatment of an event brings about: STREAM_LOST, the lock reports to the points, and
STREAM_REACQUIRED, before any set is delivered (R38, R39), in the order of R36 (DEDUCED,
notes/assumptions/41.md). -/
def State.slotReports (k : Fin 32) (x : SlotStep) (s : State) : State :=
  let s1 := if x.left then s.onPoints fun ctx => Point.slotLeft ctx k else s
  let s2 := if x.lostChanged then s1.run [.levels [streamLostReport s1.slots]] else s1
  let s3 := if x.entered then s2.onPoints fun ctx => Point.slotEntered ctx k else s2
  if x.reacquired then s3.raise 1 k.val else s3

/-- A slot takes an event: it is changed, reports, and delivers its sets in order to every point (R37). -/
def State.applySlot (k : Fin 32) (x : SlotStep) (s : State) : State :=
  let s1 := (s.setSlot k x.slot).slotReports k x
  x.delivered.foldl (fun s r => s.onPoints fun ctx => Point.offerSet ctx k r) s1

/-! ## Records (R121, R131) -/

/-- A record accepted by the Record Queue: the append, QUEUE_HIGH, INTERVAL_CLOSED and the INTERVAL triggers
(R121, R131). That QUEUE_HIGH and its triggers come before INTERVAL_CLOSED is the model's choice (DESIGN
CHOICE, notes/assumptions/7.md): neither rule orders the two. -/
def State.appendRecord (i : Fin 24) (r : IntervalRecord) (s : State) : State :=
  let s1 := { s with dlv := { s.dlv with recq := s.dlv.recq.append r } }
  s1.run ([.queueHigh, .edge 7 (BitVec.ofNat 32 i.val)] ++ intervalTriggers s1.dlv)

/-- A record that may have been built is appended. -/
def State.appendIf (i : Fin 24) : Option IntervalRecord → State → State
  | none, s => s
  | some r, s => s.appendRecord i r

/-- The window of point i is accounted (R114 to R122). -/
def State.accountWindow (i : Fin 24) (r : WindowResult) (s : State) : State :=
  let x := (s.point i).account i s.device.intervalLen s.dlv.recq.freeWords r
  let s1 := (s.setPoint i x.point).appendIf i x.appended
  if x.merged then s1.raise 9 i.val else s1

/-- The open interval of point i is closed at once by a disable or a point reset (R123, R124). -/
def State.closeInterval (i : Fin 24) (cut : Bool) (s : State) : State :=
  let x := (s.point i).closeNow i cut s.dlv.recq.freeWords
  (s.setPoint i x.1).appendIf i x.2

/-- HARMONIC_LIMIT and REACTIVE_EXCESS are updated together (R104). When both rise, the triggers of source 5 are given
before those of source 6, which no rule orders (DESIGN CHOICE, notes/assumptions/7.md). -/
def State.updateConditions (s : State) : State :=
  s.run [.levels [harmonicReport s.points, excessReport s.points]]

/-! ## Snapshot copies (R199) -/

/-- The copy of a point's open interval as it stands. -/
def snapshotCopy (i : Fin 24) (now : Nat) (p : Point) : SnapshotCopy :=
  { point := i, seq := (p.result.map (·.seq)).getD 0, ivl := p.ivl, acc := p.acc, takenAt := now }

/-- A ticket at a completion of point i: WAITING for it becomes READY (R199). -/
def Ticket.complete (i : Fin 24) (now : Nat) (p : Point) : Ticket → Ticket
  | .waiting j since => if j = i then .ready j now (snapshotCopy i now p) else .waiting j since
  | .free => .free
  | .ready j since c => .ready j since c

/-- A ticket at a point reset of point i (R202). -/
def Ticket.resetFor (i : Fin 24) : Ticket → Ticket
  | .free => .free
  | .waiting j since => if j = i then .free else .waiting j since
  | .ready j since c => if j = i then .free else .ready j since c

/-- Applies f to each ticket. -/
def State.onTickets (f : Ticket → Ticket) (s : State) : State :=
  { s with agent := { s.agent with tickets := s.agent.tickets.map f } }

/-! ## Completion (R95, R102) -/

/-- Step 1 and the flags of step 2 of R102. -/
def Point.publish (r : WindowResult) (p : Point) : Point :=
  { p with result := some r, harmFlag := anyExceed r, excessFlag := 0 < r.excess }

/-- Step 5 of R102 for the point: the bank FREE and FINISHED_WINDOWS. -/
def Point.release (ix : BankIx) (p : Point) : Point := { p.freeBank ix with finished := p.finished + 1 }

/-- The head entry leaves the queue, and the Finisher begins the next or becomes idle (R94). -/
def State.nextFinish (s : State) : State :=
  { s with finisher := { s.finisher with queue := s.finisher.queue.drop 1, active := none } }.beginFinish

/-- The sums of a bank that holds a window. -/
def Bank.sums : Bank → Option BankSums
  | .free => none
  | .active b => some b
  | .out b => some b

/-- A finish that was not abandoned completes: the steps of R102, in order. -/
def State.completeFinish (e : FinishEntry) (b : BankSums) (l : LimitProfile) (s : State) : State :=
  let r := finishResult e b l
  let s1 := (s.setPoint e.point ((s.point e.point).publish r)).updateConditions
  let s2 := s1.accountWindow e.point r
  let s3 := s2.onTickets (Ticket.complete e.point (timebase s2) (s2.point e.point))
  (s3.setPoint e.point ((s3.point e.point).release e.bank)).nextFinish

/-- An abandoned finish ends: its bank FREE, ABANDONED_FINISHES counted, the entry removed (R95). -/
def State.endAbandoned (e : FinishEntry) (s : State) : State :=
  let s1 := s.setPoint e.point ((s.point e.point).freeBank e.bank)
  { s1 with finisher := { s1.finisher with abandonedCount := s1.finisher.abandonedCount + 1 } }.nextFinish

/-- The finish whose duration has passed, if there is one: the head entry and what the Finisher holds of it
(R94). -/
def State.dueFinish (s : State) (abandoned : Bool) : Option (FinishEntry × ActiveFinish) :=
  match s.finisher.active, s.finisher.queue with
  | some a, e :: _ => if a.abandoned = abandoned && a.due ≤ s.clock then some (e, a) else none
  | _, _ => none

end Sys2Proof.Machine
end

