-- ==== Sys2Proof/Machine/Tables.lean ====
section
/-! DEFINITION. Writes of the table spaces: the checks of R175 and the application of R176, shared by WRITE,
WRITE-POSTED and the close of a table load, with each owning block's rule for the entries written. -/

namespace Sys2Proof.Machine

/-! ## Written entries -/

/-- One written entry, as its space reads it. -/
inductive Entry where
  | window (w : StreamWindow)
  | slot (c : SlotCfg)
  | point (c : PointCfg)
  | hset (l : List Nat)
  | limit (l : LimitProfile)
  | alert (c : AlertCfg)
  | push (c : PushCfg)
  | device (d : Device)
deriving DecidableEq, Repr

/-- The entry a run of bytes spells for a space, if every field is valid; `lock` is the metrology lock
(R175, 6). -/
def decodeEntry (lock : Bool) (sp : Space) (l : List Byte) : Option Entry :=
  match sp with
  | .device => (decodeDevice lock l).map .device
  | .window => (decodeWindow l).map .window
  | .slot => (decodeSlotCfg l).map .slot
  | .point => (decodePointCfg l).map .point
  | .hset => (decodeHset l).map .hset
  | .limit => (decodeLimit l).map .limit
  | .alert => (decodeAlertCfg l).map .alert
  | .push => (decodePushCfg l).map .push
  | .counters => none
  | .result => none

/-- The bytes of written entry j of a run of entries. -/
def entryBytes (sp : Space) (data : List Byte) (j : Nat) : List Byte := (data.drop (j * writeSize sp)).take (writeSize sp)

/-! ## The metrology lock (R46, R181) -/

/-- The protected bytes of a POINT entry: V slot, I slot, C, harmonic set and the gains (R181, 11.5). -/
def protectedBytes (l : List Byte) : List Byte := (l.drop 1).take 2 ++ (l.drop 5).take 2 ++ (l.drop 14).take 14

/-- The configuration a written POINT entry is compared with: the pending one when held (R46). -/
def Point.comparedCfg (p : Point) : PointCfg := p.waitingCfg.getD p.cfg

/-- Writing these bytes to entry i would change a field the lock protects (R181). An entry whose bytes are not
all there cannot be compared and is left to the length check (notes/assumptions/23.md). -/
def changesProtected (s : State) (sp : Space) (i : Nat) (l : List Byte) : Bool :=
  match sp with
  | .hset => true
  | .device => l.length == writeSize .device && field 12 2 l != s.device.intervalLen
  | .point =>
    match toIndex 24 i with
    | none => false
    | some k => l.length == writeSize .point && protectedBytes l != protectedBytes (encodePointCfg (s.point k).comparedCfg)
  | .window => false
  | .slot => false
  | .limit => false
  | .alert => false
  | .push => false
  | .counters => false
  | .result => false

/-- The first entry that fails step 4 of R175. -/
def lockFailure (s : State) (sp : Space) (first count : Nat) (data : List Byte) : Option Nat :=
  if s.device.metrologyLock then
    ((List.range count).find? fun j => changesProtected s sp (first + j) (entryBytes sp data j)).map (first + ·)
  else none

/-! ## In use and values -/

/-- An enabled point names harmonic set i in its configuration in force or its pending configuration (R91). -/
def hsetNamed (s : State) (i : Nat) : Bool :=
  s.points.any fun p => p.cfg.enabled && (p.cfg.hset.val == i || (p.waitingCfg.map fun c => c.hset.val == i).getD false)

/-- The first HSET entry written that is in use (R175, 5). -/
def inUseFailure (s : State) (sp : Space) (first count : Nat) : Option Nat :=
  if sp = .hset then ((List.range count).find? fun j => hsetNamed s (first + j)).map (first + ·) else none

/-- The entries of a run, when every one of them is valid. -/
def decodeRun (lock : Bool) (sp : Space) (count : Nat) (data : List Byte) : Option (List Entry) :=
  (List.range count).mapM fun j => decodeEntry lock sp (entryBytes sp data j)

/-- The first entry that is not valid. -/
def valueFailure (lock : Bool) (sp : Space) (first count : Nat) (data : List Byte) : Option Nat :=
  ((List.range count).find? fun j => (decodeEntry lock sp (entryBytes sp data j)).isNone).map (first + ·)

/-! ## The checks (R175) -/

/-- A refusal of a write: its status and the index it names (R175). -/
structure WriteRefusal where
  status : Status
  index : Nat
deriving DecidableEq, Repr

/-- Step 4: LOCKED. -/
def checkLock (s : State) (sp : Space) (first count : Nat) (data : List Byte) : Option WriteRefusal :=
  (lockFailure s sp first count data).map (⟨.locked, ·⟩)

/-- Step 5, second part: IN-USE. -/
def checkInUse (s : State) (sp : Space) (first count : Nat) : Option WriteRefusal :=
  (inUseFailure s sp first count).map (⟨.inUse, ·⟩)

/-- Step 6: SHORT for the request as a whole, then BAD-VALUE. -/
def checkValues (s : State) (sp : Space) (first count : Nat) (data : List Byte) : Option WriteRefusal :=
  if data.length ≠ count * writeSize sp then some ⟨.short, first⟩
  else (valueFailure s.device.metrologyLock sp first count data).map (⟨.badValue, ·⟩)

/-- A table load is open on the space. -/
def loadOpenOn (s : State) (sp : Space) : Bool := (s.agent.load.map fun l => l.space == sp).getD false

/-- Steps 2 to 6 of R175 for a known space, in order. -/
def checkWrite (s : State) (sp : Space) (first count : Nat) (data : List Byte) : Option WriteRefusal :=
  if count = 0 || spaceEntries sp < first + count then some ⟨.badIndex, first⟩
  else if writeSize sp = 0 then some ⟨.readOnly, first⟩
  else
    match checkLock s sp first count data with
    | some e => some e
    | none =>
      if loadOpenOn s sp then some ⟨.busy, first⟩
      else
        match checkInUse s sp first count with
        | some e => some e
        | none => checkValues s sp first count data

/-- Check 6 of a LOAD-CLOSE: steps 4 and 6 of R175, then the IN-USE test (R192). -/
def checkStaged (s : State) (l : Load) : Option WriteRefusal :=
  match checkLock s l.space l.first l.count l.staged with
  | some e => some e
  | none =>
    match checkValues s l.space l.first l.count l.staged with
    | some e => some e
    | none => checkInUse s l.space l.first l.count

/-! ## Application (R176) -/

/-- Stream window i takes a written entry (R23). -/
def State.storeWindow (i : Nat) (w : StreamWindow) (s : State) : State :=
  { s with classifier := { s.classifier with windows := s.classifier.windows.setIfInBounds i w } }

/-- Harmonic set i takes a written list (R91). -/
def State.storeHset (i : Nat) (l : List Nat) (s : State) : State :=
  { s with finisher := { s.finisher with hsets := s.finisher.hsets.setIfInBounds i l } }

/-- Limit profile i takes a written entry (R92). -/
def State.storeLimit (i : Nat) (l : LimitProfile) (s : State) : State :=
  { s with finisher := { s.finisher with limits := s.finisher.limits.setIfInBounds i l } }

/-- Slot i is written (R40). -/
def State.writeSlot (i : Nat) (c : SlotCfg) (s : State) : State :=
  match toIndex 32 i with
  | none => s
  | some k => s.applySlot k ((s.slot k).write (timebase s) c)

/-- Point k is disabled: its pairing and framing side, its Finish Queue entry and its open interval, in the order of R50.
DESIGN CHOICE (notes/assumptions/42.md): R50, R104 and R123 do not place the updates of the conditions among these steps;
FREQ_UNTRACKED is updated with the framing side, HARMONIC_LIMIT and REACTIVE_EXCESS last, after the interval's close and
all that it brings about. -/
def State.disablePoint (k : Fin 24) (c : PointCfg) (s : State) : State :=
  (((s.onPoint k fun ctx => Point.disable ctx c).dropFinish k).closeInterval k false).updateConditions

/-- Point i is written, by its framer state and the enabled field written (R48). -/
def State.writePoint (i : Nat) (c : PointCfg) (s : State) : State :=
  match toIndex 24 i with
  | none => s
  | some k =>
    match (s.point k).framer.st, c.enabled with
    | .disabled, false => s.onPoint k fun ctx => Point.storeNow ctx c
    | .disabled, true => s.onPoint k fun ctx => Point.enable ctx c
    | .waiting, true => s.onPoint k fun ctx => Point.storeNow ctx c
    | .collecting, true => s.onPoint k fun _ => Point.storePending c
    | .held, true => s.onPoint k fun _ => Point.storePending c
    | .waiting, false => s.disablePoint k c
    | .collecting, false => s.disablePoint k c
    | .held, false => s.disablePoint k c

/-- Alert entry i takes a written configuration; the offers follow once the whole write is applied (R162). -/
def State.storeAlert (i : Nat) (c : AlertCfg) (s : State) : State :=
  match toIndex 20 i with
  | none => s
  | some n => { s with dlv := s.dlv.setAlert n { s.dlv.alert n with cfg := c } }

/-- A push channel after a write of its entry (R138). -/
def Channel.written (c : PushCfg) (ch : Channel) : Channel :=
  { ch with
    cfg := c, st := if c.enabled then .armed else .disabled, remaining := c.count, backlog := 0, seq := 0, fresh := false }

/-- A channel leaves the wait lists. -/
def Delivery.leaveWait (c : Fin 4) (d : Delivery) : Delivery :=
  { d with waitA := d.waitA.filter (· ≠ c), waitB := d.waitB.filter (· ≠ c) }

/-- Push channel i is written (R138). -/
def State.writePush (i : Nat) (c : PushCfg) (s : State) : State :=
  match toIndex 4 i with
  | none => s
  | some k => { s with dlv := (s.dlv.leaveWait k).setChannel k ((s.dlv.channel k).written c) }

/-- The current priority values of both ports take the initial values (R14). -/
def Delivery.setPriorities (v : PerClass Nat) (d : Delivery) : Delivery :=
  { d with portA := { d.portA with current := v }, portB := { d.portB with current := v } }

/-- The DEVICE entry is written (R14, R133, R178). -/
def State.writeDevice (d : Device) (s : State) : State :=
  let old := s.device
  let s1 := { s with device := d }
  let s2 := if old.priority = d.priority then s1 else { s1 with dlv := s1.dlv.setPriorities d.priority }
  if old.watermark = d.watermark then s2 else s2.run [.queueHigh]

/-- One written entry is stored at an index and its owning block acts. -/
def State.writeEntry (i : Nat) (e : Entry) (s : State) : State :=
  match e with
  | .window w => s.storeWindow i w
  | .slot c => s.writeSlot i c
  | .point c => s.writePoint i c
  | .hset l => s.storeHset i l
  | .limit l => s.storeLimit i l
  | .alert c => s.storeAlert i c
  | .push c => s.writePush i c
  | .device d => s.writeDevice d

/-- The entries of a run are written one by one, in ascending index. R40 says only 'slot by slot', and R48 and R138
name no order either: the order, and so that of the entries' reports and alerts, is the model's choice (DESIGN
CHOICE, notes/assumptions/39.md). -/
def State.writeRun : Nat → List Entry → State → State
  | _, [], s => s
  | i, e :: es, s => (s.writeEntry i e).writeRun (i + 1) es

/-- The offers that follow a write to an entry or to the floor (R156, R162). -/
def State.offersAfter (sp : Space) (s : State) : State :=
  if sp = .alert || sp = .device then s.run [.offers .a, .offers .b] else s

/-- A checked write is applied whole (R176). -/
def State.applyWrite (sp : Space) (first count : Nat) (data : List Byte) (s : State) : State :=
  match decodeRun s.device.metrologyLock sp count data with
  | none => s
  | some es => (s.writeRun first es).offersAfter sp

end Sys2Proof.Machine
end

