-- ==== Sys2Proof/Machine/Requests.lean ====
section
/-! DEFINITION. The Management Agent: its request queue, the checks of a request, what each kind does, and the
reply (chapters 9 and 10). -/

namespace Sys2Proof.Machine

/-! ## Kinds and answers -/

/-- The request kinds (11.2). -/
inductive ReqKind where
  | read | write | writePosted | fetchRecords | alertAck | alertClear | pushStart | resetPoint
  | restartAccounting | lockMetrology | loadOpen | loadData | loadClose | loadAbort | snapshot
deriving DecidableEq, Repr

/-- The code of a request kind (11.2). -/
def kindCode : ReqKind → Nat
  | .read => 0x01
  | .write => 0x02
  | .writePosted => 0x03
  | .fetchRecords => 0x04
  | .alertAck => 0x05
  | .alertClear => 0x06
  | .pushStart => 0x07
  | .resetPoint => 0x08
  | .restartAccounting => 0x09
  | .lockMetrology => 0x0A
  | .loadOpen => 0x10
  | .loadData => 0x11
  | .loadClose => 0x12
  | .loadAbort => 0x13
  | .snapshot => 0x18

/-- The request kinds in the order of their codes. -/
def allKinds : List ReqKind :=
  [.read, .write, .writePosted, .fetchRecords, .alertAck, .alertClear, .pushStart, .resetPoint, .restartAccounting,
   .lockMetrology, .loadOpen, .loadData, .loadClose, .loadAbort, .snapshot]

/-- The kind a code names. -/
def kindOf (n : Nat) : Option ReqKind := allKinds.find? fun k => kindCode k == n

/-- What a service leaves and answers: the state, and the reply's status, count and data (R171). -/
structure Served where
  state : State
  status : Status
  count : Nat
  data : List Byte
deriving DecidableEq, Repr

/-- A refusal: count 0, no data (R171). -/
def refuse (st : Status) (s : State) : Served := { state := s, status := st, count := 0, data := [] }

/-- A refusal that names an entry: its index in 2 bytes (11.2, R175). -/
def refuseAt (st : Status) (i : Nat) (s : State) : Served := { state := s, status := st, count := 0, data := beNat 2 i }

/-- An OK reply with a count and no data. -/
def answerOk (n : Nat) (s : State) : Served := { state := s, status := .ok, count := n, data := [] }

/-! ## READ (R174) -/

/-- The most entries of a space, or words of COUNTERS, in one reply. -/
def readRoom (sp : Space) : Nat := if sp = .counters then Config.replyWords else Config.replyData / readSize sp

/-- The number of entries a READ returns: the count, the last entry and the room of the reply limit it. -/
def readCount (sp : Space) (first count : Nat) : Nat := min (min count (readPlaces sp - first)) (readRoom sp)

/-- READ. -/
def serveRead (code first count : Nat) (s : State) : Served :=
  match spaceOf code with
  | none => refuse .badSpace s
  | some sp =>
    if readPlaces sp ≤ first then refuse .badIndex s
    else
      let n := readCount sp first count
      { state := s, status := .ok, count := n, data := (List.range n).flatMap fun j => readEntry s sp (first + j) }

/-! ## WRITE and WRITE-POSTED (R175, R176) -/

/-- WRITE and WRITE-POSTED. -/
def serveWrite (code first count : Nat) (data : List Byte) (s : State) : Served :=
  match spaceOf code with
  | none => refuseAt .badSpace first s
  | some sp =>
    match checkWrite s sp first count data with
    | some e => refuseAt e.status e.index s
    | none => answerOk count (s.applyWrite sp first count data)

/-! ## Commands (R182 to R184) -/

/-- The records a removal takes from the Record Queue (R132, R136). -/
def State.removeFetched (limit : Nat) (s : State) : List IntervalRecord × State :=
  let t := takeRecords limit Config.removalWords s.dlv.recq.records
  let q := { s.dlv.recq with records := t.2, fetched := s.dlv.recq.fetched + BitVec.ofNat 32 t.1.length }
  (t.1, { s with dlv := { s.dlv with recq := q } }.run [.queueHigh])

/-- FETCH-RECORDS from a port (R136, R137). -/
def serveFetch (p : Port) (count : Nat) (s : State) : Served :=
  if !(s.dlv.port p).up || count = 0 || s.dlv.recq.records.isEmpty then answerOk 0 s
  else
    let x := s.removeFetched count
    { state := x.2, status := .ok, count := x.1.length, data := x.1.flatMap encodeRecord }

/-- A vector an ALERT-ACK or ALERT-CLEAR may name (R182). -/
def validVector (v : Nat) : Bool := 0x10 ≤ v && v ≤ 0xFE

/-- The entry is of a nature and has the vector. -/
def selected (level : Bool) (v : Nat) (n : Fin 20) (e : AlertEntry) : Bool := isLevel n == level && e.cfg.vector.toNat == v

/-- An ALERT-ACK clears this entry's awaiting acknowledgement (R160). -/
def acked (v : Nat) (n : Fin 20) (e : AlertEntry) : Bool := selected true v n e && e.awaiting

/-- The number of entries that satisfy f. -/
def Delivery.countAlerts (f : Fin 20 → AlertEntry → Bool) (d : Delivery) : Nat :=
  ((List.finRange 20).filter fun n => f n (d.alert n)).length

/-- Changes every alert entry. -/
def Delivery.mapAlerts (f : Fin 20 → AlertEntry → AlertEntry) (d : Delivery) : Delivery :=
  { d with alerts := Vector.ofFn fun n => f n (d.alert n) }

/-- The awaiting acknowledgements an ALERT-ACK clears (R160). -/
def Delivery.acknowledge (v : Nat) (d : Delivery) : Delivery :=
  d.mapAlerts fun n e => if acked v n e then { e with awaiting := false } else e

/-- ALERT-ACK (R160). -/
def serveAck (v : Nat) (s : State) : Served :=
  if !validVector v then refuse .badValue s
  else
    answerOk (s.dlv.countAlerts (acked v)) ({ s with dlv := s.dlv.acknowledge v }.run [.offers .a, .offers .b])

/-- The entries an ALERT-CLEAR clears, and the removal of their frames from both ALERT queues (R10, R161). -/
def Delivery.clearAlerts (v : Nat) (d : Delivery) : Delivery :=
  let keep : AlertFrame → Bool := fun f => !selected false v f.number (d.alert f.number)
  (((d.modPort .a (PortState.removeAlerts keep)).modPort .b (PortState.removeAlerts keep))).mapAlerts fun n e =>
    if selected false v n e then { e with queuedOn := none, pending := none, count := 0 } else e

/-- ALERT-CLEAR (R161). -/
def serveClear (v : Nat) (s : State) : Served :=
  if !validVector v then refuse .badValue s
  else
    answerOk (s.dlv.countAlerts fun n e => selected false v n e && e.pending.isSome)
      ({ s with dlv := s.dlv.clearAlerts v }.run [.offers .a, .offers .b])

/-- PUSH-START (R141, R182). -/
def servePushStart (i : Nat) (s : State) : Served :=
  match toIndex 4 i with
  | none => refuse .badIndex s
  | some c =>
    if (s.dlv.channel c).st = .armed || (s.dlv.channel c).st = .sending then answerOk 0 (s.run [.trigger c])
    else refuse .badState s

/-- The point reset (R183, 1 to 6). Within step 5, FREQ_UNTRACKED is updated before HARMONIC_LIMIT and REACTIVE_EXCESS:
DESIGN CHOICE (notes/assumptions/42.md). -/
def State.resetPoint (k : Fin 24) (s : State) : State :=
  let s1 := s.closeInterval k true
  let s2 := (s1.setPoint k (s1.point k).zeroAccounts).dropFinish k
  ((s2.onPoint k Point.reset).updateConditions).onTickets (Ticket.resetFor k)

/-- RESET-POINT (R183). -/
def serveResetPoint (i : Nat) (s : State) : Served :=
  match toIndex 24 i with
  | none => refuse .badIndex s
  | some k => answerOk 0 (s.resetPoint k)

/-! ### Accounting restart (R184) -/

/-- The bank of point i under the finish a restart abandons. -/
def Finisher.keptBank (i : Fin 24) (f : Finisher) : Option BankIx :=
  match f.active, f.queue with
  | some _, e :: _ => if e.point = i then some e.bank else none
  | _, _ => none

/-- The Finisher after a restart: the finish under way is abandoned, waiting entries are gone (R95, R106). -/
def Finisher.restarted (f : Finisher) : Finisher :=
  { f with
    queue := if f.active.isSome then f.queue.take 1 else []
    active := f.active.map fun a => { a with abandoned := true }
    abandonedCount := 0, peak := 0 }

/-- A push channel after a restart (R147). -/
def Channel.restarted (ch : Channel) : Channel :=
  { ch with
    st := if ch.cfg.enabled then .armed else .disabled, remaining := ch.cfg.count, backlog := 0, fresh := false
    framesPushed := 0, recordsSent := 0, emptyTrigger := 0, backlogSat := 0 }

/-- A LEVEL condition an accounting restart clears: every one but LINK_DOWN (R184). -/
def clearedByRestart (n : Fin 20) : Bool := isLevel n && n.val != 19

/-- An alert entry after a restart (R166). -/
def AlertEntry.restarted (n : Fin 20) (e : AlertEntry) : AlertEntry :=
  { e with
    pending := none, count := 0, awaiting := false, queuedOn := none
    active := if clearedByRestart n then false else e.active
    detail := if clearedByRestart n then 0 else e.detail }

/-- The delivery side after a restart, before the offers (R10, R135, R147, R166). -/
def Delivery.restarted (d : Delivery) : Delivery :=
  { portA := d.portA.removeAlerts fun _ => false
    portB := d.portB.removeAlerts fun _ => false
    alerts := Vector.ofFn fun n => (d.alert n).restarted n
    channels := d.channels.map Channel.restarted
    waitA := [], waitB := [], recq := .init }

/-- The accounting restart (R184). -/
def State.restartAccounting (s : State) : State :=
  { s with
    slots := s.slots.map Slot.restarted
    points := Vector.ofFn fun i => (s.point i).restarted (s.finisher.keptBank i)
    finisher := s.finisher.restarted
    dlv := s.dlv.restarted
    agent := { s.agent with tickets := Vector.replicate 4 .free } }.run [.offers .a, .offers .b]

/-- RESTART-ACCOUNTING (R184). -/
def serveRestart (s : State) : Served := answerOk 0 s.restartAccounting

/-- LOCK-METROLOGY (R180). -/
def serveLock (s : State) : Served :=
  if s.device.managers.isEmpty then refuse .badState s
  else answerOk 0 { s with device := { s.device with metrologyLock := true } }

/-! ## Table loads (R189 to R193) -/

/-- The expected total of a load (R189). -/
def Load.total (l : Load) : Nat := l.count * writeSize l.space

/-- The agent with another load. -/
def State.setLoad (l : Option Load) (s : State) : State := { s with agent := { s.agent with load := l } }

/-- The load opened by a LOAD-OPEN (R190). -/
def openedLoad (source : Node) (sp : Space) (first count : Nat) (s : State) : Load :=
  { opener := source, space := sp, first := first, count := count, staged := [], lastActivity := timebase s }

/-- LOAD-OPEN (R190). -/
def serveLoadOpen (source : Node) (code first count : Nat) (s : State) : Served :=
  match spaceOf code with
  | none => refuse .badSpace s
  | some sp =>
    if writeSize sp = 0 then refuse .readOnly s
    else if count = 0 || spaceEntries sp < first + count then refuse .badIndex s
    else if s.agent.load.isSome then refuse .busy s
    else if sp = .hset && s.device.metrologyLock then refuse .locked s
    else
      answerOk (count * writeSize sp)
        { s with agent := { s.agent with
            load := some (openedLoad source sp first count s), loadsOpened := s.agent.loadsOpened + 1 } }

/-- A refusal of a LOAD-DATA that carries the staged count, with the load refreshed (R191, R194). -/
def refuseStaged (st : Status) (l : Load) (s : State) : Served :=
  { state := s.setLoad (some { l with lastActivity := timebase s }), status := st, count := l.staged.length, data := [] }

/-- LOAD-DATA (R191). -/
def serveLoadData (source : Node) (offset count : Nat) (data : List Byte) (s : State) : Served :=
  match s.agent.load with
  | none => refuse .noLoad s
  | some l =>
    if source ≠ l.opener then refuse .busy s
    else if data.length ≠ count then refuseStaged .short l s
    else if offset ≠ l.staged.length then refuseStaged .badOffset l s
    else if l.total < l.staged.length + count then refuseStaged .loadSize l s
    else
      answerOk (l.staged.length + count)
        (s.setLoad (some { l with staged := l.staged ++ data, lastActivity := timebase s }))

/-- LOAD-CLOSE (R192). -/
def serveLoadClose (source : Node) (data : List Byte) (s : State) : Served :=
  match s.agent.load with
  | none => refuse .noLoad s
  | some l =>
    if source ≠ l.opener then refuse .busy s
    else if data.length < 4 then refuse .short (s.setLoad (some { l with lastActivity := timebase s }))
    else
      let closed := s.setLoad none
      if l.staged.length ≠ l.total then
        { state := closed, status := .loadSize, count := l.staged.length, data := [] }
      else if crc32 l.staged ≠ BitVec.ofNat 32 (field 0 4 data) then refuse .loadCrc closed
      else
        match checkStaged s l with
        | some e => refuseAt e.status e.index closed
        | none =>
          answerOk l.count
            ({ closed with agent := { closed.agent with loadsApplied := s.agent.loadsApplied + 1 } }.applyWrite
              l.space l.first l.count l.staged)

/-- LOAD-ABORT (R193). -/
def serveLoadAbort (source : Node) (s : State) : Served :=
  match s.agent.load with
  | none => refuse .noLoad s
  | some l => if source ≠ l.opener then refuse .busy s else answerOk l.staged.length (s.setLoad none)

/-! ## Snapshots (R198, R200) -/

/-- The point has a finish outstanding (R198, 1). -/
def Finisher.outstanding (i : Fin 24) (f : Finisher) : Bool :=
  match f.active, f.queue with
  | some a, e :: rest => (e.point = i && !a.abandoned) || rest.any fun x => x.point = i
  | _, q => q.any fun x => x.point = i

/-- The state a ticket issued for a point takes (R198). -/
def issuedTicket (i : Fin 24) (s : State) : Ticket :=
  if s.finisher.outstanding i || (s.point i).framer.st = .collecting then .waiting i (timebase s)
  else .ready i (timebase s) (snapshotCopy i (timebase s) (s.point i))

/-- The lowest-numbered FREE ticket. -/
def Agent.freeTicket (a : Agent) : Option (Fin 4) := (List.finRange 4).find? fun t => a.tickets[t] = .free

/-- The agent with ticket t changed. -/
def State.setTicket (t : Fin 4) (k : Ticket) (s : State) : State :=
  { s with agent := { s.agent with tickets := s.agent.tickets.set t k } }

/-- The RETRY reply that names a ticket (R198, R200). -/
def retryTicket (t : Fin 4) (s : State) : Served := { state := s, status := .retry, count := t.val + 1, data := [] }

/-- A SNAPSHOT that asks for a new ticket (R198). -/
def serveIssue (i : Nat) (s : State) : Served :=
  match toIndex 24 i with
  | none => refuse .badIndex s
  | some k =>
    match s.agent.freeTicket with
    | none => refuse .busy s
    | some t =>
      if !(s.point k).cfg.enabled then refuse .badState s
      else
        let s1 := s.setTicket t (issuedTicket k s)
        retryTicket t { s1 with agent := { s1.agent with issued := s1.agent.issued + 1 } }

/-- A SNAPSHOT that names a ticket (R200). -/
def serveRetrieve (i ticket : Nat) (s : State) : Served :=
  match toIndex 24 i, toIndex 4 (ticket - 1) with
  | some k, some t =>
    match s.agent.tickets[t] with
    | .free => refuse .noTicket s
    | .waiting j _ => if j = k then retryTicket t s else refuse .noTicket s
    | .ready j _ c =>
      if j = k then
        let s1 := s.setTicket t .free
        { state := { s1 with agent := { s1.agent with delivered := s1.agent.delivered + 1 } }
          status := .ok, count := t.val + 1, data := encodeSnapshot c }
      else refuse .noTicket s
  | _, _ => refuse .badIndex s

/-- SNAPSHOT (R198, R200). -/
def serveSnapshot (i ticket : Nat) (s : State) : Served :=
  if ticket = 0 then serveIssue i s else serveRetrieve i ticket s

/-! ## A request served (R170, R171) -/

/-- The source node is permitted (R172). -/
def permitted (d : Device) (source : Node) (k : ReqKind) (code : Nat) : Bool :=
  d.managers.isEmpty || d.managers.contains source || (k = .read && spaceOf code = some .device)

/-- The kind's own checks and effect. -/
def serveKind (k : ReqKind) (p : Port) (source : Node) (code index count : Nat) (data : List Byte) (s : State) : Served :=
  match k with
  | .read => serveRead code index count s
  | .write => serveWrite code index count data s
  | .writePosted => serveWrite code index count data s
  | .fetchRecords => serveFetch p count s
  | .alertAck => serveAck index s
  | .alertClear => serveClear index s
  | .pushStart => servePushStart index s
  | .resetPoint => serveResetPoint index s
  | .restartAccounting => serveRestart s
  | .lockMetrology => serveLock s
  | .loadOpen => serveLoadOpen source code index count s
  | .loadData => serveLoadData source index count data s
  | .loadClose => serveLoadClose source data s
  | .loadAbort => serveLoadAbort source s
  | .snapshot => serveSnapshot index count s

/-- The checks of R171, and then the kind's. -/
def serve (r : Request) (s : State) : Served :=
  let q := r.payload
  if q.length < 8 then refuse .short s
  else
    match kindOf (reqKind q) with
    | none => refuse .badKind s
    | some k =>
      if permitted s.device r.source k (reqSpace q) then
        serveKind k r.port r.source (reqSpace q) (reqIndex q) (reqCount q) (reqData q) s
      else refuse .denied s

/-- The request is a WRITE-POSTED, which is never answered (R177). -/
def Request.posted (r : Request) : Bool := reqKind r.payload == kindCode .writePosted

/-- The reply frame of a service (R171). -/
def replyOf (r : Request) (x : Served) : ReplyFrame :=
  { dest := r.source, source := x.state.device.node, tag := reqTag r.payload, status := x.status
    kind := BitVec.ofNat 8 (reqKind r.payload), count := BitVec.ofNat 16 x.count, data := x.data }

/-- A reply placed in the REPLY queue of a port: discarded and counted on a DOWN port (R9, R16). -/
def State.placeReply (p : Port) (f : ReplyFrame) (s : State) : State :=
  let q := s.dlv.port p
  if q.up then
    { s with dlv := s.dlv.setPort p { q with replyQ := q.replyQ ++ [f] } }.run [.grant p]
  else { s with dlv := s.dlv.count p fun c => { c with linkdownDrop := c.linkdownDrop + 1 } }

/-- What a posted write leaves: a refusal is counted and raises MGMT_ERROR (R177). -/
def State.endPosted (r : Request) (x : Served) : State :=
  if x.status = .ok then x.state
  else
    { x.state with agent := { x.state.agent with postedRefused := x.state.agent.postedRefused + 1 } }.raise 16
      ((reqTag r.payload).toNat * 65536 + statusCode x.status)

/-- A request is served, in one event (R170). -/
def State.serveRequest (r : Request) (s : State) : State :=
  let x := serve r s
  if r.posted then State.endPosted r x else x.state.placeReply r.port (replyOf r x)

/-! ## The request queue (R169, R170) -/

/-- The agent may take this request: it is posted, or its reply has a place (R170, R16). -/
def canTake (s : State) (r : Request) : Bool :=
  r.posted || !(s.dlv.port r.port).up || (s.dlv.port r.port).replyQ.length < Config.replyRoom

/-- The agent without the requests before `rest`. -/
def State.setRequests (rest : List Request) (s : State) : State := { s with agent := { s.agent with queue := rest } }

/-- The agent takes the head while it may, at most n times. -/
def State.agentLoop : Nat → State → State
  | 0, s => s
  | n + 1, s =>
    match s.agent.queue with
    | [] => s
    | r :: rest => if canTake s r then ((s.setRequests rest).serveRequest r).agentLoop n else s

/-- An attempt of the agent to take the head, and after each service the next (R170). -/
def State.agentRun (s : State) : State := s.agentLoop s.agent.queue.length

/-- A request handed to the agent joins its queue, or is dropped when the queue holds 8 (R169). -/
def State.requestArrives (r : Request) (s : State) : State :=
  let a := s.agent
  if a.queue.length < Config.requestRoom then
    let s1 := { s with agent := { a with queue := a.queue ++ [r], received := a.received + 1 } }
    if a.queue.isEmpty then s1.agentRun else s1
  else { s with agent := { a with dropped := a.dropped + 1 } }

end Sys2Proof.Machine
end

