-- ==== Sys2Proof/Machine/Receive.lean ====
section
/-! DEFINITION. The receive side: the Frame Checker (R2 to R6), the Frame Classifier with its stream window table
(R22 to R26), and the offer to a pass-through buffer (R7). -/

namespace Sys2Proof.Machine

/-! ## The Frame Checker -/

/-- The length check (R3). -/
def lengthOk (f : List Byte) : Bool :=
  Config.minFrame ≤ f.length && f.length ≤ Config.maxFrame && frameLength f == f.length - 12

/-- The CRC check (R4, R206). -/
def crcOk (f : List Byte) : Bool := crc32 (frameBody f) == frameTrailer f

/-- The verdicts of the Frame Checker. -/
inductive Verdict where
  | lengthErr | crcErr | looped | accepted
deriving DecidableEq, Repr

/-- The checks in their order: the first that fails decides (R2). -/
def verdict (node : Node) (f : List Byte) : Verdict :=
  if !lengthOk f then .lengthErr
  else if !crcOk f then .crcErr
  else if frameSource f = node then .looped
  else .accepted

/-! ## The pass-through buffer (R7) -/

/-- The bytes a pass-through buffer holds. -/
def passBytes (l : List (List Byte)) : Nat := (l.map List.length).sum

/-- The buffer has room for the frame (R7, 2). -/
def passRoom (f : List Byte) (l : List (List Byte)) : Bool :=
  l.length < Config.passFrames && passBytes l + f.length ≤ Config.passBytes

/-- A frame is offered to the buffer that leads toward port o (R7). -/
def State.offerPass (o : Port) (f : List Byte) (s : State) : State :=
  let q := s.dlv.port o
  if !q.up then { s with dlv := s.dlv.count o fun c => { c with linkdownDrop := c.linkdownDrop + 1 } }
  else if passRoom f q.pass then
    { s with dlv := s.dlv.setPort o { q with pass := q.pass ++ [f] } }.run [.grant o]
  else
    { s with dlv := s.dlv.count o fun c => { c with passOverflow := c.passOverflow + 1 } }.raise 15 (portCode o)

/-! ## The stream window table (R24, R25) -/

/-- The tag hits the window (R24). -/
def StreamWindow.hit (w : StreamWindow) (tag : BitVec 32) : Bool := w.enabled && tag &&& w.mask == w.base &&& w.mask

/-- The first window of a pass that the tag hits. -/
def firstHit (c : Classifier) (tag : BitVec 32) (sink : Bool) : Option (Fin 16) :=
  (List.finRange 16).find? fun i => (c.windows[i].kind == .sink) == sink && c.windows[i].hit tag

/-- The window the search ends at: SINK windows first, then TAP and PASS together (R24). -/
def searchWindows (c : Classifier) (tag : BitVec 32) : Option (Fin 16) :=
  match firstHit c tag true with
  | some i => some i
  | none => firstHit c tag false

/-- The target slot number of a hit, as an unbounded integer (R25). -/
def targetSlot (w : StreamWindow) (tag : BitVec 32) : Nat := w.slotBase.val + (tag &&& ~~~w.mask).toNat

/-- The enabled slot a hit translates to, if any (R25). -/
def enabledTarget (s : State) (w : StreamWindow) (tag : BitVec 32) : Option (Fin 32) :=
  match toIndex 32 (targetSlot w tag) with
  | none => none
  | some k => if (s.slot k).st = .disabled then none else some k

/-- Changes the classifier. -/
def State.modClassifier (f : Classifier → Classifier) (s : State) : State := { s with classifier := f s.classifier }

/-- HITS of a window (R26). -/
def Classifier.countHit (i : Fin 16) (c : Classifier) : Classifier := { c with hits := c.hits.set i (c.hits[i] + 1) }

/-- A frame goes to the stream tracker, or is counted NO_SLOT (R25). -/
def State.toTracker (w : StreamWindow) (tag : BitVec 32) (payload : List Byte) (s : State) : State :=
  match enabledTarget s w tag with
  | none => s.modClassifier fun c => { c with noSlot := c.noSlot + 1 }
  | some k => s.applySlot k ((s.slot k).take (timebase s) payload)

/-- The tag of a sample payload of at least four bytes (R24). -/
def sampleTag (payload : List Byte) : BitVec 32 := BitVec.ofNat 32 (field 0 4 payload)

/-- The outcome of a window hit (R24). -/
def State.windowHit (o : Port) (f : List Byte) (i : Fin 16) (s : State) : State :=
  let w := s.classifier.windows[i]
  let tag := sampleTag (framePayload f)
  let s1 := s.modClassifier (Classifier.countHit i)
  match w.kind with
  | .sink => s1.toTracker w tag (framePayload f)
  | .tap => (s1.offerPass o f).toTracker w tag (framePayload f)
  | .pass => s1.offerPass o f

/-- A SAMPLE frame (R24). -/
def State.classifySample (o : Port) (f : List Byte) (s : State) : State :=
  if (framePayload f).length < 4 then (s.modClassifier fun c => { c with noTag := c.noTag + 1 }).offerPass o f
  else
    match searchWindows s.classifier (sampleTag (framePayload f)) with
    | none => s.offerPass o f
    | some i => s.windowHit o f i

/-! ## The Frame Classifier (R22) -/

/-- A REQUEST frame as it joins the request queue (R169). -/
def requestOf (p : Port) (f : List Byte) : Request :=
  { port := p, dest := frameDest f, source := frameSource f, flags := frameFlags f, payload := framePayload f }

/-- A REQUEST frame: to the agent, onward, or both (R22). -/
def State.classifyRequest (p : Port) (f : List Byte) (s : State) : State :=
  if frameDest f = s.device.node then s.requestArrives (requestOf p f)
  else if frameDest f = Config.broadcast then (s.offerPass (otherPort p) f).requestArrives (requestOf p f)
  else s.offerPass (otherPort p) f

/-- An accepted frame is treated by its kind (R22). -/
def State.classify (p : Port) (f : List Byte) (s : State) : State :=
  if frameKind f = 0x01 then s.classifySample (otherPort p) f
  else if frameKind f = 0x02 then s.classifyRequest p f
  else s.offerPass (otherPort p) f

/-- The counter of a port that a verdict raises (R3 to R6). -/
def PortCounters.verdict (v : Verdict) (c : PortCounters) : PortCounters :=
  match v with
  | .lengthErr => { c with lengthErr := c.lengthErr + 1 }
  | .crcErr => { c with crcErr := c.crcErr + 1 }
  | .looped => { c with looped := c.looped + 1 }
  | .accepted => { c with rxFrames := c.rxFrames + 1 }

/-- The last byte of a frame arrives on an UP port, whose receive buffer then holds the whole frame; the frame leaves
the buffer with its verdict (R2). -/
def State.receive (p : Port) (f : List Byte) (s : State) : State :=
  let v := verdict s.device.node f
  let s1 := { s with dlv := s.dlv.received p (PortCounters.verdict v) }
  match v with
  | .lengthErr => s1
  | .crcErr => s1.raise 14 (portCode p)
  | .looped => s1
  | .accepted => s1.classify p f

end Sys2Proof.Machine
end

