-- ==== Sys2Proof/Machine/Links.lean ====
section
/-! DEFINITION. The rows of the ports and of the reset input: POWER_ON_RESET, RESET_ASSERTED, LINK_UP, LINK_DOWN,
FRAME_RECEIVED and TRANSMISSION_END (chapters 1, 2 and 12). -/

namespace Sys2Proof.Machine

/-- The outcome of a row that acts only while the reset input is not asserted: under reset every activity of
the part has ended (R210), and the state stays as it is. -/
def State.event (s : State) (f : State → State) : Host.Outcome State Fault Refusal := .next (if s.inReset then s else f s)

/-! ## The reset input (R209, R210) -/

/-- POWER_ON_RESET (R209): the reset input is released with the straps at this level. -/
def execPowerOnReset (straps : BitVec 12) (s : State) : Host.Outcome State Fault Refusal :=
  .next (State.powerOn straps s.pending)

/-- RESET_ASSERTED (R210): everything is lost and both links are held DOWN until the release. -/
def execResetAsserted (s : State) : Host.Outcome State Fault Refusal :=
  .next { State.powerOn s.straps s.pending with inReset := true }

/-! ## The links (R15, R17) -/

/-- The port's link becomes UP (R17, R18). -/
def State.linkUp (p : Port) (s : State) : State :=
  let d := s.dlv.modPort p fun q => { q with up := true }
  { s with dlv := d }.run [.levels [linkDownReport d], .grant p, .offers p, .waitList p]

/-- LINK_UP: a port that is UP already has no training to succeed. -/
def execLinkUp (p : Port) (s : State) : Host.Outcome State Fault Refusal :=
  s.event fun s => if (s.dlv.port p).up then s else s.linkUp p

/-- The records a frame under transmission carries, if it is a RECORD frame (R15, 1). -/
def TxFrame.recordCount : TxFrame → Nat
  | .pass _ => 0
  | .alert _ => 0
  | .reply _ => 0
  | .report f => f.records.length

/-- The frames a port loses when its link becomes DOWN (R15, 1 to 3). -/
def PortState.lostFrames (q : PortState) : Nat :=
  (if q.tx.isSome then 1 else 0) + q.pass.length + q.alertQ.length + q.replyQ.length + q.reportQ.length

/-- The records it loses with them (R15, 1 and 5). -/
def PortState.lostRecords (q : PortState) : Nat :=
  ((q.tx.map TxFrame.recordCount).getD 0) + (q.reportQ.map fun f => f.records.length).sum

/-- The port's counters at a link down; a frame being received is discarded and counted LENGTH_ERR (R2, R15). -/
def PortCounters.linkDown (receiving : Bool) (frames records : Nat) (c : PortCounters) : PortCounters :=
  { c with
    lengthErr := if receiving then c.lengthErr + 1 else c.lengthErr
    linkdownDrop := c.linkdownDrop + BitVec.ofNat 32 frames
    recordsLost := c.recordsLost + BitVec.ofNat 32 records }

/-- A port whose link has become DOWN (R15, 1 to 7); its current priority values are the initial ones. -/
def PortState.down (initial : PerClass Nat) (receiving : Bool) (q : PortState) : PortState :=
  { up := false, rx := [], tx := none, pass := [], alertQ := [], replyQ := [], reportQ := [], passCount := 0
    current := initial, lastWinner := none
    ctr := q.ctr.linkDown (receiving || !q.rx.isEmpty) q.lostFrames q.lostRecords }

/-- An entry whose queued frame is returned at link down (R163). -/
def AlertEntry.restore (f : AlertFrame) (e : AlertEntry) : AlertEntry :=
  if isLevel f.number then
    { e with queuedOn := none, awaiting := false, count := sat255 (f.count + e.count), restored := e.restored + 1 }
  else { e with queuedOn := none, pending := some f.detail, count := f.count, restored := e.restored + 1 }

/-- The emptied ALERT frames are returned to their entries (R15, 4; R163). -/
def Delivery.restoreAlerts (l : List AlertFrame) (d : Delivery) : Delivery :=
  l.foldl (fun d f => d.setAlert f.number ((d.alert f.number).restore f)) d

/-- The delivery side once a port's link has become DOWN, before the offers (R15, 1 to 7). -/
def Delivery.linkDown (initial : PerClass Nat) (p : Port) (receiving : Bool) (d : Delivery) : Delivery :=
  (d.modPort p (PortState.down initial receiving)).restoreAlerts (d.port p).alertQ

/-- The port's link becomes DOWN: R15, the offers of the restored entries, the LINK_DOWN condition, and the agent's
attempt (R170, 4). -/
def State.linkDown (p : Port) (receiving : Bool) (s : State) : State :=
  let d := s.dlv.linkDown s.device.priority p receiving
  ({ s with dlv := d }.run [.offers .a, .offers .b, .levels [linkDownReport d]]).agentRun

/-- LINK_DOWN: a port that is DOWN already has nothing to lose. -/
def execLinkDown (p : Port) (receiving : Bool) (s : State) : Host.Outcome State Fault Refusal :=
  s.event fun s => if (s.dlv.port p).up then s.linkDown p receiving else s

/-! ## Frames (R2, R11) -/

/-- FRAME_RECEIVED: frames are received while the link is UP (R1). -/
def execFrameReceived (p : Port) (bytes : List Byte) (s : State) : Host.Outcome State Fault Refusal :=
  s.event fun s => if (s.dlv.port p).up then (s.receive p bytes).agentRun else s

/-- The transmission on a port ends: TX_FRAMES, the transmitter free, the next grant and what it frees (R11,
R170). -/
def State.transmissionEnd (p : Port) (s : State) : State :=
  let d := s.dlv.modPort p fun q => { q with tx := none, ctr := { q.ctr with txFrames := q.ctr.txFrames + 1 } }
  ({ s with dlv := d }.run [.grant p]).agentRun

/-- TRANSMISSION_END: without a frame under transmission there is no end. -/
def execTransmissionEnd (p : Port) (s : State) : Host.Outcome State Fault Refusal :=
  s.event fun s => if (s.dlv.port p).tx.isSome then s.transmissionEnd p else s

end Sys2Proof.Machine
end

