-- ==== Sys2Proof/Machine/Management.lean ====
section
/-! DEFINITION. The rows that are management requests (chapters 9 and 10): each is the arrival at the Management
Agent of the request its operands spell (notes/assumptions/4.md), which the agent takes in its turn (R169,
R170) and serves by the rule of its kind (Machine/Requests.lean). -/

namespace Sys2Proof.Machine

/-- The request a sender's fields spell (11.2), handed to the agent by the classifier. The destination node and
the flags of its frame act on nothing any more: the part's own node number and 0. -/
def madeRequest (s : State) (h : ReqHeader) (k : ReqKind) (space : Byte) (index count : BitVec 16) (data : List Byte) :
    Request :=
  { port := h.port, dest := s.device.node, source := h.source, flags := 0
    payload := requestPayload h.tag (kindCode k) space index count data }

/-- A management request reaches the agent. -/
def State.request (s : State) (h : ReqHeader) (k : ReqKind) (space : Byte) (index count : BitVec 16) (data : List Byte) :
    Host.Outcome State Fault Refusal :=
  s.event fun s => s.requestArrives (madeRequest s h k space index count data)

/-- READ (R174). -/
def execRead (h : ReqHeader) (space : Byte) (index count : BitVec 16) (s : State) :
    Host.Outcome State Fault Refusal :=
  s.request h .read space index count []

/-- WRITE of a space without a write row of its own (R176). -/
def execWrite (h : ReqHeader) (space : Byte) (index count : BitVec 16) (data : List Byte) (s : State) :
    Host.Outcome State Fault Refusal :=
  s.request h .write space index count data

/-- WRITE_POSTED (R177). -/
def execWritePosted (h : ReqHeader) (space : Byte) (index count : BitVec 16) (data : List Byte) (s : State) :
    Host.Outcome State Fault Refusal :=
  s.request h .writePosted space index count data

/-- SLOT_WRITE (R40). -/
def execSlotWrite (h : ReqHeader) (index count : BitVec 16) (data : List Byte) (s : State) :
    Host.Outcome State Fault Refusal :=
  s.request h .write 0x03#8 index count data

/-- POINT_WRITE (R48). -/
def execPointWrite (h : ReqHeader) (index count : BitVec 16) (data : List Byte) (s : State) :
    Host.Outcome State Fault Refusal :=
  s.request h .write 0x04#8 index count data

/-- PUSH_WRITE (R138). -/
def execPushWrite (h : ReqHeader) (index count : BitVec 16) (data : List Byte) (s : State) :
    Host.Outcome State Fault Refusal :=
  s.request h .write 0x08#8 index count data

/-- ALERT_WRITE (R162). -/
def execAlertWrite (h : ReqHeader) (index count : BitVec 16) (data : List Byte) (s : State) :
    Host.Outcome State Fault Refusal :=
  s.request h .write 0x07#8 index count data

/-- DEVICE_WRITE (R178). -/
def execDeviceWrite (h : ReqHeader) (index count : BitVec 16) (data : List Byte) (s : State) :
    Host.Outcome State Fault Refusal :=
  s.request h .write 0x01#8 index count data

/-- FETCH_RECORDS (R136). -/
def execFetchRecords (h : ReqHeader) (count : BitVec 16) (s : State) :
    Host.Outcome State Fault Refusal :=
  s.request h .fetchRecords 0 0 count []

/-- ALERT_ACK (R160). -/
def execAlertAck (h : ReqHeader) (vector : BitVec 16) (s : State) :
    Host.Outcome State Fault Refusal :=
  s.request h .alertAck 0 vector 0 []

/-- ALERT_CLEAR (R161). -/
def execAlertClear (h : ReqHeader) (vector : BitVec 16) (s : State) :
    Host.Outcome State Fault Refusal :=
  s.request h .alertClear 0 vector 0 []

/-- PUSH_START (R182). -/
def execPushStart (h : ReqHeader) (channel : BitVec 16) (s : State) :
    Host.Outcome State Fault Refusal :=
  s.request h .pushStart 0 channel 0 []

/-- RESET_POINT (R183). -/
def execResetPoint (h : ReqHeader) (point : BitVec 16) (s : State) :
    Host.Outcome State Fault Refusal :=
  s.request h .resetPoint 0 point 0 []

/-- RESTART_ACCOUNTING (R184). -/
def execRestartAccounting (h : ReqHeader) (s : State) :
    Host.Outcome State Fault Refusal :=
  s.request h .restartAccounting 0 0 0 []

/-- LOCK_METROLOGY (R180). -/
def execLockMetrology (h : ReqHeader) (s : State) :
    Host.Outcome State Fault Refusal :=
  s.request h .lockMetrology 0 0 0 []

/-- LOAD_OPEN (R190). -/
def execLoadOpen (h : ReqHeader) (space : Byte) (index count : BitVec 16) (s : State) :
    Host.Outcome State Fault Refusal :=
  s.request h .loadOpen space index count []

/-- LOAD_DATA (R191). -/
def execLoadData (h : ReqHeader) (offset count : BitVec 16) (data : List Byte) (s : State) :
    Host.Outcome State Fault Refusal :=
  s.request h .loadData 0 offset count data

/-- LOAD_CLOSE (R192). -/
def execLoadClose (h : ReqHeader) (data : List Byte) (s : State) :
    Host.Outcome State Fault Refusal :=
  s.request h .loadClose 0 0 0 data

/-- LOAD_ABORT (R193). -/
def execLoadAbort (h : ReqHeader) (s : State) :
    Host.Outcome State Fault Refusal :=
  s.request h .loadAbort 0 0 0 []

/-- SNAPSHOT_ISSUE (R198). -/
def execSnapshotIssue (h : ReqHeader) (point : BitVec 16) (s : State) :
    Host.Outcome State Fault Refusal :=
  s.request h .snapshot 0 point 0 []

/-- SNAPSHOT_RETRIEVE (R200). -/
def execSnapshotRetrieve (h : ReqHeader) (point ticket : BitVec 16) (s : State) :
    Host.Outcome State Fault Refusal :=
  s.request h .snapshot 0 point ticket []

end Sys2Proof.Machine
end

