-- ==== Sys2Proof/Machine/Timed.lean ====
section
/-! DEFINITION. The rows of the timebase, the Finisher, the Alert Unit and the Push Unit: LOSS_TIMEOUT, FINISH_BEGIN,
FINISH_COMPLETE, ABANDONED_FINISH, ALERT_OFFER, SEND_ATTEMPT, LOAD_EXPIRED and TICKET_EXPIRED. Each acts when the
condition its rule names holds; otherwise the event has not come and the state stays as it is. -/

namespace Sys2Proof.Machine

/-- LOSS_TIMEOUT (R36). -/
def execLossTimeout (k : Fin 32) (s : State) : Host.Outcome State Fault Refusal :=
  s.event fun s => if (s.slot k).lossDue (timebase s) then s.applySlot k (s.slot k).lose else s

/-- FINISH_BEGIN (R94). -/
def execFinishBegin (s : State) : Host.Outcome State Fault Refusal := s.event State.beginFinish

/-- The sums the Finisher computes from. -/
def State.finishSums (e : FinishEntry) (s : State) : BankSums :=
  ((s.point e.point).framer.bank e.bank).sums.getD (BankSums.begin e.cfg e.len [])

/-- FINISH_COMPLETE (R102). -/
def execFinishComplete (s : State) : Host.Outcome State Fault Refusal :=
  s.event fun s =>
    match s.dueFinish false with
    | none => s
    | some (e, a) => s.completeFinish e (s.finishSums e) a.limits

/-- ABANDONED_FINISH (R95). -/
def execAbandonedFinish (s : State) : Host.Outcome State Fault Refusal :=
  s.event fun s =>
    match s.dueFinish true with
    | none => s
    | some (e, _) => s.endAbandoned e

/-- ALERT_OFFER (R156). -/
def execAlertOffer (p : Port) (s : State) : Host.Outcome State Fault Refusal := s.event fun s => s.run [.offers p]

/-- SEND_ATTEMPT (R142, R143): the head of a wait list makes its attempt from the list. -/
def execSendAttempt (c : Fin 4) (s : State) : Host.Outcome State Fault Refusal :=
  s.event fun s =>
    if (s.dlv.wait (s.dlv.channel c).cfg.port).head? = some c then s.run [.waitList (s.dlv.channel c).cfg.port]
    else s.run [.attempt c false]

/-- The open load has been idle for 1,000 ms (R194). -/
def State.dueLoad (s : State) : Option Load :=
  match s.agent.load with
  | none => none
  | some l => if l.lastActivity + Config.loadIdle ≤ timebase s then some l else none

/-- The load expires (R194, 1 to 3). -/
def State.expireLoad (l : Load) (s : State) : State :=
  { s with agent := { s.agent with load := none, loadsExpired := s.agent.loadsExpired + 1 } }.raise 17 (spaceCode l.space)

/-- LOAD_EXPIRED (R194). -/
def execLoadExpired (s : State) : Host.Outcome State Fault Refusal :=
  s.event fun s =>
    match s.dueLoad with
    | none => s
    | some l => s.expireLoad l

/-- A ticket has reached its time limit (R201). -/
def Ticket.due (now : Nat) : Ticket → Bool
  | .free => false
  | .waiting _ since => since + Config.ticketWaiting ≤ now
  | .ready _ since _ => since + Config.ticketReady ≤ now

/-- Ticket t + 1 expires (R201, 1 to 3). -/
def State.expireTicket (t : Fin 4) (s : State) : State :=
  let s1 := s.setTicket t .free
  { s1 with agent := { s1.agent with ticketsExpired := s1.agent.ticketsExpired + 1 } }.raise 18 (t.val + 1)

/-- TICKET_EXPIRED (R201). -/
def execTicketExpired (t : Fin 4) (s : State) : Host.Outcome State Fault Refusal :=
  s.event fun s => if s.agent.tickets[t].due (timebase s) then s.expireTicket t else s

end Sys2Proof.Machine
end

