-- ==== Sys2Proof/Machine/Dispatch.lean ====
section
/-! DEFINITION. The meaning of every row of spec/opcode_table.json: one arm per constructor, one call each. -/

namespace Sys2Proof.Machine

def exec (i : Instr) (s : State) : Host.Outcome State Fault Refusal :=
  match i with
  | .powerOnReset straps => Sys2Proof.Machine.execPowerOnReset straps s
  | .resetAsserted => Sys2Proof.Machine.execResetAsserted s
  | .linkUp p => Sys2Proof.Machine.execLinkUp p s
  | .linkDown p receiving => Sys2Proof.Machine.execLinkDown p receiving s
  | .frameReceived p bytes => Sys2Proof.Machine.execFrameReceived p bytes s
  | .lossTimeout k => Sys2Proof.Machine.execLossTimeout k s
  | .finishBegin => Sys2Proof.Machine.execFinishBegin s
  | .finishComplete => Sys2Proof.Machine.execFinishComplete s
  | .abandonedFinish => Sys2Proof.Machine.execAbandonedFinish s
  | .transmissionEnd p => Sys2Proof.Machine.execTransmissionEnd p s
  | .alertOffer p => Sys2Proof.Machine.execAlertOffer p s
  | .sendAttempt c => Sys2Proof.Machine.execSendAttempt c s
  | .read h space index count => Sys2Proof.Machine.execRead h space index count s
  | .write h space index count data => Sys2Proof.Machine.execWrite h space index count data s
  | .writePosted h space index count data => Sys2Proof.Machine.execWritePosted h space index count data s
  | .slotWrite h index count data => Sys2Proof.Machine.execSlotWrite h index count data s
  | .pointWrite h index count data => Sys2Proof.Machine.execPointWrite h index count data s
  | .pushWrite h index count data => Sys2Proof.Machine.execPushWrite h index count data s
  | .alertWrite h index count data => Sys2Proof.Machine.execAlertWrite h index count data s
  | .deviceWrite h index count data => Sys2Proof.Machine.execDeviceWrite h index count data s
  | .fetchRecords h count => Sys2Proof.Machine.execFetchRecords h count s
  | .alertAck h vector => Sys2Proof.Machine.execAlertAck h vector s
  | .alertClear h vector => Sys2Proof.Machine.execAlertClear h vector s
  | .pushStart h channel => Sys2Proof.Machine.execPushStart h channel s
  | .resetPoint h point => Sys2Proof.Machine.execResetPoint h point s
  | .restartAccounting h => Sys2Proof.Machine.execRestartAccounting h s
  | .lockMetrology h => Sys2Proof.Machine.execLockMetrology h s
  | .loadOpen h space index count => Sys2Proof.Machine.execLoadOpen h space index count s
  | .loadData h offset count data => Sys2Proof.Machine.execLoadData h offset count data s
  | .loadClose h data => Sys2Proof.Machine.execLoadClose h data s
  | .loadAbort h => Sys2Proof.Machine.execLoadAbort h s
  | .loadExpired => Sys2Proof.Machine.execLoadExpired s
  | .snapshotIssue h point => Sys2Proof.Machine.execSnapshotIssue h point s
  | .snapshotRetrieve h point ticket => Sys2Proof.Machine.execSnapshotRetrieve h point ticket s
  | .ticketExpired t => Sys2Proof.Machine.execTicketExpired t s

end Sys2Proof.Machine
end

