-- ==== Sys2Proof/Machine/Step.lean ====
section
/-! DEFINITION. One step of the block: the command at the front of the queue, or a tick of the timebase. -/

namespace Sys2Proof.Machine

/-- The timed events whose moment has come, in a fixed order: the finish under way, the loss deadlines in
increasing slot, the open load, the tickets in increasing number (notes/assumptions/1.md). -/
def dueEvents (s : State) : List Instr :=
  (if (s.dueFinish false).isSome then [.finishComplete] else []) ++
  (if (s.dueFinish true).isSome then [.abandonedFinish] else []) ++
  ((List.finRange 32).filter fun k => (s.slot k).lossDue (timebase s)).map .lossTimeout ++
  (if s.dueLoad.isSome then [.loadExpired] else []) ++
  ((List.finRange 4).filter fun t => s.agent.tickets[t].due (timebase s)).map .ticketExpired

/-- The tick: with no command waiting, the timebase clock advances by one microsecond and the events then due
join the queue. Under reset the clock stands (notes/assumptions/1.md). -/
def State.tick (s : State) : State :=
  if s.inReset then s
  else
    let s1 := { s with clock := s.clock + 1 }
    { s1 with pending := dueEvents s1 }

/-- One step. -/
def step (s : State) : Host.Outcome State Fault Refusal :=
  match s.pending with
  | c :: rest => exec c { s with pending := rest }
  | [] => .next s.tick

/-- The command a word spells, put at the front of the queue; no row has bits, so no word spells one. -/
def State.withFetchWord (s : State) (nbits w : Nat) : State :=
  match decodeTableWord nbits w with
  | none => s
  | some c => { s with pending := c :: s.pending }

end Sys2Proof.Machine
end

