-- ==== Sys2Proof/Safety.lean ====
section
/-! DEFINITION. What the statements about the part are said in: the laws a sound state keeps, and the words for
"this request is taken at once" and "this is its answer". -/

namespace Sys2Proof.Machine

/-! ## Laws of a state -/

/-- The Record Queue never holds more than 16,384 words (R130). -/
def RecordQueueFits (s : State) : Prop := s.dlv.recq.words ≤ Config.queueWords

/-- A DOWN port receives and transmits nothing and holds nothing, and its arbiter stands as at power-on with the priorities of
DEVICE (R15, R16). -/
def DownPortHoldsNothing (initial : PerClass Nat) (q : PortState) : Prop :=
  q.up = false →
    q.rx = [] ∧ q.tx = none ∧ q.pass = [] ∧ q.alertQ = [] ∧ q.replyQ = [] ∧ q.reportQ = [] ∧ q.passCount = 0 ∧
      q.current = initial ∧ q.lastWinner = none

/-- Both ports keep it. -/
def DownPortsHoldNothing (s : State) : Prop := ∀ p : Port, DownPortHoldsNothing s.device.priority (s.dlv.port p)

/-- The capacities of a port's buffer and queues (R7, R9). -/
def PortWithinCapacity (q : PortState) : Prop :=
  q.pass.length ≤ Config.passFrames ∧ passBytes q.pass ≤ Config.passBytes ∧ q.alertQ.length ≤ Config.alertRoom ∧
    q.replyQ.length ≤ Config.replyRoom ∧ q.reportQ.length ≤ Config.reportRoom

/-- Every buffer and queue of the part is within its capacity, and a wait list names a channel at most once (R7,
R9, R143, R169). -/
def QueuesWithinCapacity (s : State) : Prop :=
  (∀ p : Port, PortWithinCapacity (s.dlv.port p) ∧ (s.dlv.wait p).Nodup) ∧ s.agent.queue.length ≤ Config.requestRoom

/-- An alert entry is never SEND-PENDING and awaiting acknowledgement at once, and an EDGE entry never awaits one
(R153, R159). -/
def AlertsNeverBoth (s : State) : Prop :=
  ∀ n : Fin 20,
    ((s.dlv.alert n).queuedOn.isSome = true → (s.dlv.alert n).awaiting = false) ∧
      (isLevel n = false → (s.dlv.alert n).awaiting = false)

/-- The open load names entries of a space that can be written, and its staged bytes fit its expected total, which
is at most 2,048 (R189). -/
def LoadWithinRoom (s : State) : Prop :=
  ∀ l : Load, s.agent.load = some l →
    1 ≤ l.count ∧ l.first + l.count ≤ spaceEntries l.space ∧ writeSize l.space ≠ 0 ∧ l.staged.length ≤ l.total ∧
      l.total ≤ 2048

/-- Every DEVICE field lies in its range, and the metrology lock stands with a permitted manager (R14, R109, R133,
R152, R178, R181). -/
def DeviceLegal (s : State) : Prop :=
  s.device.node ≠ Config.broadcast ∧ s.device.managers.length ≤ 4 ∧ Config.broadcast ∉ s.device.managers ∧
    validInterval s.device.intervalLen = true ∧ 1 ≤ s.device.floor ∧ s.device.floor ≤ 7 ∧ 1 ≤ s.device.watermark ∧
      s.device.watermark ≤ Config.queueWords ∧ s.device.priority.alert ≤ 15 ∧ s.device.priority.reply ≤ 15 ∧
        s.device.priority.report ≤ 15 ∧ (s.device.metrologyLock = true → s.device.managers ≠ [])

/-- A SLOT configuration in its ranges (R27). -/
def SlotCfg.Legal (c : SlotCfg) : Prop :=
  2 ≤ c.acquire ∧ c.acquire ≤ 64 ∧ 2 ≤ c.lossTimeout ∧ c.lossTimeout ≤ 200 ∧ 1 ≤ c.maxGap ∧ c.maxGap ≤ 256

/-- A POINT configuration in its ranges (R45). -/
def PointCfg.Legal (c : PointCfg) : Prop :=
  6 ≤ c.cycles ∧ c.cycles ≤ 16 ∧ 1 ≤ c.bridgeLimit ∧ c.bridgeLimit ≤ 16 ∧ 50 ≤ c.minCoverage ∧ c.minCoverage ≤ 100 ∧
    c.tanLimit ≤ 2000 ∧ ∀ g ∈ c.gains.toList, g ≤ 32767

/-- An ALERT configuration in its ranges (R151). -/
def AlertCfg.Legal (c : AlertCfg) : Prop := c.level ≤ 7 ∧ 0x10 ≤ c.vector.toNat ∧ c.vector.toNat ≤ 0xFE

/-- A limit profile in its ranges (R92). -/
def LimitProfile.Legal (l : LimitProfile) : Prop :=
  (∀ x ∈ l.orders.toList, x ≤ 16777215) ∧ l.triplen ≤ 16777215 ∧ l.nonFund ≤ 16777215

/-- Every table entry lies in its ranges: SLOT, POINT in force and pending, HSET, LIMIT, ALERT and PUSH (R27, R45, R91,
R92, R138, R151). -/
def TablesLegal (s : State) : Prop :=
  (∀ k : Fin 32, (s.slot k).cfg.Legal) ∧
    (∀ i : Fin 24, (s.point i).cfg.Legal ∧ ∀ c, (s.point i).waitingCfg = some c → c.Legal) ∧
      (∀ j : Fin 8, validOrders s.finisher.hsets[j] = true ∧ s.finisher.limits[j].Legal) ∧
        (∀ n : Fin 20, (s.dlv.alert n).cfg.Legal) ∧ ∀ c : Fin 4, (s.dlv.channel c).cfg.count ≤ 65535

/-- The remainders of a point are below their divisors (R111). -/
def Accumulators.RemaindersBelow (a : Accumulators) : Prop :=
  (∀ x ∈ [a.activeImp, a.activeExp, a.q1, a.q2, a.q3, a.q4, a.excess], x.rem < Config.fundDivisor) ∧
    ∀ j : Fin 49, a.harm[j].imp.rem < Config.harmDivisor ∧ a.harm[j].exp.rem < Config.harmDivisor

/-- Every point's remainders are below their divisors (R111). -/
def RemaindersBelow (s : State) : Prop := ∀ i : Fin 24, (s.point i).acc.RemaindersBelow

/-- A point's framer, window and configuration agree: a window record stands in COLLECTING and HELD alone, the
framer is DISABLED exactly when the point is disabled, and a pending configuration is held for an enabled
point alone and keeps it enabled (R48, R65, R74, R83). -/
def Point.Sound (p : Point) : Prop :=
  (p.framer.window.isSome = true ↔ p.framer.st = .collecting ∨ p.framer.st = .held) ∧
    (p.framer.st = .disabled ↔ p.cfg.enabled = false) ∧
      ∀ c, p.waitingCfg = some c → c.enabled = true ∧ p.framer.st ≠ .disabled

/-- Every point is sound. -/
def PointsSound (s : State) : Prop := ∀ i : Fin 24, (s.point i).Sound

/-- The law of the Finish Queue and the banks (R69, R93, R94): at most 24 entries, never two of one point; a bank is OUT exactly
when an entry names it, and ACTIVE exactly when the window collected names it; the Finisher works exactly while the queue
is not empty. -/
def FinishQueueSound (s : State) : Prop :=
  s.finisher.queue.length ≤ 24 ∧ (s.finisher.queue.map (·.point)).Nodup ∧
    (∀ (i : Fin 24) (ix : BankIx),
      ((∃ b, (s.point i).framer.bank ix = .out b) ↔ ∃ e ∈ s.finisher.queue, e.point = i ∧ e.bank = ix) ∧
      ((∃ b, (s.point i).framer.bank ix = .active b) ↔ ∃ w, (s.point i).framer.window = some w ∧ w.bank = ix)) ∧
    (s.finisher.active.isSome = true ↔ s.finisher.queue ≠ [])

/-- An alignment queue of a side fed by a slot: at most 16 entries in strictly increasing index, all before the index the
slot expects (R55). -/
def AlignQueueSound (x : Slot) (q : List AlignEntry) : Prop :=
  q.length ≤ Config.alignRoom ∧ q.Pairwise (fun y z => y.index < z.index) ∧ ∀ y ∈ q, y.index < x.expected.getD 0

/-- The law of the alignment queues (R51, R54, R55, R59): of a point at most one queue is not empty, each is sound, and sets wait
only in an enabled point of two distinct slots whose source states are both LOCKED; the source states of an enabled point
are those of its slots. With it, a slot is DISABLED exactly when its configuration is (R40). -/
def PairingSound (s : State) : Prop :=
  (∀ k : Fin 32, (s.slot k).st = .disabled ↔ (s.slot k).cfg.enabled = false) ∧
  ∀ i : Fin 24,
    (let p := s.point i
     (p.vQueue = [] ∨ p.iQueue = []) ∧ AlignQueueSound (s.slot p.cfg.vSlot) p.vQueue ∧
       AlignQueueSound (s.slot p.cfg.iSlot) p.iQueue ∧
       (p.vQueue ≠ [] ∨ p.iQueue ≠ [] →
         p.cfg.enabled = true ∧ p.vLocked = true ∧ p.iLocked = true ∧ p.cfg.vSlot ≠ p.cfg.iSlot) ∧
       (p.cfg.enabled = true →
         (p.vLocked = true ↔ (s.slot p.cfg.vSlot).st = .locked) ∧ (p.iLocked = true ↔ (s.slot p.cfg.iSlot).st = .locked)))

/-! ## Requests taken at once -/

/-- The agent takes a request with this header at its arrival: no reset, no request before it, and a place for the
reply (R169, R170; a DOWN port always has one, R16). -/
def TakenAtOnce (s : State) (h : ReqHeader) : Prop :=
  s.inReset = false ∧ s.agent.queue = [] ∧
    ((s.dlv.port h.port).up = true → (s.dlv.port h.port).replyQ.length < Config.replyRoom)

/-- The source node may manage the part (R172). -/
def Manages (s : State) (h : ReqHeader) : Prop := s.device.managers = [] ∨ h.source ∈ s.device.managers

/-- The state at the service: the request has been counted REQ_RECEIVED (R169). -/
def joined (s : State) : State := { s with agent := { s.agent with received := s.agent.received + 1 } }

/-- The reply to a request (R171). -/
def replyTo (h : ReqHeader) (node : Node) (k : ReqKind) (st : Status) (count : Nat) (data : List Byte) : ReplyFrame :=
  { dest := h.source, source := node, tag := h.tag, status := st, kind := BitVec.ofNat 8 (kindCode k)
    count := BitVec.ofNat 16 count, data := data }

/-- The service has left this state, and its reply is placed (R170, R171). -/
def answered (h : ReqHeader) (k : ReqKind) (st : Status) (count : Nat) (data : List Byte) (s : State) : State :=
  s.placeReply h.port (replyTo h s.device.node k st count data)

/-- The outcome of a row whose request is answered so. -/
def Answers (c : Instr) (s : State) (h : ReqHeader) (k : ReqKind) (st : Status) (count : Nat) (data : List Byte)
    (t : State) : Prop :=
  exec c s = .next (answered h k st count data t)

/-- The header and kind of a row that is a management request. -/
def requestRow : Instr → Option (ReqHeader × ReqKind)
  | .powerOnReset _ => none
  | .resetAsserted => none
  | .linkUp _ => none
  | .linkDown _ _ => none
  | .frameReceived _ _ => none
  | .lossTimeout _ => none
  | .finishBegin => none
  | .finishComplete => none
  | .abandonedFinish => none
  | .transmissionEnd _ => none
  | .alertOffer _ => none
  | .sendAttempt _ => none
  | .read h _ _ _ => some (h, .read)
  | .write h _ _ _ _ => some (h, .write)
  | .writePosted h _ _ _ _ => some (h, .writePosted)
  | .slotWrite h _ _ _ => some (h, .write)
  | .pointWrite h _ _ _ => some (h, .write)
  | .pushWrite h _ _ _ => some (h, .write)
  | .alertWrite h _ _ _ => some (h, .write)
  | .deviceWrite h _ _ _ => some (h, .write)
  | .fetchRecords h _ => some (h, .fetchRecords)
  | .alertAck h _ => some (h, .alertAck)
  | .alertClear h _ => some (h, .alertClear)
  | .pushStart h _ => some (h, .pushStart)
  | .resetPoint h _ => some (h, .resetPoint)
  | .restartAccounting h => some (h, .restartAccounting)
  | .lockMetrology h => some (h, .lockMetrology)
  | .loadOpen h _ _ _ => some (h, .loadOpen)
  | .loadData h _ _ _ => some (h, .loadData)
  | .loadClose h _ => some (h, .loadClose)
  | .loadAbort h => some (h, .loadAbort)
  | .loadExpired => none
  | .snapshotIssue h _ => some (h, .snapshot)
  | .snapshotRetrieve h _ _ => some (h, .snapshot)
  | .ticketExpired _ => none

/-- The fields of the request a management row brings (11.2): header, kind, space, index, count and data; a field the kind
does not use is 0. -/
def rowFields : Instr → Option (ReqHeader × ReqKind × Byte × BitVec 16 × BitVec 16 × List Byte)
  | .powerOnReset _ => none
  | .resetAsserted => none
  | .linkUp _ => none
  | .linkDown _ _ => none
  | .frameReceived _ _ => none
  | .lossTimeout _ => none
  | .finishBegin => none
  | .finishComplete => none
  | .abandonedFinish => none
  | .transmissionEnd _ => none
  | .alertOffer _ => none
  | .sendAttempt _ => none
  | .read h space index count => some (h, .read, space, index, count, [])
  | .write h space index count data => some (h, .write, space, index, count, data)
  | .writePosted h space index count data => some (h, .writePosted, space, index, count, data)
  | .slotWrite h index count data => some (h, .write, 0x03, index, count, data)
  | .pointWrite h index count data => some (h, .write, 0x04, index, count, data)
  | .pushWrite h index count data => some (h, .write, 0x08, index, count, data)
  | .alertWrite h index count data => some (h, .write, 0x07, index, count, data)
  | .deviceWrite h index count data => some (h, .write, 0x01, index, count, data)
  | .fetchRecords h count => some (h, .fetchRecords, 0, 0, count, [])
  | .alertAck h vector => some (h, .alertAck, 0, vector, 0, [])
  | .alertClear h vector => some (h, .alertClear, 0, vector, 0, [])
  | .pushStart h channel => some (h, .pushStart, 0, channel, 0, [])
  | .resetPoint h point => some (h, .resetPoint, 0, point, 0, [])
  | .restartAccounting h => some (h, .restartAccounting, 0, 0, 0, [])
  | .lockMetrology h => some (h, .lockMetrology, 0, 0, 0, [])
  | .loadOpen h space index count => some (h, .loadOpen, space, index, count, [])
  | .loadData h offset count data => some (h, .loadData, 0, offset, count, data)
  | .loadClose h data => some (h, .loadClose, 0, 0, 0, data)
  | .loadAbort h => some (h, .loadAbort, 0, 0, 0, [])
  | .loadExpired => none
  | .snapshotIssue h point => some (h, .snapshot, 0, point, 0, [])
  | .snapshotRetrieve h point ticket => some (h, .snapshot, 0, point, ticket, [])
  | .ticketExpired _ => none

/-- The row of a WRITE of a space: the space's own row where the table has one (R176). -/
def writeRow (sp : Space) (h : ReqHeader) (index count : BitVec 16) (data : List Byte) : Instr :=
  match sp with
  | .device => .deviceWrite h index count data
  | .slot => .slotWrite h index count data
  | .point => .pointWrite h index count data
  | .alert => .alertWrite h index count data
  | .push => .pushWrite h index count data
  | .window => .write h 0x02 index count data
  | .hset => .write h 0x05 index count data
  | .limit => .write h 0x06 index count data
  | .counters => .write h 0x09 index count data
  | .result => .write h 0x0A index count data

/-- The agent has nothing it can take: its queue is empty, or its head waits for a place (R170). -/
def AgentWaits (s : State) : Prop := ∀ r ∈ s.agent.queue.head?, canTake s r = false

/-- Nothing waits for a port's transmitter (R11). -/
def NothingWaits (q : PortState) : Prop := q.pass = [] ∧ q.alertQ = [] ∧ q.replyQ = [] ∧ q.reportQ = []

/-- An accepted frame has been counted RX_FRAMES on its port (R6). -/
def accepted (p : Port) (s : State) : State :=
  { s with dlv := s.dlv.received p fun c => { c with rxFrames := c.rxFrames + 1 } }

/-- A window's search end has been counted HITS (R26). -/
def hitCounted (i : Fin 16) (s : State) : State :=
  { s with classifier := { s.classifier with hits := s.classifier.hits.set i (s.classifier.hits[i] + 1) } }

/-- The port transmits a frame, so no grant is made on it (R11). -/
def PortBusy (s : State) (p : Port) : Prop := (s.dlv.port p).up = true ∧ (s.dlv.port p).tx.isSome = true

end Sys2Proof.Machine
end

