-- ==== Sys2Proof/Certificates/Slice0/Obligations.lean ====
section
/-! DEFINITION. The statements about the model, for the provers. Each docstring names the rules of spec/ it is
read from, or the log entry of the model's choice it states. -/

open Sys2Proof Sys2Proof.Machine

/-! ## The queue and the clock -/

/-- A command at the front of the queue: a step is its meaning on the state with the queue's rest. -/
def Obligations.StepRunsTheFrontCommand : Prop :=
  ∀ (s : State) (c : Instr) (rest : List Instr), s.pending = c :: rest → step s = exec c { s with pending := rest }

/-- The model's tick (notes/assumptions/1.md): on an empty queue the clock advances by one microsecond and the due
events join the queue; under reset nothing moves. The due events: the finish under way at its end (R94, R95), each slot at
its loss deadline (R36), the open load 1,000 ms after its last activity (R194), each ticket at its limit (R201); they
stand in the model's order. -/
def Obligations.EmptyQueueTicksTheClock : Prop :=
  (∀ s : State, s.pending = [] →
    (s.inReset = false → step s = .next { s with clock := s.clock + 1, pending := dueEvents { s with clock := s.clock + 1 } }) ∧
    (s.inReset = true → step s = .next s)) ∧
  (∀ (s : State) (c : Instr), c ∈ dueEvents s ↔
    (∃ e rest a, s.finisher.queue = e :: rest ∧ s.finisher.active = some a ∧ a.due ≤ s.clock ∧
      c = if a.abandoned = true then .abandonedFinish else .finishComplete) ∨
    (∃ k : Fin 32, c = .lossTimeout k ∧ ((s.slot k).st = .acquiring ∨ (s.slot k).st = .locked) ∧
      (s.slot k).lastUsable.getD 0 + (s.slot k).cfg.lossTimeout ≤ s.clock / 1000) ∨
    (c = .loadExpired ∧ ∃ l, s.agent.load = some l ∧ l.lastActivity + 1000 ≤ s.clock / 1000) ∨
    (∃ q : Fin 4, c = .ticketExpired q ∧
      ((∃ k since, s.agent.tickets[q] = .waiting k since ∧ since + 5000 ≤ s.clock / 1000) ∨
       ∃ k since copy, s.agent.tickets[q] = .ready k since copy ∧ since + 2000 ≤ s.clock / 1000))) ∧
  (∀ s : State, (dueEvents s).Sublist ([.finishComplete, .abandonedFinish] ++ (List.finRange 32).map .lossTimeout ++
    [.loadExpired] ++ (List.finRange 4).map .ticketExpired))

/-! ## Reset (R209, R210) -/

/-- POWER_ON_RESET leaves the default working state of R209, from every state. That the model's own queue of commands is
kept is the model's choice (notes/assumptions/29.md). -/
def Obligations.PowerOnResetLeavesDefaults : Prop :=
  ∀ (straps : BitVec 12) (s : State), ∃ t, exec (.powerOnReset straps) s = .next t ∧
    t.inReset = false ∧ t.clock = 0 ∧ t.pending = s.pending ∧ t.device.node.toNat = straps.toNat ∧
    t.device.managers = [] ∧ t.device.metrologyLock = false ∧ t.device.intervalLen = 900 ∧
    (∀ p : Port, (t.dlv.port p).up = false) ∧ (t.dlv.alert 19).active = true ∧ (t.dlv.alert 19).detail = 3 ∧
    (∀ i : Fin 16, t.classifier.windows[i].enabled = false) ∧ (∀ k : Fin 32, (t.slot k).st = .disabled) ∧
    (∀ i : Fin 24, (t.point i).framer.st = .disabled) ∧ (∀ c : Fin 4, (t.dlv.channel c).st = .disabled) ∧
    (∀ n : Fin 20, (t.dlv.alert n).cfg.masked = true) ∧ (∀ j : Fin 8, t.finisher.hsets[j] = [1]) ∧
    (∀ j : Fin 8, t.finisher.limits[j] = LimitProfile.zero)

/-- RESET_ASSERTED ends every activity and keeps nothing, and while the reset input is asserted no other command has an
effect (R210; notes/assumptions/3.md); the model's own queue of commands is kept (notes/assumptions/29.md). -/
def Obligations.ResetAssertedEndsEverything : Prop :=
  (∀ s : State, ∃ t, exec .resetAsserted s = .next t ∧ t.inReset = true ∧ t.pending = s.pending ∧ t.straps = s.straps ∧
    (∀ p : Port, (t.dlv.port p).up = false ∧ (t.dlv.port p).tx = none ∧ NothingWaits (t.dlv.port p)) ∧
    t.dlv.recq.records = [] ∧ (∀ i : Fin 24, (t.point i).ivl = .empty ∧ (t.point i).acc = .zero) ∧
    t.agent.load = none ∧ t.agent.queue = [] ∧ (∀ k : Fin 4, t.agent.tickets[k] = .free) ∧
    ∀ w ∈ counterWords t, w = 0) ∧
  (∀ (c : Instr) (s : State), s.inReset = true → (∀ straps, c ≠ .powerOnReset straps) → c ≠ .resetAsserted →
    exec c s = .next s)

/-! ## Links and ports (chapter 1) -/

/-- LINK_UP: the port is UP, the other port's link stays, LINK_DOWN tells the ports still DOWN, and every block beyond
the delivery side stays as it is (R17, R18). An UP port stays as it is: the model's choice, notes/assumptions/3.md. -/
def Obligations.LinkUpRaisesThePort : Prop :=
  ∀ (s : State) (p : Port), s.inReset = false →
    ((s.dlv.port p).up = true → exec (.linkUp p) s = .next s) ∧
    ((s.dlv.port p).up = false → ∃ t, exec (.linkUp p) s = .next t ∧ (t.dlv.port p).up = true ∧
      (t.dlv.port (otherPort p)).up = (s.dlv.port (otherPort p)).up ∧
      (t.dlv.alert 19).active = !(s.dlv.port (otherPort p)).up ∧
      (t.dlv.alert 19).detail = (if (s.dlv.port (otherPort p)).up then 0 else BitVec.ofNat 32 (2 ^ portCode (otherPort p))) ∧
      t = { s with dlv := t.dlv })

/-- LINK_DOWN on an UP port: the port loses its transmission, buffer and queues, counts them, and its arbiter stands as at
power-on (R2; R15, 1 to 3 and 5 to 8). Each ALERT frame emptied from its queue is returned to its entry (R15, 4): an EDGE entry
is pending again with the frame's detail and count, a LEVEL entry loses its awaiting acknowledgement and takes the frame's count
and its own together, up to 255 (R163). Then the entries are offered, LINK_DOWN tells the ports DOWN (R18), and the agent tries
its head (R170, 4): that order is the model's choice, notes/assumptions/12.md, and Port A before Port B is
notes/assumptions/28.md. A DOWN port stays as it is: the model's choice, notes/assumptions/3.md; the operand `receiving` is
notes/assumptions/5.md. -/
def Obligations.LinkDownEmptiesThePort : Prop :=
  ∀ (s : State) (p : Port) (receiving : Bool), s.inReset = false →
    ((s.dlv.port p).up = false → exec (.linkDown p receiving) s = .next s) ∧
    ((s.dlv.port p).up = true →
      (let o := otherPort p
       let q := s.dlv.port p
       let down := 2 ^ portCode p + (if (s.dlv.port o).up then 0 else 2 ^ portCode o)
       ∃ (d : Delivery) (t : State),
        (let told : LevelReport := { number := 19, active := true, detail := BitVec.ofNat 32 down }
         t = State.run { s with dlv := d } [.offers .a, .offers .b, .levels [told]]) ∧
        exec (.linkDown p receiving) s = .next t.agentRun ∧
        (s.agent.queue = [] → exec (.linkDown p receiving) s = .next t) ∧
        (∀ r : PortState, r = d.port p ∨ r = t.dlv.port p →
          r.up = false ∧ r.tx = none ∧ NothingWaits r ∧ r.passCount = 0 ∧ r.current = s.device.priority ∧
          r.lastWinner = none ∧
          r.ctr.linkdownDrop = q.ctr.linkdownDrop +
            BitVec.ofNat 32 ((if q.tx.isSome then 1 else 0) + q.pass.length + q.alertQ.length + q.replyQ.length + q.reportQ.length) ∧
          r.ctr.recordsLost = q.ctr.recordsLost +
            BitVec.ofNat 32 ((q.tx.map TxFrame.recordCount).getD 0 + (q.reportQ.map fun f => f.records.length).sum) ∧
          r.rx = [] ∧ r.ctr.lengthErr = (if receiving = true ∨ q.rx ≠ [] then q.ctr.lengthErr + 1 else q.ctr.lengthErr) ∧
          r.ctr.txFrames = q.ctr.txFrames) ∧
        (∀ n : Fin 20, (∀ f ∈ q.alertQ, f.number ≠ n) → d.alert n = s.dlv.alert n) ∧
        (∀ before f behind, q.alertQ = before ++ f :: behind → (∀ g ∈ before ++ behind, g.number ≠ f.number) →
          (let e := s.dlv.alert f.number
           let level := isLevel f.number
           d.alert f.number = { e with
             queuedOn := none, restored := e.restored + 1
             pending := if level then e.pending else some f.detail
             count := if level then min (f.count + e.count) 255 else f.count
             awaiting := if level then false else e.awaiting })) ∧
        d.port o = s.dlv.port o ∧ d.channels = s.dlv.channels ∧ d.waitA = s.dlv.waitA ∧ d.waitB = s.dlv.waitB ∧
        d.recq = s.dlv.recq ∧
        (t.dlv.alert 19).active = true ∧ (t.dlv.alert 19).detail = BitVec.ofNat 32 down ∧
        t.dlv.recq.appended = s.dlv.recq.appended ∧ t = { s with dlv := t.dlv }))

/-- The length check (R3): it passes when both conditions hold; a frame that fails it is counted LENGTH_ERR and nothing
else happens; a payload length field above 1,500 always fails. -/
def Obligations.LengthCheckDropsAndCounts : Prop :=
  (∀ (s : State) (p : Port) (f : List Byte), s.inReset = false → (s.dlv.port p).up = true → AgentWaits s →
    ¬ (12 ≤ f.length ∧ f.length ≤ 1512 ∧ frameLength f = f.length - 12) →
      exec (.frameReceived p f) s =
        .next { s with dlv := s.dlv.received p fun c => { c with lengthErr := c.lengthErr + 1 } }) ∧
  (∀ (node : Node) (f : List Byte), 12 ≤ f.length → f.length ≤ 1512 → frameLength f = f.length - 12 →
    verdict node f ≠ .lengthErr) ∧
  (∀ (node : Node) (f : List Byte), 1500 < frameLength f → verdict node f = .lengthErr)

/-- The CRC and looped-source checks (R4, R5). A frame of sound length whose trailer differs from its CRC is counted
CRC_ERR, not RX_FRAMES, and is one occurrence of RX_FRAME_ERR; no pass-through buffer and no transmitter gains it, those of a
port that is not free stay as they are, and no block beyond the delivery side sees it. One of sound
length and CRC whose source is the part's own node is counted LOOPED and nothing else happens. Any other is accepted. -/
def Obligations.CrcAndLoopedFramesAreDropped : Prop :=
  (∀ (s : State) (p : Port) (f : List Byte), s.inReset = false → (s.dlv.port p).up = true → s.agent.queue = [] →
    lengthOk f = true → crc32 (frameBody f) ≠ frameTrailer f →
      ∃ t, exec (.frameReceived p f) s = .next t ∧
        (t.dlv.port p).ctr.crcErr = (s.dlv.port p).ctr.crcErr + 1 ∧
        (t.dlv.port p).ctr.rxFrames = (s.dlv.port p).ctr.rxFrames ∧
        (t.dlv.alert 14).occurrences = (s.dlv.alert 14).occurrences + 1 ∧
        (∀ o : Port,
          (t.dlv.port o).pass <:+ (s.dlv.port o).pass ∧
          (∀ g, (t.dlv.port o).tx = some (.pass g) → (s.dlv.port o).tx = some (.pass g) ∨ g ∈ (s.dlv.port o).pass) ∧
          ((s.dlv.port o).free = false →
            (t.dlv.port o).pass = (s.dlv.port o).pass ∧ (t.dlv.port o).tx = (s.dlv.port o).tx)) ∧
        t = { s with dlv := t.dlv }) ∧
  (∀ (s : State) (p : Port) (f : List Byte), s.inReset = false → (s.dlv.port p).up = true → AgentWaits s →
    lengthOk f = true → crc32 (frameBody f) = frameTrailer f → frameSource f = s.device.node →
      exec (.frameReceived p f) s = .next { s with dlv := s.dlv.received p fun c => { c with looped := c.looped + 1 } }) ∧
  (∀ (node : Node) (f : List Byte), lengthOk f = true → crc32 (frameBody f) = frameTrailer f → frameSource f ≠ node →
    verdict node f = .accepted)

/-- An accepted frame of a kind the part does not consume is counted RX_FRAMES and offered to the buffer toward the other
port: appended exactly as received, dropped as PASS_OVERFLOW, or dropped as LINKDOWN_DROP (R6 to R8, R16, R22). -/
def Obligations.OpaqueFrameIsOfferedOnce : Prop :=
  ∀ (s : State) (p : Port) (f : List Byte), s.inReset = false → (s.dlv.port p).up = true → s.agent.queue = [] →
    verdict s.device.node f = .accepted → frameKind f ≠ 0x01 → frameKind f ≠ 0x02 →
      (let o := otherPort p
       let d := s.dlv.received p fun c => { c with rxFrames := c.rxFrames + 1 }
       ((s.dlv.port o).up = false →
         exec (.frameReceived p f) s =
           .next { s with dlv := d.count o fun c => { c with linkdownDrop := c.linkdownDrop + 1 } }) ∧
       (PortBusy s o → passRoom f (s.dlv.port o).pass = true →
         exec (.frameReceived p f) s = .next { s with dlv := d.modPort o fun q => { q with pass := q.pass ++ [f] } }) ∧
       (PortBusy s o → passRoom f (s.dlv.port o).pass = false → ∃ t,
         exec (.frameReceived p f) s = .next t ∧ (t.dlv.port o).pass = (s.dlv.port o).pass ∧
           (t.dlv.port o).ctr.passOverflow = (s.dlv.port o).ctr.passOverflow + 1 ∧
           (t.dlv.alert 15).occurrences = (s.dlv.alert 15).occurrences + 1 ∧ t = { s with dlv := t.dlv }))

/-- The window search (R24): a tag hits an enabled window when tag and base agree under the mask; the search ends at the lowest
enabled SINK window the tag hits, or, when no SINK window is hit, at the lowest TAP or PASS window it hits. -/
def Obligations.WindowSearchOrder : Prop :=
  (∀ (w : StreamWindow) (tag : BitVec 32),
    w.hit tag = true ↔ w.enabled = true ∧ tag &&& w.mask = w.base &&& w.mask) ∧
  (∀ (c : Classifier) (tag : BitVec 32) (i : Fin 16),
    searchWindows c tag = some i ↔
      c.windows[i].hit tag = true ∧
        ((c.windows[i].kind = .sink ∧ ∀ j : Fin 16, j < i → c.windows[j].kind = .sink → c.windows[j].hit tag = false) ∨
         (c.windows[i].kind ≠ .sink ∧ (∀ j : Fin 16, c.windows[j].kind = .sink → c.windows[j].hit tag = false) ∧
            ∀ j : Fin 16, j < i → c.windows[j].hit tag = false)))

/-- Where an accepted SAMPLE or REQUEST frame goes. A SAMPLE frame that hits a SINK window whose target is no enabled slot is
counted RX_FRAMES, HITS and NO_SLOT, and is neither forwarded nor tracked (R24 to R26). A REQUEST for the part's own node that
finds the request queue full is counted REQ_DROPPED, unanswered and not forwarded (R22, R169). A hit whose target is an enabled
slot sends the frame to that slot, under TAP after it is offered onward as the model orders the two
(notes/assumptions/10.md); a TAP hit without a slot is offered onward and counted NO_SLOT; a PASS hit, no hit and a frame
without a tag are only offered onward (R24, R25). What a slot takes from a frame reaches the points: its leaving and its entering
LOCKED (R38) and then each delivered set in turn (R51) reach every point, and STREAM_REACQUIRED is raised before the first set,
with the slot as its detail (R39); STREAM_LOST tells every LOST slot. The points follow in increasing number
(notes/assumptions/40.md) and the slot's own reports in the order of notes/assumptions/41.md, as the model orders them. A
REQUEST for the part's own node is served as the row its payload spells; a broadcast one is offered onward too, and first as the
model orders the two (notes/assumptions/10.md); one for any other node is only offered onward (R22, R169, R170). A payload shorter
than 8 bytes is answered SHORT and an unknown kind BAD-KIND, and a WRITE-POSTED refused SHORT is counted and raises MGMT_ERROR
(R171, R177); that a payload whose kind byte is missing has kind 0, and so is no WRITE-POSTED and is answered, is the model's
reading (notes/assumptions/21.md). -/
def Obligations.ConsumedFramesAreNotForwarded : Prop :=
  (∀ (s : State) (p : Port) (f : List Byte) (i : Fin 16), s.inReset = false → (s.dlv.port p).up = true → AgentWaits s →
    verdict s.device.node f = .accepted → frameKind f = 0x01 → 4 ≤ (framePayload f).length →
    searchWindows s.classifier (sampleTag (framePayload f)) = some i → s.classifier.windows[i].kind = .sink →
    enabledTarget s s.classifier.windows[i] (sampleTag (framePayload f)) = none →
      exec (.frameReceived p f) s =
        .next { s with
          dlv := s.dlv.received p fun c => { c with rxFrames := c.rxFrames + 1 }
          classifier := { s.classifier with
            hits := s.classifier.hits.set i (s.classifier.hits[i] + 1), noSlot := s.classifier.noSlot + 1 } }) ∧
  (∀ (s : State) (p : Port) (f : List Byte), s.inReset = false → (s.dlv.port p).up = true → AgentWaits s →
    verdict s.device.node f = .accepted → frameKind f = 0x02 → frameDest f = s.device.node →
    8 ≤ s.agent.queue.length →
      exec (.frameReceived p f) s =
        .next { s with
          dlv := s.dlv.received p fun c => { c with rxFrames := c.rxFrames + 1 }
          agent := { s.agent with dropped := s.agent.dropped + 1 } }) ∧
  (∀ (s : State) (w : StreamWindow) (tag : BitVec 32) (k : Fin 32),
    enabledTarget s w tag = some k ↔ k.val = w.slotBase.val + (tag &&& ~~~w.mask).toNat ∧ (s.slot k).st ≠ .disabled) ∧
  (∀ (s : State) (p : Port) (f : List Byte), s.inReset = false → (s.dlv.port p).up = true → s.agent.queue = [] →
    verdict s.device.node f = .accepted → frameKind f = 0x01 →
    (let t := accepted p s
     let onward := State.offerPass (otherPort p) f
     let tag := sampleTag (framePayload f)
     let goesTo := fun t : State => exec (.frameReceived p f) s = .next t
     ((framePayload f).length < 4 →
       goesTo (onward { t with classifier := { t.classifier with noTag := t.classifier.noTag + 1 } })) ∧
     (4 ≤ (framePayload f).length → searchWindows s.classifier tag = none → goesTo (onward t)) ∧
     ∀ i : Fin 16, 4 ≤ (framePayload f).length → searchWindows s.classifier tag = some i →
       (s.classifier.windows[i].kind = .pass → goesTo (onward (hitCounted i t))) ∧
       (∀ k : Fin 32, enabledTarget s s.classifier.windows[i] tag = some k →
         (let taken := State.applySlot k ((s.slot k).take (timebase s) (framePayload f))
          (s.classifier.windows[i].kind = .sink → goesTo (taken (hitCounted i t))) ∧
          (s.classifier.windows[i].kind = .tap → goesTo (taken (onward (hitCounted i t)))))) ∧
       (enabledTarget s s.classifier.windows[i] tag = none → s.classifier.windows[i].kind = .tap →
         (let u := onward (hitCounted i t)
          goesTo { u with classifier := { u.classifier with noSlot := u.classifier.noSlot + 1 } })))) ∧
  (∀ (s : State) (k : Fin 32) (x : SlotStep),
    (let t := s.applySlot k x
     t.slots = s.slots.set k x.slot ∧ t = { s with slots := t.slots, points := t.points, finisher := t.finisher, dlv := t.dlv } ∧
     (x.left = false → x.lostChanged = false → x.entered = false → x.reacquired = false → x.delivered = [] →
       t = { s with slots := t.slots }) ∧
     (let ctx : PointCtx := { hsets := s.finisher.hsets, slots := t.slots }
      let afterLeft := fun p : Point => if x.left then (p.slotLeft ctx k).1 else p
      let afterEntered := fun p : Point => if x.entered then (p.slotEntered ctx k).1 else p
      (∀ i : Fin 24, t.point i =
        x.delivered.foldl (fun p r => (p.offerSet ctx k r).1) (afterEntered (afterLeft (s.point i)))) ∧
      (∃ u : State, (∀ i : Fin 24, u.point i = afterEntered (afterLeft (s.point i))) ∧
        (u.dlv.alert 1).occurrences = (s.dlv.alert 1).occurrences ∧
        u = { s with slots := t.slots, points := u.points, finisher := u.finisher, dlv := u.dlv } ∧
        t = x.delivered.foldl (fun v r => v.onPoints fun c => Point.offerSet c k r)
          (if x.reacquired then u.raise 1 k.val else u)) ∧
      (t.dlv.alert 1).occurrences = (s.dlv.alert 1).occurrences + (if x.reacquired then 1 else 0) ∧
      (let m := mapOf fun j : Fin 32 => decide ((t.slot j).st = .lost)
       x.lostChanged = true → (t.dlv.alert 0).active = decide (m ≠ 0) ∧ (t.dlv.alert 0).detail = BitVec.ofNat 32 m) ∧
      (x.lostChanged = false → (t.dlv.alert 0).active = (s.dlv.alert 0).active ∧
        (t.dlv.alert 0).detail = (s.dlv.alert 0).detail)))) ∧
  (∀ (s : State) (p : Port) (f : List Byte), s.inReset = false → (s.dlv.port p).up = true →
    verdict s.device.node f = .accepted → frameKind f = 0x02 → frameDest f ≠ s.device.node → frameDest f ≠ Config.broadcast →
      (let t := State.offerPass (otherPort p) f (accepted p s)
       exec (.frameReceived p f) s = .next t.agentRun ∧ (s.agent.queue = [] → exec (.frameReceived p f) s = .next t))) ∧
  (∀ (s : State) (o : Port) (f : List Byte),
    ((s.dlv.port o).up = false →
      s.offerPass o f = { s with dlv := s.dlv.count o fun c => { c with linkdownDrop := c.linkdownDrop + 1 } }) ∧
    (PortBusy s o → passRoom f (s.dlv.port o).pass = true →
      s.offerPass o f = { s with dlv := s.dlv.modPort o fun q => { q with pass := q.pass ++ [f] } })) ∧
  (∀ (s : State) (p : Port) (f : List Byte), s.inReset = false → (s.dlv.port p).up = true →
    verdict s.device.node f = .accepted → frameKind f = 0x02 →
    (let y := framePayload f
     (∀ c h k space index count data, rowFields c = some (h, k, space, index, count, data) → h.port = p →
       h.source = frameSource f → y = requestPayload h.tag (kindCode k) space index count data →
       (frameDest f = s.device.node → frameFlags f = 0 → AgentWaits s →
         exec (.frameReceived p f) s = exec c (accepted p s)) ∧
       (frameDest f = Config.broadcast → s.device.node ≠ Config.broadcast → TakenAtOnce s h →
         exec (.frameReceived p f) s = exec c (State.offerPass (otherPort p) f (accepted p s)))) ∧
     (∀ st : Status, frameDest f = s.device.node → s.agent.queue = [] → (s.dlv.port p).replyQ.length < 8 →
       (y.length < 8 ∧ st = .short ∨ 8 ≤ y.length ∧ kindOf (reqKind y) = none ∧ st = .badKind) →
       (let u := joined (accepted p s)
        (reqKind y ≠ 0x03 → exec (.frameReceived p f) s =
          .next (u.placeReply p { dest := frameSource f, source := s.device.node, tag := reqTag y, status := st
                                  kind := BitVec.ofNat 8 (reqKind y), count := 0, data := [] })) ∧
        (reqKind y = 0x03 → exec (.frameReceived p f) s =
          .next (State.raise { u with agent := { u.agent with postedRefused := u.agent.postedRefused + 1 } } 16
            ((reqTag y).toNat * 65536 + statusCode st))))))) ∧
  (∀ (off w : Nat) (y : List Byte), y.length < off + w → reqField off w y = 0)

/-- TRANSMISSION_END counts TX_FRAMES and frees the transmitter; with nothing waiting anywhere that is all (R11). With frames
waiting the next grant is made at once (R11, 1): the frame it chooses is under transmission, and its queue, the pass-through
counter, the current values and the last winner are those the grant leaves; the grant of a forwarded frame or a reply brings
about nothing more on the delivery side, that of an ALERT or RECORD frame what R156 and R143 bring about; then the agent tries its
head (R170, 3; notes/assumptions/14.md). With no frame under transmission nothing happens: the model's choice,
notes/assumptions/3.md. -/
def Obligations.TransmissionEndFreesThePort : Prop :=
  ∀ (s : State) (p : Port), s.inReset = false →
    ((s.dlv.port p).tx = none → exec (.transmissionEnd p) s = .next s) ∧
    ((s.dlv.port p).tx.isSome = true → NothingWaits (s.dlv.port p) → s.agent.queue = [] →
      exec (.transmissionEnd p) s =
        .next { s with dlv := s.dlv.modPort p fun q =>
          { q with tx := none, ctr := { q.ctr with txFrames := q.ctr.txFrames + 1 } } }) ∧
    ((s.dlv.port p).tx.isSome = true → (s.dlv.port p).up = true → ¬ NothingWaits (s.dlv.port p) →
      (let freed := s.dlv.modPort p fun q => { q with tx := none, ctr := { q.ctr with txFrames := q.ctr.txFrames + 1 } }
       let d := (grant s.env p freed).1
       let r := d.port p
       r.tx.isSome = true ∧ r.ctr.txFrames = (s.dlv.port p).ctr.txFrames + 1 ∧
       ∃ t : State, exec (.transmissionEnd p) s = .next t.agentRun ∧
        (s.agent.queue = [] → exec (.transmissionEnd p) s = .next t) ∧
        ((∀ f, r.tx = some (.pass f) → t = { s with dlv := d }) ∧ ∀ f, r.tx = some (.reply f) → t = { s with dlv := d }) ∧
        (let q := t.dlv.port p
         q.up = true ∧ q.tx = r.tx ∧ q.pass = r.pass ∧ q.replyQ = r.replyQ ∧ q.passCount = r.passCount ∧
         q.current = r.current ∧ q.lastWinner = r.lastWinner ∧ q.ctr = r.ctr ∧ r.reportQ <+: q.reportQ ∧
         r.alertQ.length ≤ q.alertQ.length) ∧
        t = { s with dlv := t.dlv }))

/-- The choice of a grant between pass-through and local frames, and the counter after it (R12). A local grant goes to a
waiting class of the lowest current value, and among those to the first in the circular order counted from the class
after the last winner: the head of that class's queue starts, the class is the last winner and takes its initial value,
and every other waiting class is lowered by 1, not below 0 (R11, R13, 1 to 3). The grant of an ALERT frame hands it over: an
EDGE entry returns to IDLE with pending and count clear, a LEVEL entry to IDLE awaiting acknowledgement, ALERT_FRAMES rises, and
the port is offered frames again (R156, 2, R159). A transmitter that is not free makes no grant. -/
def Obligations.GrantsFollowCounterAndPriorities : Prop :=
  (∀ (env : Env) (p : Port) (d : Delivery),
    (let q := d.port p
     let x := grant env p d
     let r := x.1.port p
     (q.free = false → x = (d, [])) ∧
     (q.free = true → q.passCount ≤ 3 →
       (∀ f rest, q.pass = f :: rest → q.localWaiting = false → r = { q with tx := some (.pass f), pass := rest, passCount := 0 }) ∧
       (∀ f rest, q.pass = f :: rest → q.localWaiting = true → q.passCount < 3 →
         r = { q with tx := some (.pass f), pass := rest, passCount := q.passCount + 1 }) ∧
       (q.localWaiting = true → q.pass = [] ∨ q.passCount = 3 → ∃ c, pickClass q = some c ∧
         r.lastWinner = some c ∧ r.passCount = 0 ∧ r.current.get c = env.priority.get c ∧
         (∀ b, b ≠ c → r.current.get b = if q.classWaiting b = true then q.current.get b - 1 else q.current.get b) ∧
         (c = .alert → ∃ f rest, q.alertQ = f :: rest ∧ r.tx = some (.alert f) ∧ r.alertQ = rest ∧
           r.replyQ = q.replyQ ∧ r.reportQ = q.reportQ ∧ x.2 = [.offers p] ∧
           (let e := d.alert f.number
            x.1.alerts = d.alerts.set f.number (if isLevel f.number
              then { e with queuedOn := none, awaiting := true, frames := e.frames + 1 }
              else { e with queuedOn := none, pending := none, count := 0, frames := e.frames + 1 }))) ∧
         (c ≠ .alert → x.1.alerts = d.alerts) ∧
         (c = .reply → ∃ f rest, q.replyQ = f :: rest ∧ r.tx = some (.reply f) ∧ r.replyQ = rest ∧
           r.alertQ = q.alertQ ∧ r.reportQ = q.reportQ) ∧
         (c = .report → ∃ f rest, q.reportQ = f :: rest ∧ r.tx = some (.report f) ∧ r.reportQ = rest ∧
           r.alertQ = q.alertQ ∧ r.replyQ = q.replyQ) ∧
         r.pass = q.pass ∧ r.up = q.up ∧ r.rx = q.rx ∧ r.ctr = q.ctr) ∧
       (q.pass ≠ [] → q.localWaiting = false ∨ q.passCount < 3 → x.1.alerts = d.alerts) ∧
       (q.pass = [] → q.localWaiting = false → x = (d, []))) ∧
     x.1.port (otherPort p) = d.port (otherPort p) ∧ x.1.channels = d.channels ∧ x.1.recq = d.recq)) ∧
  (∀ q : PortState, (pickClass q = none ↔ q.localWaiting = false) ∧
    ∀ c, pickClass q = some c → q.classWaiting c = true ∧
      ∀ b, q.classWaiting b = true → q.current.get c ≤ q.current.get b ∧
        (q.current.get b = q.current.get c → (classOrder q.lastWinner).idxOf c ≤ (classOrder q.lastWinner).idxOf b))

/-! ## Slots (chapter 2) -/

/-- A malformed frame (R29): it is counted FRAMES and MALFORMED, and changes nothing else. -/
def Obligations.MalformedFrameChangesNothingElse : Prop :=
  ∀ (now : Nat) (x : List Byte) (s : Slot),
    (malformed x = true ↔
      x.length < 14 ∨ 12800 ≤ field 8 2 x ∨ field 10 1 x = 0 ∨ 4 < field 10 1 x ∨ x.length ≠ 14 + 24 * field 10 1 x) ∧
    (malformed x = true →
      s.take now x =
        { slot := { s with ctr := { s.ctr with frames := s.ctr.frames + 1, malformed := s.ctr.malformed + 1 } } })

/-- Adoption from IDLE or LOST (R31): every usable frame is adopted, whatever its index. -/
def Obligations.IdleAndLostSlotsAdopt : Prop :=
  ∀ (now : Nat) (x : List Byte) (s : Slot), s.st = .idle ∨ s.st = .lost → malformed x = false →
    (sampleView x).sync = true → ((sampleView x).test = true → s.cfg.acceptTest = true) →
      (let y := s.take now x
       let v := sampleView x
       y.slot = { s with
         tag := some v.tag, expected := some (v.first + v.setCount), good := 1, lateRun := 0, lastUsable := some now
         st := .acquiring, ctr := { s.ctr with frames := s.ctr.frames + 1 } } ∧
       y.delivered = [] ∧ y.left = false ∧ y.entered = false ∧ (y.lostChanged = true ↔ s.st = .lost))

/-- What a slot does with a frame. It delivers the sets of a frame only in LOCKED, with indexes that rise by one from the
frame's first index, which is not below the expected index, and sets the expected index past them (R33, R34, R37). In
ACQUIRING and LOCKED a usable frame of another tag is counted TAG_CONFLICT (R32); one in sequence is delivered in LOCKED, raises
the good count in ACQUIRING, and locks the slot at the acquire count, with STREAM_REACQUIRED after a loss (R33, R39); one
after a gap within the max gap is delivered in LOCKED and counts GAP_SETS, and is otherwise re-adopted (R34; that it raises the
good count is the model's reading, notes/assumptions/24.md); one more than 12,800 sets late is re-adopted, another is counted
LATE, and the eighth in a run is re-adopted (R35). Re-adoption from LOCKED counts REACQUIRE and reports the leaving (R31). -/
def Obligations.DeliveredSetsRise : Prop :=
  (∀ (now : Nat) (x : List Byte) (s : Slot), (s.take now x).delivered ≠ [] →
    (let y := s.take now x
     let v := sampleView x
     y.slot.st = .locked ∧ y.delivered = v.sets ∧ y.delivered.map (·.index) = (List.range v.setCount).map (v.first + ·) ∧
       s.expected.getD 0 ≤ v.first ∧ y.slot.expected = some (v.first + v.setCount) ∧
       y.slot.ctr.sets = s.ctr.sets + BitVec.ofNat 32 v.setCount)) ∧
  (∀ (now e : Nat) (x : List Byte) (s : Slot), malformed x = false → (sampleView x).sync = true →
    ((sampleView x).test = true → s.cfg.acceptTest = true) → s.st = .acquiring ∨ s.st = .locked → s.expected = some e →
    (let v := sampleView x
     let y := s.take now x
     let ctr := { s.ctr with frames := s.ctr.frames + 1 }
     let passed := { s with lastUsable := some now, lateRun := 0, expected := some (v.first + v.setCount) }
     let more := if s.good < 64 then s.good + 1 else s.good
     let delivering := { ctr with sets := ctr.sets + BitVec.ofNat 32 v.setCount }
     let readopts := fun late : Counter =>
       y = { slot := { passed with
               tag := some v.tag, good := 1, st := .acquiring
               ctr := { ctr with
                 late := late, reacquire := if s.st = .locked then ctr.reacquire + 1 else ctr.reacquire } }
             left := decide (s.st = .locked) }
     (s.tag ≠ some v.tag → y = { slot := { s with ctr := { ctr with tagConflict := ctr.tagConflict + 1 } } }) ∧
     (s.tag = some v.tag →
       (v.first = e → s.st = .locked →
         y = { slot := { passed with good := more, ctr := delivering }, delivered := v.sets }) ∧
       (v.first = e → s.st = .acquiring → s.cfg.acquire ≤ s.good + 1 →
         y = { slot := { passed with good := s.good + 1, st := .locked, lostSeen := false, ctr := delivering }
               entered := true, reacquired := s.lostSeen, delivered := v.sets }) ∧
       (v.first = e → s.st = .acquiring → s.good + 1 < s.cfg.acquire →
         y = { slot := { passed with good := s.good + 1, ctr := ctr } }) ∧
       (∀ g, v.first = e + g → 0 < g → s.st = .locked → g ≤ s.cfg.maxGap →
         y = { slot := { passed with
                 good := more
                 ctr := { delivering with gapSets := ctr.gapSets + BitVec.ofNat 32 g } }
               delivered := v.sets }) ∧
       (∀ g, v.first = e + g → 0 < g → s.st = .acquiring ∨ s.cfg.maxGap < g → readopts ctr.late) ∧
       (v.first + 12800 < e → readopts ctr.late) ∧
       (v.first < e → e ≤ v.first + 12800 → 8 ≤ s.lateRun + 1 → readopts (ctr.late + 1)) ∧
       (v.first < e → e ≤ v.first + 12800 → s.lateRun + 1 < 8 →
         y = { slot := { s with
           lateRun := s.lateRun + 1, lastUsable := some now, ctr := { ctr with late := ctr.late + 1 } } }))))

/-- A window of point p is discarded for a reason with its elapsed samples, and q is left: the counter of the reason and
DISCARDED_WINDOWS rise by 1 and DISCARDED_SAMPLES by the elapsed samples, no window is handed over and no number is given, and
the open interval counts the discard (R76, R82, R118). -/
def Discarded (r : DiscardReason) (elapsed : Nat) (p q : Point) : Prop :=
  (let c := p.framer.ctr
   let d := q.framer.ctr
   let more := fun k : DiscardReason => if r = k then (1 : Counter) else 0
   d.discarded = c.discarded + 1 ∧ d.samples = c.samples + BitVec.ofNat 32 elapsed ∧ d.handed = c.handed ∧
     d.gap = c.gap + more .gap ∧ d.stepBack = c.stepBack + more .stepBack ∧ d.source = c.source + more .source ∧
     d.coverage = c.coverage + more .coverage ∧ d.finishLate = c.finishLate + more .finishLate) ∧
  q.framer.seq = p.framer.seq ∧
  q.ivl = { p.ivl with
    discardedWindows := min (p.ivl.discardedWindows + 1) 65535
    discardedSamples := min (p.ivl.discardedSamples + elapsed) 4294967295 }

/-- A window has been begun in a bank of q and not started: its length and clamped mark are the tracker's, its configuration that
in force, it has no crossings and no last values, the change mark is given to it, and its bank is ACTIVE with every sum 0 (R67,
R88). -/
def WindowBegun (ctx : PointCtx) (ix : BankIx) (mark : Bool) (q : Point) : Prop :=
  q.framer.st = .collecting ∧ q.changeMark = false ∧
    q.framer.bank ix = .active (BankSums.begin q.cfg q.framer.trk.nextLen ctx.hsets[q.cfg.hset]) ∧
    ∃ w, q.framer.window = some w ∧ w.bank = ix ∧ w.start = none ∧ w.pos = 0 ∧ w.covered = 0 ∧ w.bridgedCount = 0 ∧
      w.len = q.framer.trk.nextLen ∧ w.cfg = q.cfg ∧ w.expected = none ∧ w.lastVals = none ∧ w.firstCross = none ∧
      w.lastCross = none ∧ w.crossings = 0 ∧ w.lastReal = none ∧
      w.flags = { untracked := false, clamped := q.framer.trk.clampedMark, bridged := false, incomplete := false
                  firstAfterChange := mark }

/-- LOSS_TIMEOUT at the deadline: the slot becomes LOST and STREAM_LOST tells every LOST slot; before it, nothing happens
(R36, R39; that the row then changes nothing is the model's choice, notes/assumptions/3.md). A slot that was not LOCKED leaves
the points as they are; one that was LOCKED is reported to each (R38). A report to a point that follows the slot, with no
configuration pending, empties its queues (R59), and while the framer is in COLLECTING it gives up a window not started,
discards one under RESTART for SOURCE, and keeps one under BRIDGE or SKIP in HELD (R74, R76); when both sources are LOCKED
again, HELD goes back to COLLECTING with the window as it stands (R75), and WAITING goes to COLLECTING with a new window in a FREE
bank, the first when both are FREE (R66); with one of them not LOCKED only the source state is taken (R65). A report of a slot
that the point does not name, or to a disabled point, changes nothing (R38). -/
def Obligations.LossTimeoutMakesTheSlotLost : Prop :=
  (∀ (s : State) (k : Fin 32), s.inReset = false →
    ((s.slot k).lossDue (timebase s) = false → exec (.lossTimeout k) s = .next s) ∧
    ((s.slot k).lossDue (timebase s) = true → ∃ t, exec (.lossTimeout k) s = .next t ∧
      t.slots = s.slots.set k { s.slot k with st := .lost, tag := none, good := 0, lateRun := 0, lostSeen := true } ∧
      (t.dlv.alert 0).active = true ∧
      (t.dlv.alert 0).detail = BitVec.ofNat 32 (mapOf fun j : Fin 32 => decide ((t.slot j).st = .lost)) ∧
      ((s.slot k).st = .acquiring → t.points = s.points ∧ t.finisher = s.finisher) ∧
      ((s.slot k).st = .locked → ∀ i : Fin 24,
        t.point i = ((s.point i).slotLeft { hsets := s.finisher.hsets, slots := t.slots } k).1) ∧
      t.device = s.device ∧ t.classifier = s.classifier ∧ t.agent = s.agent ∧ t.clock = s.clock)) ∧
  (∀ (ctx : PointCtx) (k : Fin 32) (p : Point), p.cfg.enabled = true → p.cfg.vSlot = k ∨ p.cfg.iSlot = k →
    (let x := p.slotLeft ctx k
     let q := x.1
     p.waitingCfg = none →
       (q.cfg = p.cfg ∧ q.vLocked = (p.vLocked && decide (p.cfg.vSlot ≠ k)) ∧
         q.iLocked = (p.iLocked && decide (p.cfg.iSlot ≠ k)) ∧ q.vQueue = [] ∧ q.iQueue = [] ∧
         q.pair = { p.pair with
           unpaired := p.pair.unpaired + BitVec.ofNat 32 (p.vQueue.length + p.iQueue.length) }) ∧
       (p.framer.st ≠ .collecting → x.2 = [] ∧ q.framer = p.framer ∧ q.ivl = p.ivl) ∧
       ∀ w, p.framer.st = .collecting → p.framer.window = some w →
         (let givenUp := q.framer.st = .waiting ∧ q.framer.window = none ∧ q.framer.trk = p.framer.trk ∧
            (∀ ix b, q.framer.bank ix ≠ .active b) ∧ (∀ ix b, p.framer.bank ix = .out b → q.framer.bank ix = .out b) ∧
            q.changeMark = (p.changeMark || w.flags.firstAfterChange)
          (w.start = none → givenUp ∧ x.2 = [] ∧ q.framer.ctr = p.framer.ctr ∧ q.ivl = p.ivl) ∧
          (∀ first, w.start = some first → w.cfg.policy = .restart →
            givenUp ∧ x.2 = [.discarded .source] ∧ Discarded .source (w.expected.getD 0 - first) p q) ∧
          (∀ first, w.start = some first → w.cfg.policy ≠ .restart →
            x.2 = [] ∧ q.framer = { p.framer with st := .held } ∧ q.ivl = p.ivl ∧ q.changeMark = p.changeMark)))) ∧
  (∀ (ctx : PointCtx) (k : Fin 32) (p : Point), p.cfg.enabled = true → p.cfg.vSlot = k ∨ p.cfg.iSlot = k →
    p.framer.st = .held →
    (let v := p.vLocked || decide (p.cfg.vSlot = k)
     let c := p.iLocked || decide (p.cfg.iSlot = k)
     p.slotEntered ctx k =
       ({ p with vLocked := v, iLocked := c
                 framer := { p.framer with st := if v = true ∧ c = true then .collecting else .held } }, []))) ∧
  (∀ (ctx : PointCtx) (k : Fin 32) (p : Point),
    (let v := p.vLocked || decide (p.cfg.vSlot = k)
     let c := p.iLocked || decide (p.cfg.iSlot = k)
     let follows := p.cfg.enabled = true ∧ (p.cfg.vSlot = k ∨ p.cfg.iSlot = k)
     let ix : BankIx := if p.framer.bank1 = .free then .first else .second
     let q := (p.slotEntered ctx k).1
     (¬ follows → p.slotEntered ctx k = (p, []) ∧ p.slotLeft ctx k = (p, [])) ∧
     (follows → p.framer.st ≠ .held →
       (p.framer.st ≠ .waiting ∨ ¬ (v = true ∧ c = true) →
         p.slotEntered ctx k = ({ p with vLocked := v, iLocked := c }, [])) ∧
       (p.framer.st = .waiting → v = true → c = true →
         (p.slotEntered ctx k).2 = [] ∧ WindowBegun ctx ix p.changeMark q ∧
         q.framer.bank (otherBank ix) = p.framer.bank (otherBank ix) ∧ q.framer.trk = p.framer.trk ∧
         q.framer.seq = p.framer.seq ∧ q.framer.ctr = p.framer.ctr ∧
         q = { p with vLocked := v, iLocked := c, changeMark := false, framer := q.framer }))))

/-! ## Points (chapters 3 and 4) -/

/-- A calibrated value is the raw value times its gain over 16,384, rounded to the nearest integer with a half away from
zero, and limited to ±8,388,607: above, it is 8,388,607, below, it is -8,388,607 (R53; Conventions, Rounding). -/
def Obligations.CalibratedValuesAreLimited : Prop :=
  (∀ (n : Int) (d : Nat), 0 < d →
    2 * |d * roundDiv n d - n| ≤ d ∧ (2 * |d * roundDiv n d - n| = d → |n| < d * |roundDiv n d|)) ∧
  (∀ (r : Int) (g : Nat),
    -8388607 ≤ calibrate r g ∧ calibrate r g ≤ 8388607 ∧
    (calibrate r g = scaled r g ↔ -8388607 ≤ scaled r g ∧ scaled r g ≤ 8388607) ∧
    (8388607 < scaled r g → calibrate r g = 8388607) ∧ (scaled r g < -8388607 → calibrate r g = -8388607) ∧
    2 * |16384 * scaled r g - r * g| ≤ 16384 ∧
    (2 * |16384 * scaled r g - r * g| = 16384 → |r * g| < 16384 * |scaled r g|) ∧ (r = 0 → calibrate r g = 0))

/-- A set of one slot of a point with two (R55 to R57): the partner entries before its index are removed and counted UNPAIRED;
a partner head of its index pairs with it and is removed; a later head makes it UNPAIRED; with no partner left it joins the
tail of its own queue, whose oldest entry a full queue of 16 first drops as UNPAIRED with PAIRING_OVERFLOW. No set is lost, and
neither queue grows past 16. A point takes a set only while it is enabled with both sources LOCKED (R51); a set with a needed
channel invalid is counted INVALID_SETS alone (R52); a usable one is calibrated, and the pair goes to the framer counted PAIRED
(R53, R58); with one slot on both sides each usable set is its own pair (R54). A set is calibrated channel by channel with the
channel's own gain, the voltages on the V side and the currents on the I side, IN with use neutral on alone; a channel not taken
is 0; the values the clamp changed are counted, and one of them gives the set its clamp mark (R53, R55). -/
def Obligations.AlignmentAccountsForEverySet : Prop :=
  (∀ (own partner : List AlignEntry) (x : AlignEntry),
    (let a := align own partner x
     (own.length + partner.length + 1 =
         a.own.length + a.partner.length + a.unpaired + (if a.pairWith.isSome then 2 else 0) ∧
       (own.length ≤ 16 → a.own.length ≤ 16) ∧ a.partner.length ≤ partner.length) ∧
     ∃ low rest, partner = low ++ rest ∧ (∀ y ∈ low, y.index < x.index) ∧ (∀ y ∈ rest.head?, x.index ≤ y.index) ∧
       (∀ y ys, rest = y :: ys → y.index = x.index →
         a = { own := own, partner := ys, unpaired := low.length, overflow := false, pairWith := some y }) ∧
       (∀ y ys, rest = y :: ys → x.index < y.index →
         a = { own := own, partner := rest, unpaired := low.length + 1, overflow := false, pairWith := none }) ∧
       (rest = [] → own.length < 16 →
         a = { own := own ++ [x], partner := [], unpaired := low.length, overflow := false, pairWith := none }) ∧
       (rest = [] → 16 ≤ own.length →
         a = { own := own.drop 1 ++ [x], partner := [], unpaired := low.length + 1, overflow := true, pairWith := none }))) ∧
  (∀ (ctx : PointCtx) (vSide : Bool) (x : AlignEntry) (p : Point),
    (let a := if vSide then align p.vQueue p.iQueue x else align p.iQueue p.vQueue x
     let q := { p with
       vQueue := if vSide then a.own else a.partner
       iQueue := if vSide then a.partner else a.own
       pair := { p.pair with
         unpaired := p.pair.unpaired + BitVec.ofNat 32 a.unpaired
         overflow := if a.overflow then p.pair.overflow + 1 else p.pair.overflow } }
     (a.pairWith = none → p.alignSet ctx vSide x = (q, if a.overflow then [.overflow] else [])) ∧
     (∀ y, a.pairWith = some y →
       p.alignSet ctx vSide x = ({ q with pair := { q.pair with paired := q.pair.paired + 1 } }).frame ctx
         { index := x.index, vals := x.vals.zipWith (· + ·) y.vals, clamp := x.clamp || y.clamp }))) ∧
  (∀ (ctx : PointCtx) (k : Fin 32) (r : RawSet) (p : Point),
    (let x := p.offerSet ctx k r
     let v := decide (p.cfg.vSlot = k)
     let c := decide (p.cfg.iSlot = k)
     let takes := p.cfg.enabled = true ∧ p.vLocked = true ∧ p.iLocked = true ∧ (v = true ∨ c = true)
     let valid := (v = true → r.chan.va.isSome = true ∧ r.chan.vb.isSome = true ∧ r.chan.vc.isSome = true) ∧
       (c = true → r.chan.ia.isSome = true ∧ r.chan.ib.isSome = true ∧ r.chan.ic.isSome = true ∧
         (p.cfg.useNeutral = true → r.chan.inn.isSome = true))
     (¬ takes → x = (p, [])) ∧
     (takes → ¬ valid → x = ({ p with pair := { p.pair with invalidSets := p.pair.invalidSets + 1 } }, [])) ∧
     (takes → valid →
       (let y := calibrateSet p.cfg v c r
        let q := { p with pair := { p.pair with clampValues := p.pair.clampValues + BitVec.ofNat 32 y.2 } }
        (v = true → c = false → x = q.alignSet ctx true y.1) ∧ (v = false → c = true → x = q.alignSet ctx false y.1) ∧
        (v = true → c = true → x = ({ q with pair := { q.pair with paired := q.pair.paired + 1 } }).frame ctx
          { index := r.index, vals := y.1.vals, clamp := y.1.clamp }))))) ∧
  (∀ (cfg : PointCfg) (vSide iSide : Bool) (r : RawSet),
    (let y := calibrateSet cfg vSide iSide r
     let value := fun (taken : Bool) (x : Option Int) (g : Nat) =>
       if taken then (x.map fun raw => calibrate raw g).getD 0 else 0
     let changed := fun (taken : Bool) (x : Option Int) (g : Nat) =>
       taken && (x.map fun raw => decide (calibrate raw g ≠ scaled raw g)).getD false
     let inn := iSide && cfg.useNeutral
     y.1.index = r.index ∧
     y.1.vals.ia = value iSide r.chan.ia cfg.gains.ia ∧ y.1.vals.ib = value iSide r.chan.ib cfg.gains.ib ∧
     y.1.vals.ic = value iSide r.chan.ic cfg.gains.ic ∧ y.1.vals.inn = value inn r.chan.inn cfg.gains.inn ∧
     y.1.vals.va = value vSide r.chan.va cfg.gains.va ∧ y.1.vals.vb = value vSide r.chan.vb cfg.gains.vb ∧
     y.1.vals.vc = value vSide r.chan.vc cfg.gains.vc ∧
     y.2 = [changed iSide r.chan.ia cfg.gains.ia, changed iSide r.chan.ib cfg.gains.ib,
       changed iSide r.chan.ic cfg.gains.ic, changed inn r.chan.inn cfg.gains.inn, changed vSide r.chan.va cfg.gains.va,
       changed vSide r.chan.vb cfg.gains.vb, changed vSide r.chan.vc cfg.gains.vc].count true ∧
     (y.1.clamp = true ↔ 0 < y.2)))

/-- FREQ_UNTRACKED tells the untracked flags of the enabled points (R80). -/
def UntrackedTold (t : State) : Prop :=
  let m := mapOf fun j : Fin 24 => (t.point j).cfg.enabled && (t.point j).framer.trk.untracked
  (t.dlv.alert 4).active = decide (m ≠ 0) ∧ (t.dlv.alert 4).detail = BitVec.ofNat 32 m

/-- A write of a POINT entry in COLLECTING or HELD with enabled on is held as the pending configuration and changes nothing
else; while the point stays disabled the configuration is in force at once (R48). In WAITING with enabled on it is in force at
once: a change of a slot, use neutral or a gain empties the queues, counted UNPAIRED, and takes the source states afresh; a
change beyond the tan limit sets the change mark; a change of C or the nominal frequency makes the tracker nominal; and the
framer collects when both sources are LOCKED, with a window that takes the mark (R49, R66, R81).
An enable empties the queues and takes the source states afresh, sets the change mark, makes the tracker nominal and clears the
untracked flag with FREQ_UNTRACKED, and the framer waits, or collects when both sources are LOCKED, with a window that takes the
mark; all else of the point stays (R50, R66, R81). A disable empties the queues, counted UNPAIRED, drops the pending
configuration, the change mark, the window with its ACTIVE bank and the three flags, and updates their conditions (R50, R83,
R104); it removes the point's Finish Queue entry with its bank FREE, or abandons the finish under way with the bank OUT (R95); and
it closes the open interval with a RECONFIGURED record, or discards it when the Record Queue has no room (R123). The tracker is
kept but for the untracked flag; that the configuration stored by a disable has the effects of R49 on the source states and the
tracker is the model's reading (notes/assumptions/18.md), and the order of the condition updates within a disable, which decides
the room the interval's close finds, is its choice (notes/assumptions/42.md). -/
def Obligations.PointWriteFollowsTheFramerState : Prop :=
  ∀ (s : State) (i : Fin 24) (c : PointCfg),
    ((s.point i).framer.st = .collecting ∨ (s.point i).framer.st = .held → c.enabled = true →
      s.writePoint i.val c = s.setPoint i { s.point i with waitingCfg := some c }) ∧
    ((s.point i).framer.st = .disabled → c.enabled = false → ((s.writePoint i.val c).point i).cfg = c ∧
      ((s.writePoint i.val c).point i).framer.st = .disabled) ∧
    ((s.point i).framer.st = .disabled → c.enabled = true → ((s.writePoint i.val c).point i).cfg = c ∧
      ((s.writePoint i.val c).point i).framer.st ≠ .disabled ∧ ((s.writePoint i.val c).point i).vQueue = []) ∧
    ((s.point i).framer.st ≠ .disabled → c.enabled = false → ((s.writePoint i.val c).point i).cfg = c ∧
      ((s.writePoint i.val c).point i).framer.st = .disabled ∧ ((s.writePoint i.val c).point i).waitingCfg = none ∧
      ((s.writePoint i.val c).point i).ivl = .empty) ∧
  (∀ (s : State) (i : Fin 24) (c : PointCfg), (s.point i).framer.st = .waiting → c.enabled = true →
    (let o := s.point i
     let t := s.writePoint i.val c
     let p := t.point i
     let rebinds := o.cfg.vSlot ≠ c.vSlot ∨ o.cfg.iSlot ≠ c.iSlot ∨ o.cfg.useNeutral ≠ c.useNeutral ∨ o.cfg.gains ≠ c.gains
     let mark := o.changeMark || decide ({ o.cfg with tanLimit := c.tanLimit } ≠ c)
     p.cfg = c ∧ p.waitingCfg = o.waitingCfg ∧
     (rebinds → p.vQueue = [] ∧ p.iQueue = [] ∧
       p.pair.unpaired = o.pair.unpaired + BitVec.ofNat 32 (o.vQueue.length + o.iQueue.length) ∧
       (p.vLocked = true ↔ (s.slot c.vSlot).st = .locked) ∧ (p.iLocked = true ↔ (s.slot c.iSlot).st = .locked)) ∧
     (¬ rebinds → p.vQueue = o.vQueue ∧ p.iQueue = o.iQueue ∧ p.pair = o.pair ∧ p.vLocked = o.vLocked ∧
       p.iLocked = o.iLocked) ∧
     p.framer.trk = (if o.cfg.cycles ≠ c.cycles ∨ o.cfg.nominal ≠ c.nominal then nominalTracker c else o.framer.trk) ∧
     (¬ (p.vLocked = true ∧ p.iLocked = true) → p.framer.st = .waiting ∧ p.changeMark = mark ∧
       p.framer = { o.framer with trk := p.framer.trk }) ∧
     (p.vLocked = true → p.iLocked = true →
       WindowBegun s.ctx (if o.framer.bank1 = .free then .first else .second) mark p) ∧
     (∀ j : Fin 24, j ≠ i → t.point j = s.point j) ∧ t = { s with points := t.points, dlv := t.dlv })) ∧
  (∀ (s : State) (i : Fin 24) (c : PointCfg), (s.point i).framer.st = .disabled → c.enabled = true →
    (let o := s.point i
     let t := s.writePoint i.val c
     let p := t.point i
     let ix : BankIx := if o.framer.bank1 = .free then .first else .second
     p = { o with
       cfg := c, vQueue := [], iQueue := []
       pair := { o.pair with unpaired := o.pair.unpaired + BitVec.ofNat 32 (o.vQueue.length + o.iQueue.length) }
       vLocked := decide ((s.slot c.vSlot).st = .locked), iLocked := decide ((s.slot c.iSlot).st = .locked)
       changeMark := p.changeMark, framer := p.framer } ∧
     p.framer.trk = nominalTracker c ∧ p.framer.seq = o.framer.seq ∧ p.framer.ctr = o.framer.ctr ∧
     (¬ (p.vLocked = true ∧ p.iLocked = true) →
       p.changeMark = true ∧ p.framer = { o.framer with st := .waiting, trk := nominalTracker c }) ∧
     (p.vLocked = true → p.iLocked = true →
       WindowBegun s.ctx ix true p ∧ p.framer.bank (otherBank ix) = o.framer.bank (otherBank ix)) ∧
     (o.framer.trk.untracked = false → t.dlv = s.dlv) ∧ (o.framer.trk.untracked = true → UntrackedTold t) ∧
     (∀ j : Fin 24, j ≠ i → t.point j = s.point j) ∧ t = { s with points := t.points, dlv := t.dlv })) ∧
  (∀ (s : State) (i : Fin 24) (c : PointCfg), (s.point i).framer.st ≠ .disabled → c.enabled = false →
    (let o := s.point i
     let t := s.writePoint i.val c
     let p := t.point i
     let rebinds := o.cfg.vSlot ≠ c.vSlot ∨ o.cfg.iSlot ≠ c.iSlot ∨ o.cfg.useNeutral ≠ c.useNeutral ∨ o.cfg.gains ≠ c.gains
     let tracker := if o.cfg.cycles ≠ c.cycles ∨ o.cfg.nominal ≠ c.nominal then nominalTracker c else o.framer.trk
     let f := s.finisher
     let under := ∃ e rest, f.queue = e :: rest ∧ e.point = i ∧ f.active.isSome = true
     p = { o with
       cfg := c, waitingCfg := none, changeMark := false, vQueue := [], iQueue := []
       pair := { o.pair with unpaired := o.pair.unpaired + BitVec.ofNat 32 (o.vQueue.length + o.iQueue.length) }
       vLocked := if rebinds then decide ((s.slot c.vSlot).st = .locked) else o.vLocked
       iLocked := if rebinds then decide ((s.slot c.iSlot).st = .locked) else o.iLocked
       framer := { o.framer with
         st := .disabled, window := none, bank1 := p.framer.bank1, bank2 := p.framer.bank2
         trk := { tracker with untracked := false } }
       harmFlag := false, excessFlag := false, acc := p.acc, ivl := p.ivl, iau := p.iau } ∧
     (∀ ix b, p.framer.bank ix ≠ .active b) ∧
     (under → t.finisher = { f with active := f.active.map fun a => { a with abandoned := true } } ∧
       ∀ ix b, o.framer.bank ix = .out b → p.framer.bank ix = .out b) ∧
     (¬ under → t.finisher = { f with queue := t.finisher.queue } ∧ (∀ e ∈ t.finisher.queue, e.point ≠ i) ∧
       t.finisher.queue.filter (fun e => e.point ≠ i) = (f.queue.filter fun e => e.point ≠ i) ∧
       (∀ e ∈ f.queue, e.point = i → (∀ x ∈ f.queue, x.point = i → x = e) → p.framer.bank e.bank = .free) ∧
       ∀ ix b, o.framer.bank ix = .out b → (∀ e ∈ f.queue, e.point = i → e.bank ≠ ix) → p.framer.bank ix = .out b) ∧
     (∃ room,
       (let close := o.closeNow i false room
        s.dlv.recq.freeWords ≤ room ∧ room ≤ Config.queueWords ∧
        (o.framer.trk.untracked = false → room = s.dlv.recq.freeWords) ∧
        p.acc = close.1.acc ∧ p.ivl = close.1.ivl ∧ p.iau = close.1.iau ∧
        t.dlv.recq.appended = s.dlv.recq.appended + (if close.2.isSome then 1 else 0) ∧
        ((∀ q : Port, (s.dlv.port q).free = false) → (∀ k : Fin 4, (s.dlv.channel k).st ≠ .armed) →
          t.dlv.recq.records = s.dlv.recq.records ++ close.2.toList))) ∧
     (o.framer.trk.untracked = true → UntrackedTold t) ∧
     (o.framer.trk.untracked = false →
       (t.dlv.alert 4).active = (s.dlv.alert 4).active ∧ (t.dlv.alert 4).detail = (s.dlv.alert 4).detail) ∧
     (∀ n : Fin 20, n = 5 ∨ n = 6 →
       (let m := mapOf fun j : Fin 24 => (t.point j).cfg.enabled &&
          (if n = 5 then (t.point j).harmFlag else (t.point j).excessFlag)
        (t.dlv.alert n).active = decide (m ≠ 0) ∧ (t.dlv.alert n).detail = BitVec.ofNat 32 m)) ∧
     (∀ j : Fin 24, j ≠ i → t.point j = s.point j) ∧
     t = { s with points := t.points, finisher := t.finisher, dlv := t.dlv })) ∧
  (∀ c : PointCfg,
    (let hz := if c.nominal = .hz50 then 50 else 60
     nominalTracker c =
       { period := if c.nominal = .hz50 then 65536 else 54613, nextLen := roundDivNat (c.cycles * 12800) hz
         clampedMark := false, freq := hz * 1000, run := 0, untracked := false }))

/-- The signals a bank sums (R88): IN only with use neutral on. -/
def summedSignals (neutral : Bool) : List (Seven Int → Int) :=
  [Seven.ia, Seven.ib, Seven.ic, Seven.va, Seven.vb, Seven.vc] ++ if neutral then [Seven.inn] else []

/-- A paired set reaches a framer in COLLECTING (R68, R71 to R73). A window not started takes it at position 0. A set g positions
ahead of the expected one within the window, in sequence, bridged under BRIDGE within the limit or skipped to under SKIP, is
taken at its position; the expected index and the coverage follow, the bridged positions are counted, the ACTIVE bank takes the
bridged positions with the last values and then the set, and the other bank and everything beyond the framer stay; at position
L - 1 the window then ends (R69). A gap under RESTART or beyond the bridge limit, and a step back, discard the window for GAP
or STEP_BACK, and the set starts the next one in the same bank (R71, R73, R76). A gap that skips or bridges past the end of the
window ends it, and the set starts the next one (R71, R72; with a pending configuration as the model reads it,
notes/assumptions/15.md). A window begun has a bank of the orders of its harmonic set with every sum 0 (R88), and a position
added changes each sum by the value times the twiddle entry of its index, or by its square (R89). A set taken at a position is
examined for a zero crossing: one lies between two real positions in a row at which VA goes from below 0 to 0 or above, in 1/256
of a position rounded down (R77); the window's first is accepted, and a later one that lies at least floor(3 × P / 4) beyond the
last accepted (R78). -/
def Obligations.WindowTakesTheNextSet : Prop :=
  (∀ (ctx : PointCtx) (p : Point) (x : PairedSet) (w : Window),
    p.framer.st = .collecting → p.framer.window = some w → w.start = none → 1 < w.len →
      ∃ (q : Point) (v : Window), p.frame ctx x = (q, []) ∧ q.framer.window = some v ∧ v.start = some x.index ∧
        v.expected = some (x.index + 1) ∧ v.pos = 1 ∧ v.covered = w.covered + 1 ∧ v.lastVals = some x.vals ∧
        v.flags = { w.flags with clamped := w.flags.clamped || x.clamp } ∧ v.len = w.len ∧ v.cfg = w.cfg ∧ v.bank = w.bank ∧
        v.lastReal = some 0 ∧ v.firstCross = w.firstCross ∧ v.lastCross = w.lastCross ∧ v.crossings = w.crossings ∧
        (∀ b, p.framer.bank w.bank = .active b → q.framer.bank w.bank = .active (b.add 0 x.vals)) ∧
        q = { p with framer := q.framer }) ∧
  (∀ (ctx : PointCtx) (p : Point) (x : PairedSet) (w : Window) (first g : Nat),
    p.framer.st = .collecting → p.framer.window = some w → w.start = some first → w.expected = some (first + w.pos) →
    x.index = first + w.pos + g → (g = 0 ∨ w.cfg.policy = .bridge ∧ g ≤ w.cfg.bridgeLimit ∨ w.cfg.policy = .skip) →
    w.pos + g + 1 ≤ w.len →
      (let bridged := if w.cfg.policy = .bridge then g else 0
       ∃ (q : Point) (v : Window), p.frame ctx x = (if w.pos + g + 1 = w.len then q.windowEnd ctx else (q, [])) ∧
        q.framer.window = some v ∧ v.expected = some (x.index + 1) ∧ v.pos = w.pos + g + 1 ∧ v.covered = w.covered + 1 ∧
        v.bridgedCount = w.bridgedCount + bridged ∧
        v.flags = { w.flags with
          clamped := w.flags.clamped || x.clamp, bridged := w.flags.bridged || decide (0 < bridged) } ∧
        v.start = w.start ∧ v.len = w.len ∧ v.cfg = w.cfg ∧ v.bank = w.bank ∧ v.lastVals = some x.vals ∧
        v.lastReal = some (w.pos + g) ∧
        (let z := w.examine p.framer.trk.period (w.pos + g) x.vals.va
         v.firstCross = z.firstCross ∧ v.lastCross = z.lastCross ∧ v.crossings = z.crossings) ∧
        (∀ b, p.framer.bank w.bank = .active b → q.framer.bank w.bank =
          .active (((List.range bridged).foldl (fun a j => a.add (w.pos + j) (w.lastVals.getD (.const 0))) b).add
            (w.pos + g) x.vals)) ∧
        q.framer.bank (otherBank w.bank) = p.framer.bank (otherBank w.bank) ∧ q.framer.trk = p.framer.trk ∧
        q.framer.st = .collecting ∧ q.framer.seq = p.framer.seq ∧
        q.framer.ctr = { p.framer.ctr with bridgedSets := p.framer.ctr.bridgedSets + BitVec.ofNat 32 bridged } ∧
        q = { p with framer := q.framer })) ∧
  (∀ (ctx : PointCtx) (p : Point) (x : PairedSet) (w : Window) (first e : Nat) (r : DiscardReason),
    p.framer.st = .collecting → p.framer.window = some w → w.start = some first → w.expected = some e →
    (r = .gap ∧ e < x.index ∧ (w.cfg.policy = .restart ∨ w.cfg.policy = .bridge ∧ w.cfg.bridgeLimit < x.index - e) ∨
      r = .stepBack ∧ x.index < e) →
    p.waitingCfg = none → p.vLocked = true → p.iLocked = true → 1 < p.framer.trk.nextLen →
      ∃ (q : Point) (v : Window), p.frame ctx x = (q, [.discarded r]) ∧ Discarded r (e - first) p q ∧ q.framer.st = .collecting ∧
        q.framer.window = some v ∧ v.start = some x.index ∧ v.expected = some (x.index + 1) ∧ v.pos = 1 ∧ v.covered = 1 ∧
        v.bridgedCount = 0 ∧ v.len = p.framer.trk.nextLen ∧ v.cfg = p.cfg ∧ v.bank = w.bank ∧
        v.firstCross = none ∧ v.lastCross = none ∧ v.crossings = 0 ∧ v.lastReal = some 0 ∧ v.lastVals = some x.vals ∧
        v.flags.firstAfterChange = (p.changeMark || w.flags.firstAfterChange) ∧ q.changeMark = false ∧
        q.framer.bank w.bank =
          .active ((BankSums.begin p.cfg p.framer.trk.nextLen ctx.hsets[p.cfg.hset]).add 0 x.vals) ∧
        q.framer.bank (otherBank w.bank) = p.framer.bank (otherBank w.bank) ∧ q.framer.trk = p.framer.trk) ∧
  (∀ (ctx : PointCtx) (p : Point) (x : PairedSet) (w : Window) (first g : Nat),
    p.framer.st = .collecting → p.framer.window = some w → w.start = some first → w.expected = some (first + w.pos) →
    w.pos < w.len → x.index = first + w.pos + g → w.len ≤ w.pos + g →
    (w.cfg.policy = .skip → p.frame ctx x = (p.windowEnd ctx).andThen (Point.startWith ctx x)) ∧
    (w.cfg.policy = .bridge → g ≤ w.cfg.bridgeLimit →
      ∃ (q : Point) (v : Window), p.frame ctx x = (q.windowEnd ctx).andThen (Point.startWith ctx x) ∧ q.framer.window = some v ∧ v.pos = w.len ∧
        v.len = w.len ∧ v.covered = w.covered ∧ v.bridgedCount = w.bridgedCount + (w.len - w.pos) ∧
        (∀ b, p.framer.bank w.bank = .active b → q.framer.bank w.bank = .active
          ((List.range (w.len - w.pos)).foldl (fun a j => a.add (w.pos + j) (w.lastVals.getD (.const 0))) b)) ∧
        q.framer.bank (otherBank w.bank) = p.framer.bank (otherBank w.bank))) ∧
  (∀ (ctx : PointCtx) (ix : BankIx) (p : Point),
    (let q := p.beginWindow ctx ix
     ∃ b w, q.framer.bank ix = .active b ∧ q.framer.window = some w ∧ w.bank = ix ∧ w.start = none ∧ w.pos = 0 ∧
       w.len = p.framer.trk.nextLen ∧ w.cfg = p.cfg ∧ b.neutral = p.cfg.useNeutral ∧ b.cycles = p.cfg.cycles ∧ b.len = w.len ∧
       b.orders.map (·.order) = ctx.hsets[p.cfg.hset] ∧ b.ss = .const 0 ∧
       ∀ o ∈ b.orders, o.re = .const 0 ∧ o.im = .const 0)) ∧
  (∀ (b : BankSums) (n : Nat) (x : Seven Int),
    (let y := b.add n x
     y.neutral = b.neutral ∧ y.cycles = b.cycles ∧ y.len = b.len ∧ y.orders.length = b.orders.length ∧
     (∀ sig ∈ summedSignals b.neutral, sig y.ss = sig b.ss + sig x ^ 2) ∧
     ∀ (j : Nat) (o : OrderSums), b.orders[j]? = some o → ∃ z, y.orders[j]? = some z ∧ z.order = o.order ∧
       (let idx := ((2 * (o.order * b.cycles) * n * 4096 + b.len) / (2 * b.len)) % 4096
        ∀ sig ∈ summedSignals b.neutral,
          sig z.re = sig o.re + sig x * twiddleCos idx ∧ sig z.im = sig o.im - sig x * twiddleSin idx))) ∧
  (∀ (period n : Nat) (va : Int) (w : Window),
    (let v := w.examine period n va
     let crosses := fun pos : Nat => ∃ (r f : Nat) (y : Seven Int), w.lastReal = some r ∧ w.lastVals = some y ∧ r + 1 = n ∧
       y.va < 0 ∧ 0 ≤ va ∧ pos = (n - 1) * 256 + f ∧ (f : Int) * (va - y.va) ≤ 256 * -y.va ∧
       256 * -y.va < ((f : Int) + 1) * (va - y.va)
     ((∀ pos, ¬ crosses pos) → v = w) ∧
     (∀ pos, crosses pos →
       (w.lastCross = none → v = { w with firstCross := some pos, lastCross := some pos, crossings := 1 }) ∧
       (∀ l, w.lastCross = some l → l + 3 * period / 4 ≤ pos →
         v = { w with lastCross := some pos, crossings := w.crossings + 1 }) ∧
       (∀ l, w.lastCross = some l → pos < l + 3 * period / 4 → v = w))))

/-- The tracker's choice at a window end (R79, R80). A window has a valid period when it accepted at least two crossings and
round((last - first) / (K - 1)) lies in 46,812..81,920. It sets P, the frequency and the next length, at least 1,097 and at most
4,096, to which a longer one is lowered with the clamped mark; that a length not lowered clears the mark is the model's reading
(notes/assumptions/16.md). Without one the length and the mark stay; the third in a run falls back to the nominal length and P,
with the mark clear, and sets the untracked flag. That the nominal values are then those of the ended window's copy is the
model's reading (notes/assumptions/17.md). Then, with both sources LOCKED and no
configuration pending (R69): a window with skipped positions and too little coverage is discarded for COVERAGE; one that finds
the other bank not FREE is discarded for FINISH_LATE; any other is handed over, its bank OUT, with the next sequence number and
its description (R70, R72), and the next window is begun in the other bank; after a discard it is begun in the same bank (R76).
A pending configuration is in force afterwards (R49). A handed-over window joins the tail of the Finish Queue (R93), and a
discard raises WINDOW_DISCARDED. -/
def Obligations.TrackerChoosesTheNextLength : Prop :=
  (∀ (w : Window) (t : Tracker), 6 ≤ w.cfg.cycles → w.cfg.cycles ≤ 16 →
    (∀ p, w.validPeriod = some p →
      (let u := t.evaluate w
       let len := roundDivNat (w.cfg.cycles * p) 256
       u.period = p ∧ u.freq = roundDivNat 3276800000 p ∧ u.run = 0 ∧ u.untracked = false ∧ u.nextLen = min len 4096 ∧
         u.clampedMark = decide (4096 < len) ∧ 1097 ≤ u.nextLen)) ∧
    (w.validPeriod = none → t.run + 1 < 3 → t.evaluate w = { t with nextLen := w.len, run := t.run + 1 }) ∧
    (w.validPeriod = none → 3 ≤ t.run + 1 →
      (let u := t.evaluate w
       u.run = 3 ∧ u.untracked = true ∧ u.freq = t.freq ∧ u.clampedMark = false ∧ 1280 ≤ u.nextLen ∧ u.nextLen ≤ 4096 ∧
         (w.cfg.nominal = .hz50 → u.period = 65536 ∧ u.nextLen = roundDivNat (w.cfg.cycles * 12800) 50) ∧
         (w.cfg.nominal = .hz60 → u.period = 54613 ∧ u.nextLen = roundDivNat (w.cfg.cycles * 12800) 60)))) ∧
  (∀ (w : Window) (p : Nat), w.validPeriod = some p ↔
    2 ≤ w.crossings ∧ 46812 ≤ p ∧ p ≤ 81920 ∧
      p = roundDivNat (w.lastCross.getD 0 - w.firstCross.getD 0) (w.crossings - 1)) ∧
  (∀ n d q : Nat, 0 < d → (roundDivNat n d = q ↔ 2 * (d * q) ≤ 2 * n + d ∧ 2 * n + d < 2 * (d * (q + 1)))) ∧
  (∀ (ctx : PointCtx) (p : Point) (w : Window), p.framer.window = some w →
    (let x := p.windowEnd ctx
     x.1.waitingCfg = none ∧ x.1.cfg = p.waitingCfg.getD p.cfg)) ∧
  (∀ (ctx : PointCtx) (p : Point) (w : Window) (b : BankSums), p.framer.window = some w →
    p.framer.bank w.bank = .active b → p.waitingCfg = none → p.vLocked = true → p.iLocked = true →
    (let x := p.windowEnd ctx
     let q := x.1
     let t := p.framer.trk.evaluate w
     let short := w.covered + w.bridgedCount < w.len
     let passes := ¬ short ∨ w.cfg.minCoverage * w.len ≤ w.covered * 100
     let free := p.framer.bank (otherBank w.bank) = .free
     let discards := fun r : DiscardReason => Discarded r w.len p q ∧ x.2.getLast? = some (.discarded r) ∧
       WindowBegun ctx w.bank (p.changeMark || w.flags.firstAfterChange) q ∧
       q.framer.bank (otherBank w.bank) = p.framer.bank (otherBank w.bank)
     q.framer.trk = t ∧
     q.framer.ctr.untrackedWindows = p.framer.ctr.untrackedWindows + (if w.validPeriod = none then 1 else 0) ∧
     (.untracked t.untracked ∈ x.2 ↔ t.untracked ≠ p.framer.trk.untracked) ∧
     (¬ passes → discards .coverage) ∧ (passes → ¬ free → discards .finishLate) ∧
     (passes → free → q.framer.bank w.bank = .out b ∧ q.framer.seq = p.framer.seq + 1 ∧
       q.framer.ctr.handed = p.framer.ctr.handed + 1 ∧ q.framer.ctr.discarded = p.framer.ctr.discarded ∧ q.ivl = p.ivl ∧
       WindowBegun ctx (otherBank w.bank) p.changeMark q ∧
       ∃ e, x.2.getLast? = some (.handOver e) ∧ e.bank = w.bank ∧ e.seq = p.framer.seq + 1 ∧ e.start = w.start.getD 0 ∧
         e.len = w.len ∧ e.covered = w.covered ∧ e.bridgedCount = w.bridgedCount ∧ e.freq = t.freq ∧ e.cfg = w.cfg ∧
         e.flags = { w.flags with untracked := w.validPeriod.isNone, incomplete := decide short }))) ∧
  (∀ (s : State) (i : Fin 24) (e : FinishEntry), ∃ t, s.pointEvent i (.handOver e) = t ∧
    t.finisher.queue = s.finisher.queue ++ [{ e with point := i }] ∧ t = { s with finisher := t.finisher } ∧
    t.finisher.peak = max s.finisher.peak (s.finisher.queue.length + 1)) ∧
  (∀ (s : State) (i : Fin 24) (r : DiscardReason),
    s.pointEvent i (.discarded r) = s.raise 3 (i.val * 65536 + reasonCode r))

/-! ## Finisher (chapter 5) -/

/-- FINISH_BEGIN (R92, R94): the idle Finisher begins the head entry, due 1,000 + 250 × n microseconds later, with the
profile as it stands; with a Finisher at work or an empty queue nothing changes (notes/assumptions/3.md and 8.md). -/
def Obligations.FinishBeginReadsTheProfile : Prop :=
  ∀ s : State, s.inReset = false →
    (∀ (e : FinishEntry) (rest : List FinishEntry) (b : BankSums), s.finisher.active = none → s.finisher.queue = e :: rest →
      (s.point e.point).framer.bank e.bank = .out b →
        exec .finishBegin s = .next { s with finisher := { s.finisher with
          active := some { due := s.clock + (1000 + 250 * b.orders.length), limits := s.finisher.limits[e.cfg.limit]
                           abandoned := false } } }) ∧
    (s.finisher.active.isSome = true ∨ s.finisher.queue = [] → exec .finishBegin s = .next s)

/-- What the Finisher begins when the head of its queue has left (R94): the next head, due after the duration of its
orders with the limit profile as it stands, or nothing. -/
def NextFinishBegun (s t : State) : Prop :=
  (s.finisher.queue.drop 1 = [] → t.finisher.active = none) ∧
  ∀ (e : FinishEntry) (rest : List FinishEntry) (b : BankSums), s.finisher.queue.drop 1 = e :: rest →
    (t.point e.point).framer.bank e.bank = .out b → t.finisher.active =
      some { due := s.clock + (1000 + 250 * b.orders.length), limits := s.finisher.limits[e.cfg.limit], abandoned := false }

/-- FINISH_COMPLETE when the duration has passed, step by step (R94, R102): the result; the flags, with HARMONIC_LIMIT and
REACTIVE_EXCESS told by them (R104); the window accounted into the point's interval and accumulators with the room the
Record Queue then has, and its record, if one is built, appended (R105, R114, R121); the WAITING tickets of the point READY
with their copy (R199); the bank FREE, the window counted, the entry gone and the next finish begun. No other point, slot,
table or configuration changes. Otherwise nothing happens (notes/assumptions/3.md). -/
def Obligations.FinishCompletePublishes : Prop :=
  ∀ s : State, s.inReset = false →
    (s.dueFinish false = none → exec .finishComplete s = .next s) ∧
    (∀ (e : FinishEntry) (a : ActiveFinish) (b : BankSums), s.dueFinish false = some (e, a) →
      (s.point e.point).framer.bank e.bank = .out b → ∃ (t : State) (room : Nat), exec .finishComplete s = .next t ∧
        (let r := finishResult e b a.limits
         let p := s.point e.point
         let x := p.account e.point s.device.intervalLen room r
         t.point e.point = { x.point with
           result := some r, harmFlag := anyExceed r, excessFlag := decide (0 < r.excess)
           framer := p.framer.setBank e.bank .free, finished := p.finished + 1 } ∧
         s.dlv.recq.freeWords ≤ room ∧ room ≤ Config.queueWords ∧
         t.dlv.recq.appended = s.dlv.recq.appended + (if x.appended.isSome then 1 else 0) ∧
         ((∀ q : Port, (s.dlv.port q).free = false) → (∀ c : Fin 4, (s.dlv.channel c).st ≠ .armed) →
           room = s.dlv.recq.freeWords ∧ t.dlv.recq.records = s.dlv.recq.records ++ x.appended.toList)) ∧
        (∀ i : Fin 24, i ≠ e.point → t.point i = s.point i) ∧
        (∀ n : Fin 20, n = 5 ∨ n = 6 →
          (let m := mapOf fun i : Fin 24 => (t.point i).cfg.enabled &&
             (if n = 5 then (t.point i).harmFlag else (t.point i).excessFlag)
           (t.dlv.alert n).active = decide (m ≠ 0) ∧ (t.dlv.alert n).detail = BitVec.ofNat 32 m)) ∧
        t.agent = { s.agent with
          tickets := s.agent.tickets.map (Ticket.complete e.point (timebase s) (t.point e.point)) } ∧
        t.finisher = { s.finisher with queue := s.finisher.queue.drop 1, active := t.finisher.active } ∧
        NextFinishBegun s t ∧
        (∀ n : Fin 20, (t.dlv.alert n).cfg = (s.dlv.alert n).cfg) ∧
        (∀ c : Fin 4, (t.dlv.channel c).cfg = (s.dlv.channel c).cfg) ∧
        t = { s with points := t.points, finisher := t.finisher, dlv := t.dlv, agent := t.agent })

/-- ABANDONED_FINISH when the duration has passed: the bank is FREE, ABANDONED_FINISHES rises, the entry is gone, the next
finish is begun (R94), and nothing else of the part changes (R95). Otherwise nothing happens (notes/assumptions/3.md). -/
def Obligations.AbandonedFinishOnlyFrees : Prop :=
  ∀ s : State, s.inReset = false →
    (s.dueFinish true = none → exec .abandonedFinish s = .next s) ∧
    (∀ (e : FinishEntry) (a : ActiveFinish), s.dueFinish true = some (e, a) → ∃ t, exec .abandonedFinish s = .next t ∧
      t.point e.point = { s.point e.point with framer := (s.point e.point).framer.setBank e.bank .free } ∧
      (∀ i : Fin 24, i ≠ e.point → t.point i = s.point i) ∧
      t.finisher = { s.finisher with
        queue := s.finisher.queue.drop 1, active := t.finisher.active
        abandonedCount := s.finisher.abandonedCount + 1 } ∧
      NextFinishBegun s t ∧ t = { s with points := t.points, finisher := t.finisher })

/-- Of a window's result: the phasors of each order, rounded and clamped, with CLAMPED when the clamp changes one (R96), its
active and reactive power (R97) and its exceed flag (R99); total and non-fundamental squared RMS of the currents (R98), the
non-fundamental exceed flag (R100) and the reactive excess (R101). The divisor is the covered count of a PARTIAL window and the
length of any other. -/
def Obligations.ResultTotalsAndExcess : Prop :=
  ∀ (e : FinishEntry) (b : BankSums) (l : LimitProfile),
    (let r := finishResult e b l
     let f := fundamental r.orders
     let d := if e.flags.incomplete = true then e.covered else e.len
     let split := fun (ss re im : Int) (c : CurrentTotals) =>
       c.total = (ss / d).toNat ∧ c.nonFund = c.total - ((re ^ 2 + im ^ 2) / 2).toNat
     (split b.ss.ia f.re.ia f.im.ia r.ia ∧ split b.ss.ib f.re.ib f.im.ib r.ib ∧ split b.ss.ic f.re.ic f.im.ic r.ic ∧
       (b.neutral = true → split b.ss.inn f.re.inn f.im.inn r.inn) ∧ (b.neutral = false → r.inn = ⟨0, 0⟩)) ∧
     (r.nonFundExceed = true ↔
       l.nonFund ≠ 0 ∧ (l.nonFund ^ 2 < r.ia.nonFund ∨ l.nonFund ^ 2 < r.ib.nonFund ∨ l.nonFund ^ 2 < r.ic.nonFund)) ∧
     (r.excess : Int) = max 0 (|f.q| - e.cfg.tanLimit * |f.p| / 1000) ∧
     (let part := fun sum : Int => roundDiv (2 * sum) (32767 * d)
      let bounded := fun x : Int => max (-16777215) (min 16777215 x)
      r.orders.length = b.orders.length ∧
      (∀ (j : Nat) (o : OrderSums), b.orders[j]? = some o → ∃ x, r.orders[j]? = some x ∧ x.order = o.order ∧
        (∀ sig ∈ summedSignals true, sig x.re = bounded (part (sig o.re)) ∧ sig x.im = bounded (part (sig o.im))) ∧
        x.p = roundDiv (x.re.va * x.re.ia + x.im.va * x.im.ia + (x.re.vb * x.re.ib + x.im.vb * x.im.ib) +
          (x.re.vc * x.re.ic + x.im.vc * x.im.ic)) 200000 ∧
        x.q = roundDiv (x.im.va * x.re.ia - x.re.va * x.im.ia + (x.im.vb * x.re.ib - x.re.vb * x.im.ib) +
          (x.im.vc * x.re.ic - x.re.vc * x.im.ic)) 200000 ∧
        (x.exceed = true ↔ 2 ≤ x.order ∧
          ((l.order x.order ≠ 0 ∧ ∃ sig ∈ [Seven.ia, Seven.ib, Seven.ic],
              2 * (l.order x.order : Int) ^ 2 < sig x.re ^ 2 + sig x.im ^ 2) ∨
           (b.neutral = true ∧ x.order % 3 = 0 ∧ l.triplen ≠ 0 ∧ 2 * (l.triplen : Int) ^ 2 < x.re.inn ^ 2 + x.im.inn ^ 2)))) ∧
      (r.flags.clamped = true ↔ e.flags.clamped = true ∨ ∃ o ∈ b.orders, ∃ sig ∈ summedSignals true,
        bounded (part (sig o.re)) ≠ part (sig o.re) ∨ bounded (part (sig o.im)) ≠ part (sig o.im))))

/-! ## Interval accounting (chapter 6) -/

/-- The seven fundamental whole units of a record, or zeros when none was built. -/
def recordedUnits : Option IntervalRecord → List Nat
  | none => [0, 0, 0, 0, 0, 0, 0]
  | some r => [r.activeImp, r.activeExp, r.q1, r.q2, r.q3, r.q4, r.excess]

/-- Each fundamental accumulator as one number: whole units times the divisor, plus the remainder (R111). -/
def heldUnits (a : Accumulators) : List Nat :=
  [a.activeImp, a.activeExp, a.q1, a.q2, a.q3, a.q4, a.excess].map fun x => x.whole * Config.fundDivisor + x.rem

/-- The increments of a window (R115, R116). -/
def windowUnits (r : WindowResult) : List Nat :=
  let f := fundamental r.orders
  let p := f.p.natAbs * r.len
  let q := f.q.natAbs * r.len
  [if 0 ≤ f.p then p else 0, if f.p < 0 then p else 0, if 0 < f.q ∧ 0 ≤ f.p then q else 0,
   if 0 < f.q ∧ f.p < 0 then q else 0, if f.q < 0 ∧ f.p < 0 then q else 0, if f.q < 0 ∧ 0 ≤ f.p then q else 0,
   r.excess * r.len]

/-- Harmonic import and export of order h that a record carries away: those of its block of the order, if it has one. -/
def recordedHarm (h : Nat) (x : Option IntervalRecord) : Nat × Nat :=
  match x with
  | none => (0, 0)
  | some r => ((r.blocks.find? fun b => b.order == h).map fun b => (b.imp, b.exp)).getD (0, 0)

/-- A harmonic accumulator as one number (R111). -/
def heldHarm (a : Accum) : Nat := a.whole * Config.harmDivisor + a.rem

/-- The increments of a window for the orders h, import or export as `f` selects by the sign of the power (R116). -/
def windowHarm (f : Int → Bool) (h : Nat) (r : WindowResult) : Nat :=
  ((r.orders.filter fun o => o.order == h && f o.p).map fun o => o.p.natAbs * r.len).sum

/-- The energy balance across one window, for each of the seven fundamental and the 98 harmonic accumulators (R112, R115,
R116, R121, R122, R125): what the record carries away, what stays in the accumulator, and nothing else, is what was there
plus the window's increment; a record is built only when it fits the room. -/
def Obligations.EnergyBalanceOfAWindow : Prop :=
  ∀ (i : Fin 24) (len room : Nat) (r : WindowResult) (p : Point),
    (let a := p.account i len room r
     List.zipWith (fun x y => x * Config.fundDivisor + y) (recordedUnits a.appended) (heldUnits a.point.acc) =
         List.zipWith (· + ·) (heldUnits p.acc) (windowUnits r) ∧
       (∀ j : Fin 49,
         (recordedHarm (j.val + 2) a.appended).1 * Config.harmDivisor + heldHarm a.point.acc.harm[j].imp =
           heldHarm p.acc.harm[j].imp + windowHarm (fun x => 0 < x) (j.val + 2) r ∧
         (recordedHarm (j.val + 2) a.appended).2 * Config.harmDivisor + heldHarm a.point.acc.harm[j].exp =
           heldHarm p.acc.harm[j].exp + windowHarm (fun x => x < 0) (j.val + 2) r) ∧
       (∀ rcd, a.appended = some rcd → recordWords rcd ≤ room ∧ a.merged = false) ∧
       a.point.ivl.fields.isSome = true)

/-- What a record says of an open interval and the accumulators of its point (R120): the flags the interval carries or has seen,
with those this close adds; its numbers, indexes and counts; the frequencies, 0 when absent; the whole units; a block per order
of its list, with zeros for order 1. -/
def recordOf (i : Fin 24) (reconfigured timeStep cut : Bool) (f : OpenFields) (p : Point) : IntervalRecord :=
  let units := fun (side : HarmAccum → Accum) (h : Nat) => ((p.acc.harm[h - 2]?).map fun a => (side a).whole).getD 0
  { point := i
    flags := { merged := f.flags.merged, reconfigured := f.flags.reconfigured || reconfigured
               timeStep := f.flags.timeStep || timeStep, untracked := f.flags.untracked, clamped := f.flags.clamped
               bridged := f.flags.bridged, incomplete := f.flags.incomplete }
    cut := cut, firstNo := f.firstNo, lastNo := f.lastNo, firstStart := f.firstStart, lastEnd := f.lastEnd
    windows := f.windows, discardedWindows := p.ivl.discardedWindows, elapsed := f.elapsed, covered := f.covered
    discardedSamples := p.ivl.discardedSamples, nonFundExceeded := f.nonFundExceeded
    freqMin := f.freqMin.getD 0, freqMax := f.freqMax.getD 0
    activeImp := p.acc.activeImp.whole, activeExp := p.acc.activeExp.whole, q1 := p.acc.q1.whole, q2 := p.acc.q2.whole
    q3 := p.acc.q3.whole, q4 := p.acc.q4.whole, excess := p.acc.excess.whole
    blocks := f.orders.map fun o =>
      if 2 ≤ o.order then
        { order := o.order, exceeded := o.exceeded, imp := units HarmAccum.imp o.order, exp := units HarmAccum.exp o.order }
      else { order := o.order, exceeded := 0, imp := 0, exp := 0 } }

/-- The fields f with a window of interval number no accounted (R117); each count stops at the greatest value of its field. -/
def windowAdded (no : Nat) (r : WindowResult) (f : OpenFields) : OpenFields :=
  let exceeds := fun h : Nat => 2 ≤ h ∧ ∃ x ∈ r.orders, x.order = h ∧ x.exceed = true
  { f with
    lastNo := no, lastEnd := r.start + r.len, windows := min (f.windows + 1) 65535
    elapsed := min (f.elapsed + r.len) 4294967295, covered := min (f.covered + r.covered) 4294967295
    orders := f.orders.map fun o => if exceeds o.order then { o with exceeded := min (o.exceeded + 1) 16777215 } else o
    nonFundExceeded := if r.nonFundExceed then min (f.nonFundExceeded + 1) 65535 else f.nonFundExceeded
    freqMin := if r.flags.untracked then f.freqMin else some (min r.freq (f.freqMin.getD r.freq))
    freqMax := if r.flags.untracked then f.freqMax else some (max r.freq (f.freqMax.getD r.freq))
    flags := { f.flags with
      untracked := f.flags.untracked || r.flags.untracked, clamped := f.flags.clamped || r.flags.clamped
      bridged := f.flags.bridged || r.flags.bridged, incomplete := f.flags.incomplete || r.flags.incomplete } }

/-- When a window opens, joins, closes or merges the open interval, and what each leaves (R110, R113, R114, R117, R119 to R122).
A window accounted in EMPTY opens it with its own number, length, orders and start. A close builds the record of the interval as
it stood, counted INTERVALS_CLOSED, and the window opens the next, with the discard counts 0. Without room the interval goes on,
counted MERGES: it carries MERGED and the flags of the close that failed, and takes the window's orders and the length in force
when the configuration or the length changed, each order with the count it had. In every case the window is then added to the
fields. That TIME_STEP and RECONFIGURED stand each for its own cause, and together when both hold, is the model's reading of R119
(notes/assumptions/25.md). The close of a disable (RECONFIGURED) or a point reset (CUT) leaves EMPTY, with the record and
INTERVALS_CLOSED when there is room, and else with DISCARDED_INTERVALS; either way the whole units the record names become 0,
every remainder stays, and an EMPTY interval only loses its discard counts (R121, R123, R124). -/
def Obligations.IntervalClosesForItsCauses : Prop :=
  (∀ (i : Fin 24) (len room : Nat) (r : WindowResult) (p : Point),
    (let a := p.account i len room r
     let no := r.start / (len * 12800)
     let clear : IntervalFlags :=
       { merged := false, reconfigured := false, timeStep := false, untracked := false, clamped := false, bridged := false
         incomplete := false }
     let opened : OpenFields :=
       { firstNo := no, lastNo := no, openLen := len, orders := r.orders.map fun o => { order := o.order, exceeded := 0 }
         firstStart := r.start, lastEnd := r.start + r.len, windows := 0, elapsed := 0, covered := 0, nonFundExceeded := 0
         freqMin := none, freqMax := none, flags := clear }
     let nowOpen := fun (f : OpenFields) (windows samples : Nat) => a.point.ivl =
       { fields := some (windowAdded no r f), discardedWindows := windows, discardedSamples := samples }
     let kept := fun f : OpenFields => nowOpen f p.ivl.discardedWindows p.ivl.discardedSamples
     a.point = { p with acc := a.point.acc, ivl := a.point.ivl, iau := a.point.iau } ∧
     (p.ivl.fields = none → a.appended = none ∧ a.merged = false ∧ kept opened ∧ a.point.iau = p.iau) ∧
     ∀ f, p.ivl.fields = some f →
       (let reconf := r.flags.firstAfterChange = true ∨ len ≠ f.openLen
        let fits := 28 + 5 * f.orders.length ≤ room
        (no = f.lastNo → ¬ reconf → a.appended = none ∧ a.merged = false ∧ kept f ∧ a.point.iau = p.iau) ∧
        (no ≠ f.lastNo ∨ reconf → fits → a.merged = false ∧
          a.appended = some (recordOf i (decide reconf) (decide (no < f.lastNo)) false f p) ∧ nowOpen opened 0 0 ∧
          a.point.iau = { p.iau with closed := p.iau.closed + 1 }) ∧
        (no ≠ f.lastNo ∨ reconf → ¬ fits → a.merged = true ∧ a.appended = none ∧
          a.point.iau = { p.iau with merges := p.iau.merges + 1 } ∧
          kept { f with
            flags := { f.flags with
              merged := true, timeStep := f.flags.timeStep || decide (no < f.lastNo)
              reconfigured := f.flags.reconfigured || decide reconf }
            orders := if reconf then r.orders.map fun o =>
                { order := o.order
                  exceeded := ((f.orders.find? fun x => x.order == o.order).map fun x => x.exceeded).getD 0 }
              else f.orders
            openLen := if reconf then len else f.openLen })))) ∧
  (∀ (i : Fin 24) (cut : Bool) (room : Nat) (p : Point),
    (let x := p.closeNow i cut room
     let q := x.1
     q = { p with acc := q.acc, ivl := { fields := none, discardedWindows := 0, discardedSamples := 0 }, iau := q.iau } ∧
     (p.ivl.fields = none → x.2 = none ∧ q.acc = p.acc ∧ q.iau = p.iau) ∧
     ∀ f, p.ivl.fields = some f →
       (28 + 5 * f.orders.length ≤ room → x.2 = some (recordOf i (!cut) false cut f p) ∧
         q.iau = { p.iau with closed := p.iau.closed + 1 }) ∧
       (room < 28 + 5 * f.orders.length → x.2 = none ∧
         q.iau = { p.iau with discardedIntervals := p.iau.discardedIntervals + 1 }) ∧
       (let reported := fun a : Accum => { a with whole := 0 }
        q.acc.activeImp = reported p.acc.activeImp ∧ q.acc.activeExp = reported p.acc.activeExp ∧
        q.acc.q1 = reported p.acc.q1 ∧ q.acc.q2 = reported p.acc.q2 ∧ q.acc.q3 = reported p.acc.q3 ∧
        q.acc.q4 = reported p.acc.q4 ∧ q.acc.excess = reported p.acc.excess ∧
        ∀ j : Fin 49,
          (let named := ∃ o ∈ f.orders, o.order = j.val + 2
           (named → q.acc.harm[j] = { imp := reported p.acc.harm[j].imp, exp := reported p.acc.harm[j].exp }) ∧
           (¬ named → q.acc.harm[j] = p.acc.harm[j])))))

/-! ## Records and push channels (chapter 7) -/

/-- SEND_ATTEMPT (R142 to R145): a channel that is not SENDING does nothing (notes/assumptions/3.md); one whose port is DOWN or
full, or that finds others on the wait list, joins the list's tail; one that finds the queue empty is ARMED; a non-burst
channel without count or backlog places one record. A frame takes whole records within its limit: one, or for a burst channel
those remaining of its count, at most 11. After a frame, a count that reaches 0 makes the channel DONE and raises its
PUSH_DONE; a burst channel goes on while the queue holds records, a non-burst one while it has a backlog, and else the channel
is ARMED; one that goes on and finds its port full joins the tail of the wait list, behind the others, the head of the list
too (R143, R144; the head's row is the model's choice, notes/assumptions/22.md). -/
def Obligations.SendAttemptPlacesOneFrame : Prop :=
  (∀ (s : State) (c : Fin 4), s.inReset = false →
    (let ch := s.dlv.channel c
     let p := ch.cfg.port
     let q := s.dlv.port p
     (ch.st ≠ .sending → s.dlv.wait p = [] → exec (.sendAttempt c) s = .next s) ∧
     (ch.st = .sending → s.dlv.wait p = [] → q.up = false ∨ 4 ≤ q.reportQ.length →
       exec (.sendAttempt c) s = .next { s with dlv := s.dlv.setWait p [c] }) ∧
     (ch.st = .sending → s.dlv.wait p = [] → q.up = true → q.reportQ.length < 4 → s.dlv.recq.records = [] →
       exec (.sendAttempt c) s = .next { s with dlv := s.dlv.setChannel c { ch with
         st := .armed, backlog := 0, fresh := false
         emptyTrigger := if ch.fresh then ch.emptyTrigger + 1 else ch.emptyTrigger } }) ∧
     (∀ r rest, ch.st = .sending → s.dlv.wait p = [] → PortBusy s p → q.reportQ.length < 4 → ch.cfg.burst = false →
       ch.cfg.count = 0 → ch.backlog = 0 → s.dlv.recq.records = r :: rest → recordWords r ≤ 373 →
       wordsOf rest < s.device.watermark → ∃ t, exec (.sendAttempt c) s = .next t ∧
         t.dlv.recq = { s.dlv.recq with records := rest, pushed := s.dlv.recq.pushed + 1 } ∧
         (t.dlv.port p).reportQ = q.reportQ ++
           [{ dest := ch.cfg.dest, source := s.device.node, channel := c, seq := ch.seq + 1, records := [r] }] ∧
         t.dlv.channel c = { ch with
           st := .armed, fresh := false, seq := ch.seq + 1, framesPushed := ch.framesPushed + 1
           recordsSent := ch.recordsSent + 1 } ∧
         (∀ b : Fin 4, b ≠ c → t.dlv.channel b = s.dlv.channel b) ∧ t = { s with dlv := t.dlv }))) ∧
  (∀ (env : Env) (c : Fin 4) (head : Bool) (d : Delivery),
    (let ch := d.channel c
     let p := ch.cfg.port
     let q := d.port p
     let x := attemptSend env c head d
     let proceeds := q.up = true ∧ (head = true ∨ d.wait p = []) ∧ q.reportQ.length < 4
     (ch.st = .sending → ¬ proceeds → x = (if c ∈ d.wait p then d else d.setWait p (d.wait p ++ [c]), [])) ∧
     (ch.st = .sending → proceeds → d.recq.records ≠ [] →
       (let limit := if ch.cfg.burst = true then (if ch.cfg.count ≠ 0 then ch.remaining else 11) else 1
        let taken := takeRecords limit 373 d.recq.records
        let k := taken.1.length
        x = ((({ d with recq := { d.recq with
              records := taken.2, pushed := d.recq.pushed + BitVec.ofNat 32 k } } : Delivery).setChannel c { ch with
              seq := ch.seq + 1, framesPushed := ch.framesPushed + 1
              recordsSent := ch.recordsSent + BitVec.ofNat 32 k }).setPort p { q with reportQ := q.reportQ ++
            [{ dest := ch.cfg.dest, source := env.node, channel := c, seq := ch.seq + 1, records := taken.1 }] },
          [.queueHigh, .grant p, .sent c k]))))) ∧
  (∀ (c : Fin 4) (k : Nat) (d : Delivery),
    (let ch := d.channel c
     let x := continueSend c k d
     let left := if ch.cfg.count ≠ 0 then ch.remaining - k else ch.remaining
     let leaves := fun (y : Channel) (ts : List Task) => x = (d.setChannel c { y with remaining := left }, ts)
     (ch.cfg.count ≠ 0 → left = 0 → ∃ n : Fin 20, n.val = 10 + c.val ∧
       leaves { ch with st := .done, backlog := 0, fresh := false } [.edge n (BitVec.ofNat 32 c.val)]) ∧
     (ch.cfg.count = 0 ∨ left ≠ 0 →
       (ch.cfg.burst = true → d.recq.records ≠ [] → leaves { ch with fresh := false } [.attempt c false]) ∧
       (ch.cfg.burst = true → d.recq.records = [] → leaves { ch with st := .armed, fresh := false } []) ∧
       (ch.cfg.burst = false → 0 < ch.backlog →
         leaves { ch with backlog := ch.backlog - 1, fresh := true } [.attempt c false]) ∧
       (ch.cfg.burst = false → ch.backlog = 0 → leaves { ch with st := .armed, fresh := false } [])))) ∧
  (∀ (p : Port) (d : Delivery),
    (let x := serveWaitList p d
     (∀ c rest, d.wait p = c :: rest → (d.port p).up = true → (d.port p).reportQ.length < 4 →
       x = (d.setWait p rest, [.attempt c true, .waitList p])) ∧
     (d.wait p = [] ∨ (d.port p).up = false ∨ 4 ≤ (d.port p).reportQ.length → x = (d, [])))) ∧
  (∀ (s : State) (c : Fin 4), s.inReset = false →
    (let ch := s.dlv.channel c
     let p := ch.cfg.port
     let q := s.dlv.port p
     let list := s.dlv.wait p
     (ch.st = .sending → list ≠ [] → c ∉ list →
       exec (.sendAttempt c) s = .next { s with dlv := s.dlv.setWait p (list ++ [c]) }) ∧
     (∀ rest, list = c :: rest → q.up = false ∨ 4 ≤ q.reportQ.length → exec (.sendAttempt c) s = .next s) ∧
     (ch.st = .sending → PortBusy s p → list = [] ∨ list.head? = some c → c ∉ list.drop 1 →
       (let limit := if ch.cfg.burst = true then (if ch.cfg.count ≠ 0 then ch.remaining else 11) else 1
        let taken := takeRecords limit 373 s.dlv.recq.records
        let k := taken.1.length
        let f : RecordFrame :=
          { dest := ch.cfg.dest, source := s.device.node, channel := c, seq := ch.seq + 1, records := taken.1 }
        let placed := { ch with
          seq := ch.seq + 1, framesPushed := ch.framesPushed + 1, recordsSent := ch.recordsSent + BitVec.ofNat 32 k }
        s.dlv.recq.records ≠ [] → wordsOf taken.2 < s.device.watermark →
        (ch.cfg.count ≠ 0 → ch.remaining ≤ k → q.reportQ.length < 4 → ∃ t, exec (.sendAttempt c) s = .next t ∧
          t.dlv.channel c = { placed with st := .done, remaining := 0, backlog := 0, fresh := false } ∧
          (∀ n : Fin 20, n.val = 10 + c.val → (t.dlv.alert n).occurrences = (s.dlv.alert n).occurrences + 1) ∧
          q.reportQ ++ [f] <+: (t.dlv.port p).reportQ ∧ t = { s with dlv := t.dlv }) ∧
        (ch.cfg.count = 0 → q.reportQ.length = 3 →
          (ch.cfg.burst = true ∧ taken.2 ≠ [] ∨ ch.cfg.burst = false ∧ 0 < ch.backlog) →
            ∃ t, exec (.sendAttempt c) s = .next t ∧ (t.dlv.port p).reportQ = q.reportQ ++ [f] ∧
              t.dlv.recq = { s.dlv.recq with records := taken.2, pushed := s.dlv.recq.pushed + BitVec.ofNat 32 k } ∧
              t.dlv.channel c = { placed with
                fresh := !ch.cfg.burst, backlog := if ch.cfg.burst = true then ch.backlog else ch.backlog - 1 } ∧
              t.dlv.wait p = list.drop 1 ++ [c] ∧ t = { s with dlv := t.dlv }) ∧
        (ch.cfg.count = 0 → ch.cfg.burst = true → list = [] → taken.2 = [] → q.reportQ.length < 4 →
          ∃ t, exec (.sendAttempt c) s = .next t ∧ (t.dlv.port p).reportQ = q.reportQ ++ [f] ∧
            t.dlv.channel c = { placed with st := .armed, fresh := false } ∧ t.dlv.wait p = [] ∧
            t = { s with dlv := t.dlv })))))

/-! ## Alerts (chapter 8) -/

/-- ALERT_OFFER on a transmitting port: offers end only when the queue is full or no entry naming the port is ready, and
they take nothing from the other queues (R9, R156). A DOWN port is refused every offer (R16). An offer goes to the ready entry of
the highest level, of those to the lowest source number; an entry is ready when it is deliverable, IDLE, and pending or active
without awaiting acknowledgement (R152, R156); its frame carries what R157 says and stands after every frame of its level or a
higher one (R10), and the entry is SEND-PENDING. Recording (R154, R155, R158, R164): an occurrence sets pending with its detail,
or keeps the first detail and raises the count up to 255, which a queued frame of the entry takes; a LEVEL report stores
condition and detail, and a rise is counted; each occurrence and rise gives its triggers first, and then the offer. -/
def Obligations.OffersRunUntilRefused : Prop :=
  (∀ (s : State) (p : Port), s.inReset = false →
    ((s.dlv.port p).up = false → exec (.alertOffer p) s = .next s) ∧
    (PortBusy s p → ∃ t, exec (.alertOffer p) s = .next t ∧
      (8 ≤ (t.dlv.port p).alertQ.length ∨ bestReady s.device.floor p t.dlv = none) ∧
      (t.dlv.port p).replyQ = (s.dlv.port p).replyQ ∧ (t.dlv.port p).reportQ = (s.dlv.port p).reportQ ∧
      (t.dlv.port p).pass = (s.dlv.port p).pass ∧ t.dlv.port (otherPort p) = s.dlv.port (otherPort p) ∧
      t.dlv.recq = s.dlv.recq ∧ t.dlv.channels = s.dlv.channels ∧ t = { s with dlv := t.dlv })) ∧
  (∀ (floor : Nat) (n : Fin 20) (e : AlertEntry), e.ready floor n = true ↔
    (e.cfg.masked = false ∧ e.cfg.deliverFrame = true ∧ floor ≤ e.cfg.level) ∧ e.queuedOn = none ∧
      (isLevel n = true → e.active = true ∧ e.awaiting = false) ∧ (isLevel n = false → e.pending.isSome = true)) ∧
  (∀ (floor : Nat) (p : Port) (d : Delivery) (n : Fin 20), bestReady floor p d = some n ↔
    ((d.alert n).ready floor n = true ∧ (d.alert n).cfg.port = p) ∧
      ∀ m : Fin 20, (d.alert m).ready floor m = true → (d.alert m).cfg.port = p →
        (d.alert m).cfg.level < (d.alert n).cfg.level ∨ (d.alert m).cfg.level = (d.alert n).cfg.level ∧ n ≤ m) ∧
  (∀ (env : Env) (p : Port) (d : Delivery),
    (let q := d.port p
     let x := offerOne env p d
     (bestReady env.floor p d = none ∨ q.up = false ∨ 8 ≤ q.alertQ.length → x = (d, [])) ∧
     ∀ n, bestReady env.floor p d = some n → q.up = true → q.alertQ.length < 8 →
       (let e := d.alert n
        let f : AlertFrame :=
          { dest := e.cfg.dest, source := env.node, vector := e.cfg.vector, level := e.cfg.level, number := n
            edge := !isLevel n, count := e.count, detail := if isLevel n then e.detail else e.pending.getD 0
            timebase := BitVec.ofNat 32 env.now }
        ∃ before behind, q.alertQ = before ++ behind ∧ (∀ g ∈ before, f.level ≤ g.level) ∧
          (∀ g ∈ behind.head?, g.level < f.level) ∧
          x = ((d.setPort p { q with alertQ := before ++ f :: behind }).setAlert n
            { e with queuedOn := some p, count := if isLevel n then 0 else e.count }, [.grant p, .offers p])))) ∧
  (∀ (s : State) (p : Port), s.inReset = false → PortBusy s p →
    (let d := (offerOne s.env p s.dlv).1
     bestReady s.device.floor p d = none ∨ 8 ≤ (d.port p).alertQ.length →
       exec (.alertOffer p) s = .next { s with dlv := d })) ∧
  (∀ (n : Fin 20) (detail : BitVec 32) (d : Delivery),
    (let e := d.alert n
     let count := if e.pending = none then 1 else min (e.count + 1) 255
     let x := recordEdge n detail d
     let stored := d.setAlert n { e with
       pending := some (e.pending.getD detail), count := count, occurrences := e.occurrences + 1 }
     (e.queuedOn = none → x = (stored, sourceTriggers d n ++ [.offers e.cfg.port])) ∧
     (∀ p, e.queuedOn = some p → x = (stored.modPort p fun q => { q with
       alertQ := q.alertQ.map fun f => if f.number = n then { f with count := count } else f }, sourceTriggers d n)))) ∧
  (∀ (r : LevelReport) (d : Delivery),
    (let e := d.alert r.number
     let rises := r.active = true ∧ e.active = false
     recordLevels [r] d =
       (d.setAlert r.number { e with
          active := r.active, detail := r.detail, count := if rises then min (e.count + 1) 255 else e.count
          occurrences := if rises then e.occurrences + 1 else e.occurrences },
        (if rises then sourceTriggers d r.number else []) ++ (if r.active = true then [.offers e.cfg.port] else [])))) ∧
  (∀ (n : Fin 20) (d : Delivery), sourceTriggers d n = ((List.finRange 4).filter fun c =>
    decide ((d.channel c).cfg.trigger = .source ∧ (d.channel c).cfg.source = n)).map .trigger) ∧
  (∀ (s : State) (n : Fin 20) (detail : Nat), (∀ c : Fin 4, (s.dlv.channel c).cfg.source ≠ n) →
    (∀ m : Fin 20, (s.dlv.alert m).cfg.masked = true) →
      s.raise n detail = { s with dlv := (recordEdge n (BitVec.ofNat 32 detail) s.dlv).1 })

/-- The rises among the reports of a LEVEL condition, from whether it was active before them (R155). -/
def risesAmong : Bool → List LevelReport → Nat
  | _, [] => 0
  | before, r :: rest => (if r.active = true ∧ before = false then 1 else 0) + risesAmong r.active rest

/-- A frame returned at link down gives its entry back the state it had before the frame was built, with what has happened since
added, and one more ALERTS_RESTORED (R157, R163): a LEVEL entry takes the reports made since, and its count is what it was and
the rises since, up to 255; an EDGE entry is pending with its first detail, and its count is what the frame carries, with every
occurrence merged into it (R158), up to 255. The occurrences and reports since are those recorded by R154 and R155. -/
def Obligations.RestoreUndoesTheBuild : Prop :=
  (∀ (env : Env) (n : Fin 20) (p : Port) (e : AlertEntry), e.ready env.floor n = true → e.count ≤ 255 →
    (let built := e.afterBuild n p
     let frame := buildAlert env n e
     (built.restore frame = { e with
       restored := e.restored + 1
       awaiting := if isLevel n then false else e.awaiting }) ∧
     (isLevel n = true → ∀ reports : List LevelReport,
       (let rises := risesAmong e.active reports
        (reports.foldl (fun x r => x.level r) built).restore frame = { e with
          restored := e.restored + 1, awaiting := false, count := min (e.count + rises) 255
          occurrences := e.occurrences + BitVec.ofNat 32 rises
          active := (reports.getLast?.map fun r => r.active).getD e.active
          detail := (reports.getLast?.map fun r => r.detail).getD e.detail })) ∧
     (isLevel n = false → ∀ details : List (BitVec 32),
       (let merged := details.foldl (fun x d => x.occur d) built
        merged.count = min (e.count + details.length) 255 ∧
        merged.restore { frame with count := merged.count } = { e with
          restored := e.restored + 1, count := min (e.count + details.length) 255
          occurrences := e.occurrences + BitVec.ofNat 32 details.length })))) ∧
  (∀ (n : Fin 20) (detail : BitVec 32) (d : Delivery),
    ((recordEdge n detail d).1.alert n = (d.alert n).occur detail) ∧
    ∀ p, (d.alert n).queuedOn = some p → ((recordEdge n detail d).1.port p).alertQ =
      (d.port p).alertQ.map fun f => if f.number = n then { f with count := ((d.alert n).occur detail).count } else f) ∧
  (∀ (r : LevelReport) (d : Delivery), (recordLevels [r] d).1.alert r.number = (d.alert r.number).level r)

/-! ## Requests (chapter 9) -/

/-- The bytes hold these fields, each given as offset, width and value; a value takes its field's width
(notes/assumptions/13.md). -/
def Holds (bytes : List Byte) (fields : List (Nat × Nat × Nat)) : Prop :=
  ∀ x ∈ fields, field x.1 x.2.1 bytes = x.2.2 % 256 ^ x.2.1

/-- The bytes are of this size and hold these fields. -/
def Laid (bytes : List Byte) (size : Nat) (fields : List (Nat × Nat × Nat)) : Prop := bytes.length = size ∧ Holds bytes fields

/-- Values of one width placed end to end from an offset. -/
def fieldsFrom (off width : Nat) (values : List Nat) : List (Nat × Nat × Nat) :=
  values.zipIdx.map fun x => (off + width * x.2, width, x.1)

/-- A flag as its byte, or as bit n of a map (R205, 2 and 7). -/
def flagBit (b : Bool) (n : Nat := 0) : Nat := if b then 2 ^ n else 0

/-- A signed value of a field of w bytes, in two's complement (R205, 1). -/
def twosComplement (w : Nat) (x : Int) : Nat := (x % (256 : Int) ^ w).toNat

/-- The written part of a POINT entry from an offset (R207). -/
def pointFields (off : Nat) (c : PointCfg) : List (Nat × Nat × Nat) :=
  fieldsFrom off 1 [flagBit c.enabled, c.vSlot.val, c.iSlot.val, flagBit c.useNeutral, if c.nominal = .hz50 then 50 else 60, c.cycles,
    c.hset.val, c.limit.val, [GapPolicy.restart, .bridge, .skip].idxOf c.policy, c.bridgeLimit, c.minCoverage] ++
  fieldsFrom (off + 12) 2 [c.tanLimit, c.gains.ia, c.gains.ib, c.gains.ic, c.gains.inn, c.gains.va, c.gains.vb, c.gains.vc]

/-- The 15 counters of a POINT entry (R60, R82, R207). -/
def pointCounters (p : Point) : List Counter :=
  (let x := p.pair
   [x.paired, x.unpaired, x.invalidSets, x.clampValues, x.overflow]) ++
  (let y := p.framer.ctr
   [y.handed, y.discarded, y.gap, y.stepBack, y.source, y.coverage, y.finishLate, y.samples, y.bridgedSets, y.untrackedWindows])

/-- The eight counters of a SLOT entry (R28, R207). -/
def slotCounters (c : SlotCounters) : List Counter :=
  [c.frames, c.sets, c.late, c.gapSets, c.reacquire, c.malformed, c.unusable, c.tagConflict]

/-- Where a reply goes (R9, R11 to R13, R16): behind the others of a transmitting port, at once onto an idle port with
nothing waiting, nowhere on a DOWN port, which counts it LINKDOWN_DROP. And when a waiting request is served (R170): the agent
takes the head of its queue when it is posted or its port has a place for the reply, serves it as its row, whatever waits
behind it, and then goes on with the next; a head that must wait holds all the others. -/
def Obligations.ReplyIsPlacedOrLost : Prop :=
  (∀ (s : State) (p : Port) (f : ReplyFrame),
    ((s.dlv.port p).up = false →
      s.placeReply p f = { s with dlv := s.dlv.count p fun c => { c with linkdownDrop := c.linkdownDrop + 1 } }) ∧
    (PortBusy s p →
      s.placeReply p f = { s with dlv := s.dlv.modPort p fun q => { q with replyQ := q.replyQ ++ [f] } }) ∧
    ((s.dlv.port p).free = true → NothingWaits (s.dlv.port p) →
      s.placeReply p f = { s with dlv := s.dlv.modPort p fun q =>
        { q with tx := some (.reply f), passCount := 0, lastWinner := some .reply
                 current := { q.current with reply := s.device.priority.reply } } })) ∧
  (∀ s : State,
    (s.agent.queue = [] → s.agentRun = s) ∧
    ∀ r rest, s.agent.queue = r :: rest →
      (let may := reqKind r.payload = 0x03 ∨ (s.dlv.port r.port).up = false ∨ (s.dlv.port r.port).replyQ.length < 8
       (canTake s r = true ↔ may) ∧ (¬ may → s.agentRun = s) ∧
       (may → s.agentRun = (State.serveRequest r { s with agent := { s.agent with queue := rest } }).agentRun))) ∧
  (∀ (s : State) (r : Request) (waiting : List Request),
    (let t := s.serveRequest r
     State.serveRequest r { s with agent := { s.agent with queue := waiting } } =
       { t with agent := { t.agent with queue := waiting } })) ∧
  (∀ (s : State) (c : Instr) (r : Request) (h : ReqHeader) (k : ReqKind) (space : Byte) (index count : BitVec 16)
    (data : List Byte), rowFields c = some (h, k, space, index, count, data) → s.inReset = false → s.agent.queue = [] →
    canTake s r = true → r.port = h.port → r.source = h.source →
    r.payload = requestPayload h.tag (kindCode k) space index count data →
      exec c s = .next (State.serveRequest r (joined s)))

/-- READ (R171, R174): whole entries in ascending index up to the count, the last entry and the room of the reply; BAD-SPACE
and BAD-INDEX otherwise. Any node may read DEVICE (R172). What an entry reads as (R207, 11.4, 11.5): its size, the written part in
force, and behind it the fields, dynamic state and counters of its space; COUNTERS word by word. A value takes its field's width
(notes/assumptions/13.md); the bytes that the tables do not name are not spoken of (notes/assumptions/43.md). -/
def Obligations.ReadReturnsWholeEntries : Prop :=
  (∀ (s : State) (h : ReqHeader) (space : Byte) (index count : BitVec 16), TakenAtOnce s h →
    (Manages s h ∨ spaceOf space.toNat = some .device) →
    (let c := Instr.read h space index count
     (spaceOf space.toNat = none → Answers c s h .read .badSpace 0 [] (joined s)) ∧
     (∀ sp, spaceOf space.toNat = some sp → readPlaces sp ≤ index.toNat → Answers c s h .read .badIndex 0 [] (joined s)) ∧
     (∀ sp, spaceOf space.toNat = some sp → index.toNat < readPlaces sp →
       (let n := min (min count.toNat (readPlaces sp - index.toNat)) (if sp = .counters then 373 else 1494 / readSize sp)
        Answers c s h .read .ok n ((List.range n).flatMap fun j => readEntry (joined s) sp (index.toNat + j)) (joined s))))) ∧
  (∀ s : State, s.device.managers.length ≤ 4 →
    (let d := s.device
     Laid (readEntry s .device 0) 24 ([(0, 2, d.node.toNat), (2, 1, d.managers.length), (3, 1, d.floor),
       (12, 2, d.intervalLen), (14, 2, d.watermark), (16, 1, d.priority.alert), (17, 1, d.priority.reply),
       (18, 1, d.priority.report), (19, 1, 0), (20, 2, 0x2420), (22, 1, 1), (23, 1, flagBit d.metrologyLock)] ++
       fieldsFrom 4 2 ((List.range 4).map fun j => ((d.managers[j]?).map fun m => m.toNat).getD 0)))) ∧
  (∀ (s : State) (i : Fin 16),
    (let w := s.classifier.windows[i]
     Laid (readEntry s .window i) 12 [(0, 1, flagBit w.enabled), (1, 1, [WindowKind.tap, .sink, .pass].idxOf w.kind),
       (2, 1, w.slotBase.val), (3, 1, 0), (4, 4, w.base.toNat), (8, 4, w.mask.toNat)])) ∧
  (∀ (s : State) (k : Fin 32),
    (let x := s.slot k
     Laid (readEntry s .slot k) 64 ([(0, 1, flagBit x.cfg.enabled), (1, 1, flagBit x.cfg.acceptTest), (2, 1, x.cfg.acquire), (3, 1, 0),
       (4, 2, x.cfg.lossTimeout), (6, 2, x.cfg.maxGap),
       (8, 1, [SlotState.disabled, .idle, .acquiring, .locked, .lost].idxOf x.st),
       (9, 1, flagBit x.tag.isSome + flagBit x.expected.isSome 1 + flagBit x.lastUsable.isSome 2), (10, 1, x.good), (11, 1, x.lateRun),
       (12, 1, flagBit x.lostSeen), (16, 4, (x.tag.getD 0).toNat), (20, 6, x.expected.getD 0), (28, 4, x.lastUsable.getD 0)] ++
       fieldsFrom 32 4 ((slotCounters x.ctr).map BitVec.toNat)))) ∧
  (∀ (s : State) (i : Fin 24),
    (let p := s.point i
     let f := p.framer
     let w := fun get : Window → Nat => (f.window.map get).getD 0
     let bank := fun b : Bank => match b with | .free => 0 | .active _ => 1 | .out _ => 2
     let bytes := readEntry s .point i
     (p.waitingCfg = none → (bytes.drop 28).take 28 = List.replicate 28 0) ∧
     (∀ c, p.waitingCfg = some c → Holds bytes (pointFields 28 c)) ∧
     Laid bytes 152 (pointFields 0 p.cfg ++
       [(56, 1, flagBit p.waitingCfg.isSome + flagBit p.changeMark 1 + flagBit p.vLocked 2 + flagBit p.iLocked 3 + flagBit f.trk.untracked 4 +
          flagBit ((f.window.bind fun w => w.start).isSome) 5),
        (57, 1, [FramerState.disabled, .waiting, .collecting, .held].idxOf f.st), (58, 1, bank f.bank1 + 4 * bank f.bank2),
        (59, 1, p.vQueue.length), (60, 1, p.iQueue.length), (61, 1, f.trk.run), (64, 2, w fun w => w.len),
        (66, 2, w fun w => w.pos), (68, 2, w fun w => w.covered), (70, 2, w fun w => w.bridgedCount),
        (72, 6, w fun w => w.start.getD 0), (78, 2, f.trk.nextLen), (80, 4, f.trk.period), (84, 4, f.trk.freq),
        (88, 4, f.seq.toNat)] ++ fieldsFrom 92 4 ((pointCounters p).map BitVec.toNat)))) ∧
  (∀ (s : State) (j : Fin 8),
    (let l := s.finisher.hsets[j]
     (l.length ≤ 16 → Laid (readEntry s .hset j) 20
       ((0, 1, l.length) :: (17, 3, 0) :: fieldsFrom 1 1 ((List.range 16).map fun k => (l[k]?).getD 0))) ∧
     (let m := s.finisher.limits[j]
      Laid (readEntry s .limit j) 204 (fieldsFrom 0 4 (m.orders.toList ++ [m.triplen, m.nonFund]))))) ∧
  (∀ (s : State) (n : Fin 20),
    (let e := s.dlv.alert n
     let queued := flagBit e.queuedOn.isSome
     Laid (readEntry s .alert n) 32 ([(0, 1, flagBit e.cfg.masked), (1, 1, e.cfg.level), (2, 1, e.cfg.vector.toNat),
       (3, 1, portCode e.cfg.port), (4, 1, flagBit (!e.cfg.deliverFrame)), (5, 1, 0), (6, 2, e.cfg.dest.toNat),
       (8, 1, if isLevel n then flagBit e.active else flagBit e.pending.isSome), (9, 1, e.count), (10, 1, queued),
       (11, 1, flagBit e.awaiting), (12, 1, queued), (13, 1, flagBit (isLevel n)), (14, 1, flagBit (isLevel n && e.active)),
       (15, 1, (e.queuedOn.map portCode).getD 0), (16, 4, (if isLevel n then e.detail else e.pending.getD 0).toNat)] ++
       fieldsFrom 20 4 [e.occurrences.toNat, e.frames.toNat, e.restored.toNat]))) ∧
  (∀ (s : State) (c : Fin 4),
    (let x := s.dlv.channel c
     Laid (readEntry s .push c) 40 ([(0, 1, flagBit x.cfg.enabled),
       (1, 1, [TriggerKind.source, .interval, .manual].idxOf x.cfg.trigger), (2, 1, x.cfg.source.val),
       (3, 1, portCode x.cfg.port), (4, 1, flagBit x.cfg.burst), (5, 1, 0), (6, 2, x.cfg.dest.toNat), (8, 2, x.cfg.count),
       (10, 2, 0), (12, 1, [PushState.disabled, .armed, .sending, .done].idxOf x.st), (13, 1, x.backlog),
       (14, 1, flagBit (decide (c ∈ s.dlv.waitA ∨ c ∈ s.dlv.waitB))), (16, 2, x.remaining), (20, 4, x.seq.toNat)] ++
       fieldsFrom 24 4 [x.framesPushed.toNat, x.recordsSent.toNat, x.emptyTrigger.toNat, x.backlogSat.toNat]))) ∧
  (∀ (s : State) (i : Fin 24),
    ((s.point i).result = none → readEntry s .result i = List.replicate 1316 0) ∧
    ∀ r, (s.point i).result = some r → r.orders.length ≤ 16 →
      (let totals := [r.ia, r.ib, r.ic, r.inn].flatMap fun t => [t.total, t.nonFund]
       let bytes := readEntry s .result i
       Laid bytes 1316 ([(0, 1, 1), (1, 1, i.val), (2, 1, r.orders.length), (3, 1, flagBit r.nonFundExceed + flagBit r.neutral 1),
         (4, 4, r.seq.toNat), (8, 6, r.start), (14, 2, r.len), (16, 2, r.covered), (18, 2, r.bridgedCount),
         (20, 2, flagBit r.flags.untracked 8 + flagBit r.flags.clamped 9 + flagBit r.flags.bridged 10 + flagBit r.flags.incomplete 11 +
           flagBit r.flags.firstAfterChange 12), (22, 2, 0), (24, 4, r.freq), (28, 8, r.excess)] ++ fieldsFrom 36 8 totals) ∧
       (∀ (j : Nat) (o : OrderResult), r.orders[j]? = some o →
         Holds (bytes.drop (100 + 76 * j)) ([(0, 1, o.order), (1, 1, flagBit o.exceed), (2, 2, 0), (60, 8, twosComplement 8 o.p),
           (68, 8, twosComplement 8 o.q)] ++
           fieldsFrom 4 4 ([Seven.va, Seven.vb, Seven.vc, Seven.ia, Seven.ib, Seven.ic, Seven.inn].flatMap fun sig =>
             [twosComplement 4 (sig o.re), twosComplement 4 (sig o.im)]))) ∧
       (∀ j, 100 + 76 * r.orders.length ≤ j → j < 1316 → bytes[j]? = some 0))) ∧
  (∀ s : State,
    (let word := fun (n : Nat) (v : Counter) => readEntry s .counters n = beNat 4 v.toNat
     let run := fun (first : Nat) (l : List Counter) => ∀ (j : Nat) (v : Counter), l[j]? = some v → word (first + j) v
     let port := fun p : Port =>
       (let c := (s.dlv.port p).ctr
        [c.rxFrames, c.lengthErr, c.crcErr, c.looped, c.linkdownDrop, c.recordsLost, c.txFrames])
     let count := fun n : Nat => BitVec.ofNat 32 n
     let q := s.dlv.recq
     run 0 (port .a) ∧ run 7 (port .b) ∧ word 14 (s.dlv.port .b).ctr.passOverflow ∧ word 15 (s.dlv.port .a).ctr.passOverflow ∧
     (∀ i : Fin 16, word (16 + i.val) s.classifier.hits[i]) ∧ run 32 [s.classifier.noSlot, s.classifier.noTag] ∧
     (∀ k : Fin 32, run (34 + 8 * k.val) (slotCounters (s.slot k).ctr)) ∧
     (∀ i : Fin 24,
       (let p := s.point i
        run (290 + 19 * i.val)
          (pointCounters p ++ [p.finished, p.iau.closed, p.iau.merges, p.iau.discardedIntervals]))) ∧
     run 746 [s.finisher.abandonedCount, count s.finisher.peak] ∧
     run 748 [count (wordsOf q.records), count q.records.length, count q.peakWords, q.appended, q.fetched, q.pushed] ∧
     (∀ c : Fin 4,
       (let x := s.dlv.channel c
        run (754 + 4 * c.val) [x.framesPushed, x.recordsSent, x.emptyTrigger, x.backlogSat])) ∧
     (∀ n : Fin 20,
       (let e := s.dlv.alert n
        run (770 + 3 * n.val) [e.occurrences, e.frames, e.restored])) ∧
     run 830 [s.agent.received, s.agent.dropped, s.agent.postedRefused, s.agent.loadsOpened, s.agent.loadsApplied,
       s.agent.loadsExpired, count ((List.finRange 4).filter fun t => s.agent.tickets[t] ≠ .free).length, s.agent.issued,
       s.agent.delivered, s.agent.ticketsExpired]))

/-- A request from a node that may not manage the part is refused DENIED and has no other effect (R171, R172), but for a
READ of DEVICE; a WRITE-POSTED so refused is counted and raises MGMT_ERROR, unanswered (R177). -/
def Obligations.UnknownManagersAreDenied : Prop :=
  ∀ (s : State) (c : Instr) (h : ReqHeader) (k : ReqKind), requestRow c = some (h, k) → TakenAtOnce s h → ¬ Manages s h →
    (∀ index count, c ≠ .read h 0x01 index count) →
    (k ≠ .writePosted → Answers c s h k .denied 0 [] (joined s)) ∧
    (k = .writePosted → exec c s =
      .next (State.raise { joined s with agent := { (joined s).agent with postedRefused := s.agent.postedRefused + 1 } } 16
        (h.tag.toNat * 65536 + 0x03)))

/-- When a write passes every check (R175): the run lies in the space, the space can be written, no entry changes a
protected field under the lock, no load is open on the space, no written harmonic set is in use, the data has its
length, and every entry is valid. Otherwise the first check that fails, in the order of R175, gives the status, and the first
entry that fails it, or the first index for the request as a whole, is named; that BUSY and SHORT concern the request as a whole,
and so name the first index, is the model's reading (notes/assumptions/33.md). The lock protects the V slot, the I slot, C,
the harmonic set and the seven gains of a POINT entry, compared with the pending configuration when one is held and else with that in force, every HSET entry, and the interval
length (R46, R181); an entry cut short cannot be compared, and is left to the length check as the model reads it
(notes/assumptions/23.md). A harmonic set is in use when an enabled point names it in force or pending (R91). -/
def Obligations.WriteAcceptedExactlyWhenEveryCheckPasses : Prop :=
  (∀ (s : State) (sp : Space) (first count : Nat) (data : List Byte),
    checkWrite s sp first count data = none ↔
      1 ≤ count ∧ first + count ≤ spaceEntries sp ∧ sp ≠ .counters ∧ sp ≠ .result ∧
      (s.device.metrologyLock = true → ∀ j < count, changesProtected s sp (first + j) (entryBytes sp data j) = false) ∧
      (∀ l, s.agent.load = some l → l.space ≠ sp) ∧
      (sp = .hset → ∀ j < count, hsetNamed s (first + j) = false) ∧
      data.length = count * writeSize sp ∧
      ∀ j < count, (decodeEntry s.device.metrologyLock sp (entryBytes sp data j)).isSome = true) ∧
  (∀ (s : State) (sp : Space) (first count : Nat) (data : List Byte),
    (let refused := fun (st : Status) (index : Nat) => checkWrite s sp first count data = some ⟨st, index⟩
     let inside := 1 ≤ count ∧ first + count ≤ spaceEntries sp
     let readOnly := sp = .counters ∨ sp = .result
     let bytes := fun j : Nat => entryBytes sp data j
     let locked := fun j : Nat => s.device.metrologyLock = true ∧ changesProtected s sp (first + j) (bytes j) = true
     let named := fun j : Nat => sp = .hset ∧ hsetNamed s (first + j) = true
     let bad := fun j : Nat => decodeEntry s.device.metrologyLock sp (bytes j) = none
     let loading := ∃ l, s.agent.load = some l ∧ l.space = sp
     let unlocked := ∀ j < count, ¬ locked j
     let unused := ∀ j < count, ¬ named j
     let whole := data.length = count * writeSize sp
     (¬ inside → refused .badIndex first) ∧ (inside → readOnly → refused .readOnly first) ∧
     (inside → ¬ readOnly →
       (∀ j < count, locked j → (∀ i < j, ¬ locked i) → refused .locked (first + j)) ∧
       (unlocked → loading → refused .busy first) ∧
       (unlocked → ¬ loading → ∀ j < count, named j → (∀ i < j, ¬ named i) → refused .inUse (first + j)) ∧
       (unlocked → ¬ loading → unused → ¬ whole → refused .short first) ∧
       (unlocked → ¬ loading → unused → whole → ∀ j < count, bad j → (∀ i < j, ¬ bad i) →
         refused .badValue (first + j))))) ∧
  (∀ (s : State) (i : Fin 24) (l : List Byte),
    (let c := (s.point i).waitingCfg.getD (s.point i).cfg
     c.Legal → l.length = 28 → (changesProtected s .point i.val l = true ↔
       field 1 1 l ≠ c.vSlot.val ∨ field 2 1 l ≠ c.iSlot.val ∨ field 5 1 l ≠ c.cycles ∨ field 6 1 l ≠ c.hset.val ∨
         ∃ j g, c.gains.toList[j]? = some g ∧ field (14 + 2 * j) 2 l ≠ g))) ∧
  (∀ (s : State) (l : List Byte), l.length = 20 →
    (changesProtected s .device 0 l = true ↔ field 12 2 l ≠ s.device.intervalLen)) ∧
  (∀ (s : State) (i : Nat) (l : List Byte), changesProtected s .hset i l = true) ∧
  (∀ (s : State) (i : Nat) (l : List Byte) (sp : Space),
    (sp = .point ∧ l.length ≠ 28 ∨ sp = .device ∧ l.length ≠ 20 ∨ sp ∈ [Space.window, .slot, .limit, .alert, .push]) →
      changesProtected s sp i l = false) ∧
  (∀ (s : State) (j : Nat), hsetNamed s j = true ↔ ∃ i : Fin 24, (s.point i).cfg.enabled = true ∧
    ((s.point i).cfg.hset.val = j ∨ ∃ c, (s.point i).waitingCfg = some c ∧ c.hset.val = j))

/-- WRITE, SLOT_WRITE, POINT_WRITE, PUSH_WRITE, ALERT_WRITE and DEVICE_WRITE: a write that passes the checks is applied
whole and answered OK with its count; one that fails writes nothing and names the entry (R175, R176). WRITE_POSTED is
applied as a WRITE and never answered; a refusal is counted POSTED_REFUSED and raises MGMT_ERROR with the tag and the
status (R177). Applied, a run stores each written WINDOW, HSET or LIMIT entry and nothing else (R23, R91, R92); each written
ALERT configuration, the entries' other state kept, and then offers on both ports, Port A first as the model chooses
(R151, R162; notes/assumptions/28.md); and each written SLOT entry, which is enabled afresh, dropped, kept, or LOST at once
when its new deadline has passed (R40); each POINT and PUSH entry is written by its own rule (R48, R138), in ascending index as
the model chooses (notes/assumptions/39.md). A WRITE or WRITE-POSTED of an unknown space is BAD-SPACE, and the first index is
named (R175, 1; notes/assumptions/33.md). -/
def Obligations.WritesAreAllOrNothing : Prop :=
  (∀ (s : State) (sp : Space) (h : ReqHeader) (index count : BitVec 16) (data : List Byte), TakenAtOnce s h →
    Manages s h →
    (let c := writeRow sp h index count data
     (checkWrite s sp index.toNat count.toNat data = none →
       Answers c s h .write .ok count.toNat [] ((joined s).applyWrite sp index.toNat count.toNat data)) ∧
     (∀ e, checkWrite s sp index.toNat count.toNat data = some e →
       Answers c s h .write e.status 0 (beNat 2 e.index) (joined s)))) ∧
  (∀ (s : State) (h : ReqHeader) (space : Byte) (sp : Space) (index count : BitVec 16) (data : List Byte),
    TakenAtOnce s h → Manages s h → spaceOf space.toNat = some sp →
    (let c := Instr.writePosted h space index count data
     (checkWrite s sp index.toNat count.toNat data = none →
       exec c s = .next ((joined s).applyWrite sp index.toNat count.toNat data)) ∧
     (∀ e, checkWrite s sp index.toNat count.toNat data = some e →
       exec c s = .next (State.raise { joined s with agent := { (joined s).agent with
         postedRefused := s.agent.postedRefused + 1 } } 16 (h.tag.toNat * 65536 + statusCode e.status))))) ∧
  (∀ (s : State) (sp : Space) (first count : Nat) (data : List Byte), checkWrite s sp first count data = none →
    (let t := s.applyWrite sp first count data
     let bytes := fun i : Nat => entryBytes sp data (i - first)
     let written := fun i : Nat => first ≤ i ∧ i < first + count
     (sp = .window → t = { s with classifier := { s.classifier with windows := t.classifier.windows } } ∧
       ∀ i : Fin 16, (written i → some t.classifier.windows[i] = decodeWindow (bytes i)) ∧
         (¬ written i → t.classifier.windows[i] = s.classifier.windows[i])) ∧
     (sp = .hset → t = { s with finisher := { s.finisher with hsets := t.finisher.hsets } } ∧
       ∀ i : Fin 8, (written i → some t.finisher.hsets[i] = decodeHset (bytes i)) ∧
         (¬ written i → t.finisher.hsets[i] = s.finisher.hsets[i])) ∧
     (sp = .limit → t = { s with finisher := { s.finisher with limits := t.finisher.limits } } ∧
       ∀ i : Fin 8, (written i → some t.finisher.limits[i] = decodeLimit (bytes i)) ∧
         (¬ written i → t.finisher.limits[i] = s.finisher.limits[i])) ∧
     (sp = .alert → ∃ d : Delivery, d = { s.dlv with alerts := d.alerts } ∧
       t = State.run { s with dlv := d } [.offers .a, .offers .b] ∧
       ∀ n : Fin 20, (written n → ∃ c, decodeAlertCfg (bytes n) = some c ∧ d.alert n = { s.dlv.alert n with cfg := c }) ∧
         (¬ written n → d.alert n = s.dlv.alert n)) ∧
     (sp = .slot → t = { s with slots := t.slots, points := t.points, dlv := t.dlv } ∧
       ∀ k : Fin 32,
         (written k → ∃ c, decodeSlotCfg (bytes k) = some c ∧
           (let old := s.slot k
            let passed := (old.st = .acquiring ∨ old.st = .locked) ∧ old.lastUsable.getD 0 + c.lossTimeout ≤ timebase s
            t.slot k =
              if old.cfg.enabled then
                if c.enabled then
                  if passed then
                    { old with cfg := c, st := .lost, tag := none, good := 0, lateRun := 0, lostSeen := true }
                  else { old with cfg := c }
                else { Slot.init with cfg := c, st := .disabled }
              else if c.enabled then { Slot.init with cfg := c, st := .idle }
              else { old with cfg := c })) ∧
         (¬ written k → t.slot k = s.slot k)) ∧
     (sp = .point → ∃ c : Nat → PointCfg, (∀ j < count, decodePointCfg (entryBytes .point data j) = some (c j)) ∧
       t = (List.range count).foldl (fun u j => u.writePoint (first + j) (c j)) s) ∧
     (sp = .push → ∃ c : Nat → PushCfg, (∀ j < count, decodePushCfg (entryBytes .push data j) = some (c j)) ∧
       t = (List.range count).foldl (fun u j => u.writePush (first + j) (c j)) s))) ∧
  (∀ (s : State) (h : ReqHeader) (space : Byte) (index count : BitVec 16) (data : List Byte), TakenAtOnce s h →
    Manages s h → spaceOf space.toNat = none →
    Answers (.write h space index count data) s h .write .badSpace 0 (beNat 2 index.toNat) (joined s) ∧
    exec (.writePosted h space index count data) s = .next (State.raise { joined s with agent := { (joined s).agent with
      postedRefused := s.agent.postedRefused + 1 } } 16 (h.tag.toNat * 65536 + 0x05)))

/-- DEVICE_WRITE on a transmitting port (R14, R171, R178, R179): the entry takes the written fields, a change of priorities
resets the current values of both ports, and no change keeps them (seen where the port makes no grant in the same event:
it transmits or is DOWN), and the reply already comes from the new node number. -/
def Obligations.DeviceWriteActsAtOnce : Prop :=
  ∀ (s : State) (h : ReqHeader) (data : List Byte) (d : Device), TakenAtOnce s h → Manages s h → PortBusy s h.port →
    checkWrite s .device 0 1 data = none → decodeDevice s.device.metrologyLock data = some d →
      ∃ t, exec (.deviceWrite h 0 1 data) s = .next t ∧ t.device = d ∧
        (t.dlv.port h.port).replyQ = (s.dlv.port h.port).replyQ ++ [replyTo h d.node .write .ok 1 []] ∧
        (∀ p : Port, (s.dlv.port p).free = false →
          (d.priority ≠ s.device.priority → (t.dlv.port p).current = d.priority) ∧
          (d.priority = s.device.priority → (t.dlv.port p).current = (s.dlv.port p).current)) ∧
        t.points = s.points ∧ t.slots = s.slots ∧ t.classifier = s.classifier ∧ t.finisher = s.finisher

/-- A channel written while it stands anywhere (R138): configuration stored, remaining the count, backlog and sequence
number 0, off both wait lists, ARMED or DISABLED; its counters, the other channels and the Record Queue stay. -/
def Obligations.PushWriteRearmsTheChannel : Prop :=
  ∀ (s : State) (c : Fin 4) (cfg : PushCfg),
    (let t := s.writePush c.val cfg
     t.dlv.channel c = { s.dlv.channel c with
       cfg := cfg, st := if cfg.enabled then .armed else .disabled, remaining := cfg.count, backlog := 0, seq := 0
       fresh := false } ∧
     c ∉ t.dlv.waitA ∧ c ∉ t.dlv.waitB ∧ (∀ b : Fin 4, b ≠ c → t.dlv.channel b = s.dlv.channel b) ∧
     t.dlv.recq = s.dlv.recq ∧ t.dlv.portA = s.dlv.portA ∧ t.dlv.portB = s.dlv.portB ∧ t.dlv.alerts = s.dlv.alerts ∧
     t = { s with dlv := t.dlv })

/-- FETCH_RECORDS (R136, R137): records leave the queue only through an UP port, in queue order, whole, and are counted;
otherwise the answer is OK with none, and nothing else happens: that QUEUE_HIGH is then not evaluated is the model's
reading of R133 (notes/assumptions/27.md). A removal takes whole records from the head, within its limits, and stops only
where R132 says. A record goes on the wire as 11.3 lays it out, 112 bytes and 20 for each order (R120); a value takes its field's
width (notes/assumptions/13.md). -/
def Obligations.FetchRecordsRemovesInOrder : Prop :=
  (∀ (limit words : Nat) (l : List IntervalRecord),
    (let t := takeRecords limit words l
     t.1 ++ t.2 = l ∧ t.1.length ≤ limit ∧ wordsOf t.1 ≤ words ∧
       ∀ r rest, t.2 = r :: rest → t.1.length = limit ∨ words < wordsOf t.1 + recordWords r)) ∧
  (∀ (s : State) (h : ReqHeader) (count : BitVec 16), TakenAtOnce s h → Manages s h →
    (let c := Instr.fetchRecords h count
     ((s.dlv.port h.port).up = false ∨ count = 0 ∨ s.dlv.recq.records = [] →
       Answers c s h .fetchRecords .ok 0 [] (joined s)) ∧
     ((s.dlv.port h.port).up = true → count ≠ 0 → s.dlv.recq.records ≠ [] →
       (let x := takeRecords count.toNat 373 s.dlv.recq.records
        let left := { s.dlv.recq with records := x.2, fetched := s.dlv.recq.fetched + BitVec.ofNat 32 x.1.length }
        Answers c s h .fetchRecords .ok x.1.length (x.1.flatMap encodeRecord)
          (State.run { joined s with dlv := { s.dlv with recq := left } } [.queueHigh]))))) ∧
  (∀ r : IntervalRecord,
    (let n := r.blocks.length
     let bytes := encodeRecord r
     Laid bytes (112 + 20 * n) ([(0, 1, r.point.val), (1, 1, n), (2, 2, 28 + 5 * n),
       (4, 4, flagBit r.flags.merged + flagBit r.cut 1 + flagBit r.flags.reconfigured 2 + flagBit r.flags.timeStep 3 +
         flagBit r.flags.untracked 8 + flagBit r.flags.clamped 9 + flagBit r.flags.bridged 10 + flagBit r.flags.incomplete 11),
       (8, 4, r.firstNo), (12, 4, r.lastNo), (16, 6, r.firstStart), (22, 6, r.lastEnd), (28, 2, r.windows),
       (30, 2, r.discardedWindows), (32, 4, r.elapsed), (36, 4, r.covered), (40, 4, r.discardedSamples),
       (44, 2, r.nonFundExceeded), (46, 2, 0), (48, 4, r.freqMin), (52, 4, r.freqMax)] ++
       fieldsFrom 56 8 [r.activeImp, r.activeExp, r.q1, r.q2, r.q3, r.q4, r.excess]) ∧
     ∀ (j : Nat) (b : RecordBlock), r.blocks[j]? = some b →
       Holds (bytes.drop (112 + 20 * j)) [(0, 1, b.order), (1, 3, b.exceeded), (4, 8, b.imp), (12, 8, b.exp)]))

/-- ALERT_ACK (R160, R182): the LEVEL entries of the vector lose their awaiting acknowledgement, and are offered; the count
is theirs; a vector outside 0x10..0xFE is BAD-VALUE. That the offers are made on Port A and then on Port B is the model's
choice (notes/assumptions/28.md). -/
def Obligations.AlertAckClearsAwaiting : Prop :=
  ∀ (s : State) (h : ReqHeader) (v : BitVec 16), TakenAtOnce s h → Manages s h →
    (let c := Instr.alertAck h v
     let hit := fun n => isLevel n && (s.dlv.alert n).cfg.vector.toNat == v.toNat && (s.dlv.alert n).awaiting
     (v.toNat < 0x10 ∨ 0xFE < v.toNat → Answers c s h .alertAck .badValue 0 [] (joined s)) ∧
     (0x10 ≤ v.toNat → v.toNat ≤ 0xFE → ∃ d,
       (∀ n, d.alert n = if hit n then { s.dlv.alert n with awaiting := false } else s.dlv.alert n) ∧
       d = { s.dlv with alerts := d.alerts } ∧
       Answers c s h .alertAck .ok ((List.finRange 20).filter hit).length []
         (State.run { joined s with dlv := d } [.offers .a, .offers .b])))

/-- ALERT_CLEAR (R10, R161, R182): the EDGE entries of the vector return to IDLE with pending clear, and their unsent frames
leave both ALERT queues; a removal that leaves a port's local queues empty sets its pass-through counter to 0; LEVEL
entries and all else on the ports stay; then ready entries are offered, on Port A and then on Port B as the model chooses
(notes/assumptions/28.md). -/
def Obligations.AlertClearRemovesUnsentFrames : Prop :=
  ∀ (s : State) (h : ReqHeader) (v : BitVec 16), TakenAtOnce s h → Manages s h →
    (let c := Instr.alertClear h v
     let hit := fun n => !isLevel n && (s.dlv.alert n).cfg.vector.toNat == v.toNat
     (v.toNat < 0x10 ∨ 0xFE < v.toNat → Answers c s h .alertClear .badValue 0 [] (joined s)) ∧
     (0x10 ≤ v.toNat → v.toNat ≤ 0xFE → ∃ d,
       (∀ n, d.alert n = if hit n then { s.dlv.alert n with queuedOn := none, pending := none, count := 0 }
         else s.dlv.alert n) ∧
       (∀ p : Port,
         (let q := s.dlv.port p
          let left := q.alertQ.filter fun f => !hit f.number
          d.port p = { q with
            alertQ := left
            passCount :=
              if left.length < q.alertQ.length ∧ left = [] ∧ q.replyQ = [] ∧ q.reportQ = [] then 0 else q.passCount })) ∧
       d = { s.dlv with portA := d.portA, portB := d.portB, alerts := d.alerts } ∧
       Answers c s h .alertClear .ok ((List.finRange 20).filter fun n => hit n && (s.dlv.alert n).pending.isSome).length []
         (State.run { joined s with dlv := d } [.offers .a, .offers .b])))

/-- PUSH_START (R141, R182): one trigger to an ARMED or SENDING channel; BAD-STATE in DISABLED and DONE; BAD-INDEX beyond
channel 3. The trigger makes an ARMED channel SENDING with a send attempt, which puts it on its port's wait list when it
cannot proceed (R142) and leaves it ARMED when the Record Queue is empty (R144); in SENDING it raises the backlog of a
non-burst channel, up to 255 and then PUSH_BACKLOG_SAT, and is ignored by a burst channel. -/
def Obligations.PushStartTriggersOnce : Prop :=
  ∀ (s : State) (h : ReqHeader) (i : BitVec 16), TakenAtOnce s h → Manages s h →
    (let c := Instr.pushStart h i
     (4 ≤ i.toNat → Answers c s h .pushStart .badIndex 0 [] (joined s)) ∧
     (∀ k : Fin 4, k.val = i.toNat → (s.dlv.channel k).st = .disabled ∨ (s.dlv.channel k).st = .done →
       Answers c s h .pushStart .badState 0 [] (joined s)) ∧
     (∀ k : Fin 4, k.val = i.toNat → (s.dlv.channel k).st = .armed ∨ (s.dlv.channel k).st = .sending →
       Answers c s h .pushStart .ok 0 [] (State.run (joined s) [.trigger k])) ∧
     (∀ k : Fin 4, k.val = i.toNat →
       (let ch := s.dlv.channel k
        let p := ch.cfg.port
        let q := s.dlv.port p
        let leaves := fun d : Delivery => Answers c s h .pushStart .ok 0 [] { joined s with dlv := d }
        (ch.st = .sending → ch.cfg.burst = true → leaves s.dlv) ∧
        (ch.st = .sending → ch.cfg.burst = false → ch.backlog < 255 →
          leaves (s.dlv.setChannel k { ch with backlog := ch.backlog + 1 })) ∧
        (ch.st = .sending → ch.cfg.burst = false → 255 ≤ ch.backlog →
          leaves (s.dlv.setChannel k { ch with backlogSat := ch.backlogSat + 1 })) ∧
        (ch.st = .armed → k ∉ s.dlv.wait p → q.up = false ∨ s.dlv.wait p ≠ [] ∨ 4 ≤ q.reportQ.length →
          leaves ((s.dlv.setChannel k { ch with st := .sending, fresh := true }).setWait p (s.dlv.wait p ++ [k]))) ∧
        (ch.st = .armed → q.up = true → s.dlv.wait p = [] → q.reportQ.length < 4 → s.dlv.recq.records = [] →
          leaves (s.dlv.setChannel k { ch with backlog := 0, fresh := false, emptyTrigger := ch.emptyTrigger + 1 })))))

/-- RESET_POINT (R83, R124, R183): the point's accounts, interval, queues, result and flags are cleared, an open interval
closed with a CUT record or discarded first; its pending configuration is in force, its tracker nominal; its window is given
up, and it begins one of the nominal length when both its slots are LOCKED; its Finish Queue entry is removed with its bank
FREE, or abandoned with its bank OUT while its finish is under way (R95); its tickets are freed in every state (R202). Other points, tickets and entries, the
slots and every table stay. BAD-INDEX beyond point 23. -/
def Obligations.ResetPointClearsThePoint : Prop :=
  ∀ (s : State) (h : ReqHeader) (i : BitVec 16), TakenAtOnce s h → Manages s h →
    (let c := Instr.resetPoint h i
     (24 ≤ i.toNat → Answers c s h .resetPoint .badIndex 0 [] (joined s)) ∧
     (∀ k : Fin 24, k.val = i.toNat → ∃ t, Answers c s h .resetPoint .ok 0 [] t ∧
       (let o := s.point k
        let p := t.point k
        let close := o.closeNow k true s.dlv.recq.freeWords
        p.acc = .zero ∧ p.ivl = .empty ∧ p.result = none ∧ p.harmFlag = false ∧ p.excessFlag = false ∧ p.vQueue = [] ∧
        p.iQueue = [] ∧ p.waitingCfg = none ∧ p.changeMark = false ∧ p.framer.trk.untracked = false ∧
        p.framer.seq = o.framer.seq ∧ p.cfg = o.waitingCfg.getD o.cfg ∧ p.framer.trk = nominalTracker p.cfg ∧
        p.framer.ctr = o.framer.ctr ∧ p.finished = o.finished ∧ p.iau = close.1.iau ∧
        p.pair = { o.pair with
          unpaired := o.pair.unpaired + BitVec.ofNat 32 (o.vQueue.length + o.iQueue.length) } ∧
        (o.framer.st = .disabled → p.framer.st = .disabled) ∧
        (o.framer.st ≠ .disabled → p.framer.st = .waiting ∨ p.framer.st = .collecting) ∧
        (p.framer.st = .collecting ↔
          o.framer.st ≠ .disabled ∧ (s.slot p.cfg.vSlot).st = .locked ∧ (s.slot p.cfg.iSlot).st = .locked) ∧
        (p.framer.st ≠ .collecting → p.framer.window = none ∧ ∀ ix b, p.framer.bank ix ≠ .active b) ∧
        (p.framer.st = .collecting → ∃ w b, p.framer.window = some w ∧ p.framer.bank w.bank = .active b ∧ w.start = none ∧
          w.pos = 0 ∧ w.covered = 0 ∧ w.len = nominalLength p.cfg ∧ w.cfg = p.cfg) ∧
        t.dlv.recq.appended = s.dlv.recq.appended + (if close.2.isSome then 1 else 0)) ∧
       (∀ j : Fin 24, j ≠ k → t.point j = s.point j) ∧
       t.agent = { (joined s).agent with tickets := s.agent.tickets.map (Ticket.resetFor k) } ∧
       (∀ q : Fin 4, ∀ since copy, t.agent.tickets[q] ≠ .waiting k since ∧ t.agent.tickets[q] ≠ .ready k since copy) ∧
       (let f := s.finisher
        let under := ∃ e rest, f.queue = e :: rest ∧ e.point = k ∧ f.active.isSome = true
        (under → t.finisher = { f with active := f.active.map fun a => { a with abandoned := true } }) ∧
        (∀ e rest b, f.queue = e :: rest → e.point = k → f.active.isSome = true → (s.point k).framer.bank e.bank = .out b →
          (∀ x, (s.point k).framer.bank (otherBank e.bank) ≠ .out x) → (t.point k).framer.bank e.bank = .out b) ∧
        (¬ under → ∀ e ∈ f.queue, e.point = k → (∀ x ∈ f.queue, x.point = k → x = e) →
          ∀ b, (t.point k).framer.bank e.bank ≠ .out b) ∧
        (¬ under → t.finisher = { f with queue := t.finisher.queue } ∧ (∀ e ∈ t.finisher.queue, e.point ≠ k) ∧
          t.finisher.queue.filter (fun e => e.point ≠ k) = f.queue.filter fun e => e.point ≠ k)) ∧
       (∀ n : Fin 20, (t.dlv.alert n).cfg = (s.dlv.alert n).cfg) ∧
       (∀ b : Fin 4, (t.dlv.channel b).cfg = (s.dlv.channel b).cfg) ∧
       t = { joined s with points := t.points, finisher := t.finisher, dlv := t.dlv, agent := t.agent }))

/-- RESTART_ACCOUNTING (R10, R41, R61, R83, R95, R103, R106, R127, R135, R147, R166, R184, R202): what every block is left as:
slots, points with their framers and banks, Finisher, Record Queue, push channels, alert entries with the frames that had
not been sent, and tickets; then the entries still ready are offered, on Port A and then on Port B as the model chooses
(notes/assumptions/28.md). Everything else stays. -/
def Obligations.RestartClearsTheAccounting : Prop :=
  ∀ (s : State) (h : ReqHeader), TakenAtOnce s h → Manages s h →
    ∃ (t : State) (d : Delivery), Answers (.restartAccounting h) s h .restartAccounting .ok 0 [] t ∧
      t = State.run { joined s with
        slots := t.slots, points := t.points, finisher := t.finisher, dlv := d
        agent := { (joined s).agent with tickets := Vector.replicate 4 .free } } [.offers .a, .offers .b] ∧
      (∀ k : Fin 32, t.slot k = { Slot.init with
        cfg := (s.slot k).cfg, st := if (s.slot k).cfg.enabled then .idle else .disabled }) ∧
      (∀ i : Fin 24,
        (let o := s.point i
         let p := t.point i
         p.cfg = o.waitingCfg.getD o.cfg ∧ p.waitingCfg = none ∧ p.changeMark = false ∧
         (p.cfg.enabled = true → p.vLocked = false ∧ p.iLocked = false) ∧ p.vQueue = [] ∧ p.iQueue = [] ∧ p.pair = .zero ∧
         p.framer.st = (if p.cfg.enabled then .waiting else .disabled) ∧ p.framer.window = none ∧
         p.framer.trk = nominalTracker p.cfg ∧ p.framer.seq = 0 ∧ p.framer.ctr = .zero ∧
         (∀ ix : BankIx,
           (let under := ∃ e rest, s.finisher.queue = e :: rest ∧ s.finisher.active.isSome = true ∧ e.point = i ∧ e.bank = ix
            (under → p.framer.bank ix = o.framer.bank ix) ∧ (¬ under → p.framer.bank ix = .free))) ∧
         p.result = none ∧ p.harmFlag = false ∧ p.excessFlag = false ∧ p.finished = 0 ∧ p.acc = .zero ∧ p.ivl = .empty ∧
         p.iau = .zero)) ∧
      t.finisher = { s.finisher with
        queue := if s.finisher.active.isSome then s.finisher.queue.take 1 else []
        active := s.finisher.active.map fun a => { a with abandoned := true }
        abandonedCount := 0, peak := 0 } ∧
      d.recq = .init ∧ d.waitA = [] ∧ d.waitB = [] ∧
      (∀ c : Fin 4,
        (let ch := s.dlv.channel c
         d.channel c = { ch with
           st := if ch.cfg.enabled then .armed else .disabled, remaining := ch.cfg.count, backlog := 0, fresh := false
           framesPushed := 0, recordsSent := 0, emptyTrigger := 0, backlogSat := 0 })) ∧
      t.dlv.recq = .init ∧ t.dlv.waitA = [] ∧ t.dlv.waitB = [] ∧ t.dlv.channels = d.channels ∧
      (∀ n : Fin 20,
        (let a := s.dlv.alert n
         d.alert n = { a with
           pending := none, count := 0, awaiting := false, queuedOn := none
           active := if isLevel n ∧ n ≠ 19 then false else a.active
           detail := if isLevel n ∧ n ≠ 19 then 0 else a.detail })) ∧
      (∀ p : Port,
        (let q := s.dlv.port p
         d.port p = { q with
           alertQ := []
           passCount := if q.alertQ ≠ [] ∧ q.replyQ = [] ∧ q.reportQ = [] then 0 else q.passCount }))

/-- LOCK_METROLOGY (R180): refused BAD-STATE with an empty manager list; otherwise the lock is set, whether or not it was. -/
def Obligations.LockNeedsAManager : Prop :=
  ∀ (s : State) (h : ReqHeader), TakenAtOnce s h →
    (s.device.managers = [] → Answers (.lockMetrology h) s h .lockMetrology .badState 0 [] (joined s)) ∧
    (h.source ∈ s.device.managers →
      Answers (.lockMetrology h) s h .lockMetrology .ok 0 []
        { joined s with device := { s.device with metrologyLock := true } })

/-! ## Loads and snapshots (chapter 10) -/

/-- LOAD_OPEN (R190): its five checks in order, and the load it opens. -/
def Obligations.LoadOpenChecksInOrder : Prop :=
  ∀ (s : State) (h : ReqHeader) (space : Byte) (index count : BitVec 16), TakenAtOnce s h → Manages s h →
    (let c := Instr.loadOpen h space index count
     let refused := fun st => Answers c s h .loadOpen st 0 [] (joined s)
     (spaceOf space.toNat = none → refused .badSpace) ∧
     ∀ sp, spaceOf space.toNat = some sp →
       if sp = .counters ∨ sp = .result then refused .readOnly
       else if count = 0 ∨ spaceEntries sp < index.toNat + count.toNat then refused .badIndex
       else if s.agent.load ≠ none then refused .busy
       else if sp = .hset ∧ s.device.metrologyLock = true then refused .locked
       else Answers c s h .loadOpen .ok (count.toNat * writeSize sp) []
         { joined s with agent := { (joined s).agent with
             load := some { opener := h.source, space := sp, first := index.toNat, count := count.toNat, staged := []
                            lastActivity := timebase s }
             loadsOpened := s.agent.loadsOpened + 1 } })

/-- LOAD_DATA (R191, R194): its five checks in order; accepted bytes join the tail; the opener's request refreshes the load
whether it is accepted or not. -/
def Obligations.LoadDataAppendsInOrder : Prop :=
  ∀ (s : State) (h : ReqHeader) (offset count : BitVec 16) (data : List Byte), TakenAtOnce s h → Manages s h →
    (let c := Instr.loadData h offset count data
     (s.agent.load = none → Answers c s h .loadData .noLoad 0 [] (joined s)) ∧
     ∀ l, s.agent.load = some l →
       (let refreshed := State.setLoad (some { l with lastActivity := timebase s }) (joined s)
        if h.source ≠ l.opener then Answers c s h .loadData .busy 0 [] (joined s)
        else if data.length ≠ count.toNat then Answers c s h .loadData .short l.staged.length [] refreshed
        else if offset.toNat ≠ l.staged.length then Answers c s h .loadData .badOffset l.staged.length [] refreshed
        else if l.total < l.staged.length + count.toNat then Answers c s h .loadData .loadSize l.staged.length [] refreshed
        else Answers c s h .loadData .ok (l.staged.length + count.toNat) []
          (State.setLoad (some { l with staged := l.staged ++ data, lastActivity := timebase s }) (joined s))))

/-- LOAD_CLOSE (R192): its checks in order; a failed close discards the load and writes nothing; a good one applies the
staged entries as one write. Check 6 names the first entry that changes a protected field, then the first index when the bytes
have not their length, then the first entry that is not valid, then the first harmonic set in use (R175, R181). That SHORT names
the first index is the model's reading (notes/assumptions/33.md), and that an entry cut short is left to the length check is its
choice (notes/assumptions/23.md). -/
def Obligations.LoadCloseAppliesOrDiscards : Prop :=
  (∀ (s : State) (h : ReqHeader) (data : List Byte), TakenAtOnce s h → Manages s h →
    (let c := Instr.loadClose h data
     (s.agent.load = none → Answers c s h .loadClose .noLoad 0 [] (joined s)) ∧
     ∀ l, s.agent.load = some l →
       (let closed := State.setLoad none (joined s)
        if h.source ≠ l.opener then Answers c s h .loadClose .busy 0 [] (joined s)
        else if data.length < 4 then
          Answers c s h .loadClose .short 0 [] (State.setLoad (some { l with lastActivity := timebase s }) (joined s))
        else if l.staged.length ≠ l.total then Answers c s h .loadClose .loadSize l.staged.length [] closed
        else if (crc32 l.staged).toNat ≠ beToNat (data.take 4) then Answers c s h .loadClose .loadCrc 0 [] closed
        else
          (∀ e, checkStaged s l = some e → Answers c s h .loadClose e.status 0 (beNat 2 e.index) closed) ∧
          (checkStaged s l = none → Answers c s h .loadClose .ok l.count []
            (State.applyWrite l.space l.first l.count l.staged
              { closed with agent := { closed.agent with loadsApplied := s.agent.loadsApplied + 1 } }))))) ∧
  (∀ (s : State) (l : Load),
    (let bytes := fun j : Nat => entryBytes l.space l.staged j
     let locked := fun j : Nat => s.device.metrologyLock = true ∧ changesProtected s l.space (l.first + j) (bytes j) = true
     let bad := fun j : Nat => decodeEntry s.device.metrologyLock l.space (bytes j) = none
     let named := fun j : Nat => l.space = .hset ∧ hsetNamed s (l.first + j) = true
     let unlocked := ∀ j < l.count, ¬ locked j
     let whole := l.staged.length = l.count * writeSize l.space
     let valid := ∀ j < l.count, ¬ bad j
     let c := checkStaged s l
     (∀ j < l.count, locked j → (∀ i < j, ¬ locked i) → c = some ⟨.locked, l.first + j⟩) ∧
     (unlocked → ¬ whole → c = some ⟨.short, l.first⟩) ∧
     (unlocked → whole → ∀ j < l.count, bad j → (∀ i < j, ¬ bad i) → c = some ⟨.badValue, l.first + j⟩) ∧
     (unlocked → whole → valid → ∀ j < l.count, named j → (∀ i < j, ¬ named i) → c = some ⟨.inUse, l.first + j⟩) ∧
     (c = none ↔ unlocked ∧ whole ∧ valid ∧ ∀ j < l.count, ¬ named j)))

/-- LOAD_ABORT (R193): NO-LOAD without a load, BUSY from another node, otherwise the load is discarded, no entry is changed,
and the count is the staged count, whatever it is. -/
def Obligations.LoadAbortDiscards : Prop :=
  ∀ (s : State) (h : ReqHeader), TakenAtOnce s h → Manages s h →
    (let c := Instr.loadAbort h
     (s.agent.load = none → Answers c s h .loadAbort .noLoad 0 [] (joined s)) ∧
     (∀ l, s.agent.load = some l → h.source ≠ l.opener → Answers c s h .loadAbort .busy 0 [] (joined s)) ∧
     (∀ l, s.agent.load = some l → h.source = l.opener →
       Answers c s h .loadAbort .ok l.staged.length []
         { joined s with agent := { (joined s).agent with load := none } }))

/-- LOAD_EXPIRED (R194): at 1,000 ms without activity the load is gone, LOADS_EXPIRED rises and the source LOAD_EXPIRED has
one occurrence. TICKET_EXPIRED (R201): at its limit, 5,000 ms WAITING or 2,000 ms READY, the ticket is FREE, counted, and
its source has one occurrence. Before its moment neither does anything (notes/assumptions/3.md). -/
def Obligations.LoadsAndTicketsExpireAtTheirLimits : Prop :=
  (∀ s : State, s.inReset = false →
    (s.agent.load = none → exec .loadExpired s = .next s) ∧
    (∀ l, s.agent.load = some l → timebase s < l.lastActivity + 1000 → exec .loadExpired s = .next s) ∧
    (∀ l, s.agent.load = some l → l.lastActivity + 1000 ≤ timebase s → ∃ t, exec .loadExpired s = .next t ∧
      t.agent = { s.agent with load := none, loadsExpired := s.agent.loadsExpired + 1 } ∧
      (t.dlv.alert 17).occurrences = (s.dlv.alert 17).occurrences + 1 ∧
      t = { s with agent := t.agent, dlv := t.dlv })) ∧
  (∀ (s : State) (q : Fin 4), s.inReset = false →
    (let expires := ∃ t, exec (.ticketExpired q) s = .next t ∧
       t.agent = { s.agent with tickets := s.agent.tickets.set q .free, ticketsExpired := s.agent.ticketsExpired + 1 } ∧
       (t.dlv.alert 18).occurrences = (s.dlv.alert 18).occurrences + 1 ∧ t = { s with agent := t.agent, dlv := t.dlv }
     (s.agent.tickets[q] = .free → exec (.ticketExpired q) s = .next s) ∧
     (∀ k since, s.agent.tickets[q] = .waiting k since →
       if since + 5000 ≤ timebase s then expires else exec (.ticketExpired q) s = .next s) ∧
     (∀ k since copy, s.agent.tickets[q] = .ready k since copy →
       if since + 2000 ≤ timebase s then expires else exec (.ticketExpired q) s = .next s)))

/-- SNAPSHOT_ISSUE (R198): BAD-INDEX, BUSY, BAD-STATE in order; otherwise the lowest FREE ticket is issued, WAITING when a
finish is outstanding or the framer is COLLECTING, else READY with the copy, and RETRY names it. A finish is outstanding while an
entry of the point waits, or is being finished and is not abandoned. The copy holds the point, the number of its latest result or
0, its open interval and accumulators as they stand, and the timebase; at a completion of the point (R102, 4) every WAITING
ticket of it becomes READY with its copy, and no other ticket changes (R199). -/
def Obligations.SnapshotIssueTakesTheLowestTicket : Prop :=
  (∀ (s : State) (h : ReqHeader) (i : BitVec 16), TakenAtOnce s h → Manages s h →
    (let c := Instr.snapshotIssue h i
     (24 ≤ i.toNat → Answers c s h .snapshot .badIndex 0 [] (joined s)) ∧
     ∀ k : Fin 24, k.val = i.toNat →
       ((∀ q : Fin 4, s.agent.tickets[q] ≠ .free) → Answers c s h .snapshot .busy 0 [] (joined s)) ∧
       (∀ q : Fin 4, s.agent.tickets[q] = .free → (∀ r : Fin 4, r < q → s.agent.tickets[r] ≠ .free) →
         (if (s.point k).cfg.enabled = false then Answers c s h .snapshot .badState 0 [] (joined s)
          else Answers c s h .snapshot .retry (q.val + 1) []
            { joined s with agent := { (joined s).agent with
                tickets := s.agent.tickets.set q
                  (if s.finisher.outstanding k ∨ (s.point k).framer.st = .collecting then .waiting k (timebase s)
                   else .ready k (timebase s) (snapshotCopy k (timebase s) (s.point k)))
                issued := s.agent.issued + 1 } })))) ∧
  (∀ (k : Fin 24) (f : Finisher),
    f.outstanding k = true ↔
      (∃ e ∈ f.queue.drop 1, e.point = k) ∨
      ∃ e rest, f.queue = e :: rest ∧ e.point = k ∧ ∀ a, f.active = some a → a.abandoned = false) ∧
  (∀ (k : Fin 24) (now : Nat) (p : Point),
    (let c := snapshotCopy k now p
     c.point = k ∧ c.ivl = p.ivl ∧ c.acc = p.acc ∧ c.takenAt = now ∧ (p.result = none → c.seq = 0) ∧
     (∀ r, p.result = some r → c.seq = r.seq) ∧
     (∀ since, (Ticket.waiting k since).complete k now p = .ready k now c) ∧
     ∀ t : Ticket, (∀ since, t ≠ .waiting k since) → t.complete k now p = t))

/-- SNAPSHOT_RETRIEVE (R200): NO-TICKET for a FREE ticket or one of another point, RETRY while WAITING, and the copy when
READY, which frees the ticket; BAD-INDEX outside the points and tickets. The snapshot data is laid out as 11.4 has it (R199, 1 to
6): the interval's fields, each absent one marked absent and sent as 0, the fundamental accumulators with their remainders, and a
block for each order of 2 or more in the interval's list; a value takes its field's width (notes/assumptions/13.md). -/
def Obligations.SnapshotRetrieveDeliversOnce : Prop :=
  (∀ (s : State) (h : ReqHeader) (i ticket : BitVec 16), TakenAtOnce s h → Manages s h → ticket ≠ 0 →
    (let c := Instr.snapshotRetrieve h i ticket
     (24 ≤ i.toNat ∨ 4 < ticket.toNat → Answers c s h .snapshot .badIndex 0 [] (joined s)) ∧
     ∀ (k : Fin 24) (q : Fin 4), k.val = i.toNat → q.val + 1 = ticket.toNat →
       (s.agent.tickets[q] = .free → Answers c s h .snapshot .noTicket 0 [] (joined s)) ∧
       (∀ j since, s.agent.tickets[q] = .waiting j since → j ≠ k → Answers c s h .snapshot .noTicket 0 [] (joined s)) ∧
       (∀ since, s.agent.tickets[q] = .waiting k since →
         Answers c s h .snapshot .retry ticket.toNat [] (joined s)) ∧
       (∀ j since copy, s.agent.tickets[q] = .ready j since copy → j ≠ k →
         Answers c s h .snapshot .noTicket 0 [] (joined s)) ∧
       (∀ since copy, s.agent.tickets[q] = .ready k since copy →
         Answers c s h .snapshot .ok ticket.toNat (encodeSnapshot copy)
           { joined s with agent := { (joined s).agent with
               tickets := s.agent.tickets.set q .free, delivered := s.agent.delivered + 1 } }))) ∧
  (∀ c : SnapshotCopy,
    (let orders := (c.ivl.fields.map fun f => f.orders).getD []
     let blocks := orders.filter fun o => 2 ≤ o.order
     let accum := fun (off : Nat) (a : Accum) => [(off, 8, a.whole), (off + 8, 4, a.rem)]
     let a := c.acc
     let bytes := encodeSnapshot c
     Laid bytes (152 + 28 * blocks.length) ([(0, 1, c.point.val), (1, 1, flagBit c.ivl.fields.isSome), (2, 1, orders.length),
       (3, 1, 0), (4, 4, c.seq.toNat), (8, 4, c.takenAt), (34, 2, c.ivl.discardedWindows), (52, 4, c.ivl.discardedSamples),
       (66, 2, 0)] ++
       accum 68 a.activeImp ++ accum 80 a.activeExp ++ accum 92 a.q1 ++ accum 104 a.q2 ++ accum 116 a.q3 ++ accum 128 a.q4 ++
       accum 140 a.excess) ∧
     (c.ivl.fields = none → Holds bytes [(12, 4, 0), (16, 4, 0), (20, 4, 0), (24, 2, 0), (26, 2, 0), (28, 6, 0), (36, 6, 0),
       (42, 2, 0), (44, 4, 0), (48, 4, 0), (56, 4, 0), (60, 4, 0), (64, 2, 127)]) ∧
     (∀ f, c.ivl.fields = some f → Holds bytes [
       (12, 4, flagBit f.flags.merged + flagBit f.flags.reconfigured 2 + flagBit f.flags.timeStep 3 + flagBit f.flags.untracked 8 +
         flagBit f.flags.clamped 9 + flagBit f.flags.bridged 10 + flagBit f.flags.incomplete 11),
       (16, 4, f.firstNo), (20, 4, f.lastNo), (24, 2, f.openLen), (26, 2, f.windows), (28, 6, f.firstStart),
       (36, 6, f.lastEnd), (42, 2, f.nonFundExceeded), (44, 4, f.elapsed), (48, 4, f.covered), (56, 4, f.freqMin.getD 0),
       (60, 4, f.freqMax.getD 0), (64, 2, flagBit f.freqMin.isNone 6)]) ∧
     ∀ (j : Nat) (o : OrderCount), blocks[j]? = some o →
       (let h := (a.harm[o.order - 2]?).getD { imp := { whole := 0, rem := 0 }, exp := { whole := 0, rem := 0 } }
        Holds (bytes.drop (152 + 28 * j)) ([(0, 1, o.order), (1, 3, o.exceeded)] ++ accum 4 h.imp ++ accum 16 h.exp))))

/-! ## Layouts (chapter 11) -/

/-- A frame the part seals passes the length and CRC checks of any part that receives it, with its header as it was
given (R3, R4, R5, R206). The frames it builds are sealed with their kind and flags 0 and a payload laid out as 11.2 has it
(R142, R157, R171), and a forwarded frame goes on as it came (R8). -/
def Obligations.SealedFramesPassTheChecks : Prop :=
  (∀ (node dest source : Node) (kind : Nat) (payload : List Byte), kind < 256 → payload.length ≤ 1500 →
    (let f := sealFrame dest source kind payload
     verdict node f = (if source = node then .looped else .accepted) ∧ f.length = payload.length + 12 ∧
       frameDest f = dest ∧ frameSource f = source ∧ frameKind f = kind ∧ frameFlags f = 0 ∧ framePayload f = payload)) ∧
  (∀ f : List Byte, (TxFrame.pass f).bytes = f) ∧
  (∀ f : AlertFrame, ∃ y, (TxFrame.alert f).bytes = sealFrame f.dest f.source 0x04 y ∧
    Laid y 16 [(0, 1, f.vector.toNat), (1, 1, f.number.val), (2, 1, f.level), (3, 1, if f.edge then 0 else 0x81),
      (4, 1, f.count), (5, 3, 0), (8, 4, f.detail.toNat), (12, 4, f.timebase.toNat)]) ∧
  (∀ f : ReplyFrame, ∃ y, (TxFrame.reply f).bytes = sealFrame f.dest f.source 0x03 (y ++ f.data) ∧
    Laid y 6 [(0, 2, f.tag.toNat), (2, 1, statusCode f.status), (3, 1, f.kind.toNat), (4, 2, f.count.toNat)]) ∧
  (∀ f : RecordFrame, ∃ y, (TxFrame.report f).bytes = sealFrame f.dest f.source 0x05 (y ++ f.records.flatMap encodeRecord) ∧
    Laid y 6 [(0, 1, f.channel.val), (1, 1, f.records.length), (2, 4, f.seq.toNat)])

/-- The written part of an entry, as a READ returns it, has the write size of its space and, written back, is read as the
same entry (R205, R207, R208). -/
def Obligations.WrittenPartsReadBack : Prop :=
  (∀ w, (encodeWindow w).length = writeSize .window ∧ decodeWindow (encodeWindow w) = some w) ∧
  (∀ c : SlotCfg, c.Legal → (encodeSlotCfg c).length = writeSize .slot ∧ decodeSlotCfg (encodeSlotCfg c) = some c) ∧
  (∀ c : PointCfg, c.Legal → (encodePointCfg c).length = writeSize .point ∧ decodePointCfg (encodePointCfg c) = some c) ∧
  (∀ l, validOrders l = true → (encodeHset l).length = writeSize .hset ∧ decodeHset (encodeHset l) = some l) ∧
  (∀ l : LimitProfile, l.Legal → (encodeLimit l).length = writeSize .limit ∧ decodeLimit (encodeLimit l) = some l) ∧
  (∀ c : AlertCfg, c.Legal → (encodeAlertCfg c).length = writeSize .alert ∧ decodeAlertCfg (encodeAlertCfg c) = some c) ∧
  (∀ c : PushCfg, c.count ≤ 65535 → (encodePushCfg c).length = writeSize .push ∧ decodePushCfg (encodePushCfg c) = some c) ∧
  (∀ s, DeviceLegal s → (encodeDeviceCfg s.device).length = writeSize .device ∧
    decodeDevice s.device.metrologyLock (encodeDeviceCfg s.device) = some s.device)

/-! ## Laws every step keeps -/

/-- No queue, buffer or store outgrows its room: the Record Queue holds at most 16,384 words, the frame and request
queues and the wait lists keep their capacities, and the staged bytes fit the load (R7, R9, R130, R143, R169, R189). -/
def Obligations.EveryStepKeepsTheCapacities : Prop :=
  ∀ s t : State, step s = .next t →
    (RecordQueueFits s → RecordQueueFits t) ∧ (QueuesWithinCapacity s → QueuesWithinCapacity t) ∧
      (LoadWithinRoom s → LoadWithinRoom t)

/-- The queues of a DOWN port stay empty for as long as it is DOWN (R15, R16). -/
def Obligations.EveryStepKeepsDownPortsEmpty : Prop :=
  ∀ s t : State, DownPortsHoldNothing s → step s = .next t → DownPortsHoldNothing t

/-- An alert entry is never SEND-PENDING and awaiting acknowledgement at once (R159). -/
def Obligations.EveryStepKeepsAlertsApart : Prop :=
  ∀ s t : State, AlertsNeverBoth s → step s = .next t → AlertsNeverBoth t

/-- The DEVICE fields stay in their ranges and the lock stands with a permitted manager; every table entry stays in its
ranges, whoever writes it; every accumulator remainder stays below its divisor (R27, R45, R91, R111, R151, R178, R181). -/
def Obligations.EveryStepKeepsValuesInRange : Prop :=
  ∀ s t : State, step s = .next t →
    (DeviceLegal s → DeviceLegal t) ∧ (TablesLegal s → TablesLegal t) ∧ (RemaindersBelow s → RemaindersBelow t)

/-- Window record, framer state and configuration of every point stay in agreement (R48, R65). With them, so do the Finish Queue
and the banks: at most 24 entries, never two of one point, a bank OUT exactly when an entry names it and ACTIVE exactly when
the window collected names it, and the Finisher at work exactly while the queue is not empty (R69, R93, R94); and so do the
alignment queues: at most one of a point's two is not empty, each holds at most 16 sets in strictly increasing index (R55),
waiting in enabled points of two LOCKED slots alone (R51, R54, R59); with a slot DISABLED exactly when its entry says so (R40). -/
def Obligations.EveryStepKeepsPointsSound : Prop :=
  (∀ s t : State, PointsSound s → step s = .next t → PointsSound t) ∧
  (∀ s t : State, PointsSound s → FinishQueueSound s → step s = .next t → FinishQueueSound t) ∧
  (∀ s t : State, PointsSound s → PairingSound s → step s = .next t → PairingSound t)

/-- Every law holds right after reset (R209). -/
def Obligations.EveryLawHoldsAtReset : Prop :=
  RecordQueueFits State.reset ∧ DownPortsHoldNothing State.reset ∧ QueuesWithinCapacity State.reset ∧
    AlertsNeverBoth State.reset ∧ LoadWithinRoom State.reset ∧ DeviceLegal State.reset ∧ RemaindersBelow State.reset ∧
    PointsSound State.reset ∧ TablesLegal State.reset ∧ FinishQueueSound State.reset ∧ PairingSound State.reset
end

