-- ==== Sys2Proof/Laws/Bytes.lean ====
section
/-! SUPPORT. Big-endian fields: what is written is read back, and the fields of a request's payload. -/

namespace Sys2Proof.Machine

@[simp] theorem length_beNat (w n : Nat) : (beNat w n).length = w := by
  induction w with
  | zero => rfl
  | succ w ih => simp [beNat, ih]

@[simp] theorem length_pad (w : Nat) : (pad w).length = w := by simp [pad]

/-- The fold of `beToNat` from another start. -/
theorem beFold_start (l : List Byte) (a : Nat) :
    l.foldl (fun a b => a * 256 + b.toNat) a = a * 256 ^ l.length + beToNat l := by
  induction l generalizing a with
  | nil => simp [beToNat]
  | cons b l ih =>
    have h0 : beToNat (b :: l) = b.toNat * 256 ^ l.length + beToNat l := by
      show l.foldl (fun a b => a * 256 + b.toNat) (0 * 256 + b.toNat) = _
      rw [ih]; simp
    rw [List.foldl_cons, ih, h0, List.length_cons, Nat.pow_succ, Nat.add_mul, Nat.add_assoc, Nat.mul_assoc,
      Nat.mul_comm 256]

theorem beToNat_cons (b : Byte) (l : List Byte) : beToNat (b :: l) = b.toNat * 256 ^ l.length + beToNat l := by
  show l.foldl (fun a b => a * 256 + b.toNat) (0 * 256 + b.toNat) = _
  rw [beFold_start]; simp

/-- A number written in w bytes is read back modulo 256^w (R205). -/
@[simp] theorem beToNat_beNat (w n : Nat) : beToNat (beNat w n) = n % 256 ^ w := by
  induction w with
  | zero => simp [beNat, beToNat, Nat.mod_one]
  | succ w ih =>
    have hm : n % 256 ^ (w + 1) = n % 256 ^ w + 256 ^ w * (n / 256 ^ w % 256) := by rw [Nat.pow_succ, Nat.mod_mul]
    rw [beNat, beToNat_cons, ih, length_beNat, BitVec.toNat_ofNat, hm, Nat.add_comm, Nat.mul_comm]

/-- A byte alone. -/
@[simp] theorem beToNat_single (b : Byte) : beToNat [b] = b.toNat := by simp [beToNat]

/-- A field that starts past a first run of bytes. -/
theorem field_append_skip (off w : Nat) (a b : List Byte) (h : a.length ≤ off) :
    field off w (a ++ b) = field (off - a.length) w b := by
  simp only [field, List.drop_append]
  rw [List.drop_eq_nil_of_le h, List.nil_append]

/-- A field that is the first run of bytes. -/
theorem field_append_here (a b : List Byte) : field 0 a.length (a ++ b) = beToNat a := by
  simp [field]

/-! ## Request payloads (11.2) -/

section Payload

variable (tag : BitVec 16) (k : Nat) (space : Byte) (index count : BitVec 16) (data : List Byte)

@[simp] theorem length_requestPayload : (requestPayload tag k space index count data).length = 8 + data.length := by
  simp [requestPayload]; omega

/-- The first 8 bytes are always there. -/
theorem reqField_requestPayload (off w : Nat) (h : off + w ≤ 8) :
    reqField off w (requestPayload tag k space index count data) =
      field off w (beNat 2 tag.toNat ++ (beNat 1 k ++ ([space] ++ (beNat 2 index.toNat ++ (beNat 2 count.toNat ++ data))))) := by
  rw [reqField, if_pos (by rw [length_requestPayload]; omega)]
  simp only [requestPayload, List.append_assoc]

theorem reqTag_requestPayload : reqTag (requestPayload tag k space index count data) = tag := by
  have h := field_append_here (beNat 2 tag.toNat) (beNat 1 k ++ ([space] ++ (beNat 2 index.toNat ++ (beNat 2 count.toNat ++ data))))
  simp only [length_beNat, beToNat_beNat] at h
  rw [reqTag, reqField_requestPayload _ _ _ _ _ _ _ _ (by omega), h]
  have := tag.isLt
  apply BitVec.eq_of_toNat_eq
  simpa using this

theorem reqKind_requestPayload (hk : k < 256) : reqKind (requestPayload tag k space index count data) = k := by
  have h := field_append_here (beNat 1 k) ([space] ++ (beNat 2 index.toNat ++ (beNat 2 count.toNat ++ data)))
  simp only [length_beNat, beToNat_beNat] at h
  rw [reqKind, reqField_requestPayload _ _ _ _ _ _ _ _ (by omega), field_append_skip _ _ _ _ (by simp), length_beNat, Nat.sub_self, h]
  omega

theorem reqSpace_requestPayload : reqSpace (requestPayload tag k space index count data) = space.toNat := by
  have h := field_append_here [space] (beNat 2 index.toNat ++ (beNat 2 count.toNat ++ data))
  simp only [List.length_singleton, beToNat_single] at h
  rw [reqSpace, reqField_requestPayload _ _ _ _ _ _ _ _ (by omega), field_append_skip _ _ _ _ (by simp), length_beNat, field_append_skip _ _ _ _ (by simp),
    length_beNat, h]

theorem reqIndex_requestPayload : reqIndex (requestPayload tag k space index count data) = index.toNat := by
  have h := field_append_here (beNat 2 index.toNat) (beNat 2 count.toNat ++ data)
  simp only [length_beNat, beToNat_beNat] at h
  rw [reqIndex, reqField_requestPayload _ _ _ _ _ _ _ _ (by omega), field_append_skip _ _ _ _ (by simp), length_beNat, field_append_skip _ _ _ _ (by simp),
    length_beNat, field_append_skip _ _ _ _ (by simp), List.length_singleton, h]
  have := index.isLt
  omega

theorem reqCount_requestPayload : reqCount (requestPayload tag k space index count data) = count.toNat := by
  have h := field_append_here (beNat 2 count.toNat) data
  simp only [length_beNat, beToNat_beNat] at h
  rw [reqCount, reqField_requestPayload _ _ _ _ _ _ _ _ (by omega), field_append_skip _ _ _ _ (by simp), length_beNat, field_append_skip _ _ _ _ (by simp),
    length_beNat, field_append_skip _ _ _ _ (by simp), List.length_singleton, field_append_skip _ _ _ _ (by simp),
    length_beNat, h]
  have := count.isLt
  omega

theorem reqData_requestPayload : reqData (requestPayload tag k space index count data) = data := by
  have h : (beNat 2 tag.toNat ++ beNat 1 k ++ [space] ++ beNat 2 index.toNat ++ beNat 2 count.toNat).length = 8 := by simp
  rw [reqData, requestPayload, ← h]
  exact List.drop_left

end Payload

end Sys2Proof.Machine
end

