-- ==== Sys2Proof/Laws/Framer.lean ====
section
/-! SUPPORT. What the shared operations of the framer and of the Pairing Unit can do, said once. -/

namespace Sys2Proof.Machine

/-! ## Banks -/

@[simp] theorem Framer.setBank_bank_same (f : Framer) (ix : BankIx) (b : Bank) : (f.setBank ix b).bank ix = b := by
  cases ix <;> rfl

@[simp] theorem Framer.setBank_bank_other (f : Framer) (ix : BankIx) (b : Bank) :
    (f.setBank ix b).bank (otherBank ix) = f.bank (otherBank ix) := by cases ix <;> rfl

@[simp] theorem Framer.setBank_st (f : Framer) (ix : BankIx) (b : Bank) : (f.setBank ix b).st = f.st := by
  cases ix <;> rfl

@[simp] theorem Framer.setBank_window (f : Framer) (ix : BankIx) (b : Bank) : (f.setBank ix b).window = f.window := by
  cases ix <;> rfl

@[simp] theorem Framer.setBank_trk (f : Framer) (ix : BankIx) (b : Bank) : (f.setBank ix b).trk = f.trk := by
  cases ix <;> rfl

@[simp] theorem Framer.setBank_seq (f : Framer) (ix : BankIx) (b : Bank) : (f.setBank ix b).seq = f.seq := by
  cases ix <;> rfl

@[simp] theorem Framer.setBank_ctr (f : Framer) (ix : BankIx) (b : Bank) : (f.setBank ix b).ctr = f.ctr := by
  cases ix <;> rfl

/-! ## Beginning a window (R66, R67) -/

/-- A window begun: the framer is COLLECTING with the new record, and the change mark is given to it. -/
theorem Point.beginWindow_framer (ctx : PointCtx) (ix : BankIx) (p : Point) :
    (p.beginWindow ctx ix).framer.st = .collecting ∧ (p.beginWindow ctx ix).framer.window = some (newWindow p ix) ∧
      (p.beginWindow ctx ix).framer.trk = p.framer.trk ∧ (p.beginWindow ctx ix).framer.seq = p.framer.seq ∧
        (p.beginWindow ctx ix).changeMark = false := by
  cases ix <;> exact ⟨rfl, rfl, rfl, rfl, rfl⟩

/-- Beyond the framer and the change mark, a window begun changes nothing of the point. -/
theorem Point.beginWindow_frame (ctx : PointCtx) (ix : BankIx) (p : Point) :
    p.beginWindow ctx ix = { p with framer := (p.beginWindow ctx ix).framer, changeMark := false } := rfl

/-- An entry from WAITING: both sources LOCKED begin a window, otherwise nothing happens. -/
theorem Point.enterIfLocked_cases (ctx : PointCtx) (p : Point) :
    (p.framer.st = .waiting ∧ p.bothLocked = true ∧ p.enterIfLocked ctx = p.beginWindow ctx p.framer.freeIx) ∨
      (¬ (p.framer.st = .waiting ∧ p.bothLocked = true) ∧ p.enterIfLocked ctx = p) := by
  rw [Point.enterIfLocked]
  split
  · rename_i h
    simp only [Bool.and_eq_true, decide_eq_true_eq] at h
    exact .inl ⟨h.1, h.2, rfl⟩
  · rename_i h
    simp only [Bool.and_eq_true, decide_eq_true_eq] at h
    exact .inr ⟨h, rfl⟩

/-! ## Taking positions (R68, R71, R77) -/

/-- The examination of a crossing touches the crossing fields alone. -/
theorem Window.examine_keeps (period n : Nat) (va : Int) (w : Window) :
    w.examine period n va =
      { w with
        firstCross := (w.examine period n va).firstCross, lastCross := (w.examine period n va).lastCross
        crossings := (w.examine period n va).crossings } := by
  rw [Window.examine]
  split
  · rfl
  · rw [Window.offerCrossing]
    split
    · rfl
    · split <;> rfl

/-- A set taken at a position that does not fill its window: the window advances past it, and the other bank and the
rest of the point stay. -/
theorem Point.takeAt_advances (ctx : PointCtx) (n : Nat) (x : PairedSet) (w : Window) (p : Point) (h : n + 1 ≠ w.len) :
    p.takeAt ctx n x w =
      ({ p with framer :=
          { p.framer.setBank w.bank ((p.framer.bank w.bank).fill n x.vals) with
            window := some (w.takeReal p.framer.trk.period n x) } }, []) := by
  rw [Point.takeAt]
  exact if_neg h

/-- k positions bridged: the window advances by k positions, all counted bridged, and nothing but the framer changes. -/
theorem Point.bridge_advances (k : Nat) : ∀ (p : Point) (w : Window) (e : Nat), p.framer.window = some w →
    w.expected = some e →
      ∃ v, (p.bridge k).framer.window = some v ∧ v.expected = some (e + k) ∧ v.pos = w.pos + k ∧ v.covered = w.covered ∧
        v.bridgedCount = w.bridgedCount + k ∧ v.start = w.start ∧ v.len = w.len ∧ v.cfg = w.cfg ∧ v.bank = w.bank ∧
        (p.bridge k).framer.bank (otherBank w.bank) = p.framer.bank (otherBank w.bank) ∧
        (p.bridge k).framer.trk = p.framer.trk ∧ (p.bridge k).framer.st = p.framer.st ∧
        (p.bridge k).framer.seq = p.framer.seq ∧ p.bridge k = { p with framer := (p.bridge k).framer } := by
  induction k with
  | zero => intro p w e h he; exact ⟨w, by simp [Point.bridge, h, he]⟩
  | succ k ih =>
    intro p w e h he
    rw [Point.bridge]
    simp only [h]
    obtain ⟨v, hw, hx, hp, hc, hb, h1, h2, h3, h4, h5, h6, h7, h8, h9⟩ :=
      ih { p with framer := { p.framer.setBank w.bank ((p.framer.bank w.bank).fill w.pos (w.lastVals.getD (.const 0))) with
            window := some w.takeBridged
            ctr := { p.framer.ctr with bridgedSets := p.framer.ctr.bridgedSets + 1 } } }
        w.takeBridged (e + 1) rfl (by simp [Window.takeBridged, he])
    have hbank : w.takeBridged.bank = w.bank := rfl
    refine ⟨v, hw, by rw [hx]; congr 1; omega, ?_, by rw [hc]; rfl, ?_, h1, h2, h3, h4, ?_, ?_, ?_, ?_, h9⟩
    · rw [hp]; simp only [Window.takeBridged]; omega
    · rw [hb]; simp only [Window.takeBridged]; omega
    · rw [hbank] at h5; rw [h5]; cases w.bank <;> rfl
    · rw [h6]; cases w.bank <;> rfl
    · rw [h7]; cases w.bank <;> rfl
    · rw [h8]; cases w.bank <;> rfl

/-! ## Alignment (R56, R57) -/

/-- The entries removed for being older than the arriving set, and those left. -/
theorem align_rest (partner : List AlignEntry) (t : Nat) :
    (partner.dropWhile fun y => decide (y.index < t)).length ≤ partner.length ∧
      ∀ y ∈ partner.dropWhile fun y => decide (y.index < t), y ∈ partner :=
  ⟨(List.dropWhile_sublist _).length_le, fun _ h => (List.dropWhile_sublist _).subset h⟩

end Sys2Proof.Machine
end

