-- ==== Sys2Proof/Laws/Interval.lean ====
section
/-! SUPPORT. The three ways a window is accounted (R114, R121, R122), and the arithmetic of an accumulator (R112). -/

namespace Sys2Proof.Machine

/-- An increment: nothing is lost, and the remainder stays below the divisor (R112). -/
theorem Accum.add_exact (divisor inc : Nat) (a : Accum) :
    (a.add divisor inc).whole * divisor + (a.add divisor inc).rem = a.whole * divisor + a.rem + inc := by
  simp only [Accum.add, Nat.add_mul]
  have := Nat.div_add_mod (a.rem + inc) divisor
  rw [Nat.mul_comm] at this
  omega

theorem Accum.add_below (divisor inc : Nat) (a : Accum) (h : 0 < divisor) : (a.add divisor inc).rem < divisor :=
  Nat.mod_lt _ h

/-- The harmonic increments leave the fundamental accumulators as they are. -/
theorem Accumulators.addHarmonic_eq (len : Nat) (o : OrderResult) (a : Accumulators) :
    a.addHarmonic len o = { a with harm := (a.addHarmonic len o).harm } := by
  rw [Accumulators.addHarmonic]
  split <;> rfl

/-- Of the fundamental accumulators, the increments of a window are those of R115 and the reactive excess. -/
theorem Accumulators.addWindow_eq (r : WindowResult) (a : Accumulators) :
    a.addWindow r =
      { a.addFundamental r.len r.excess (fundamental r.orders).p (fundamental r.orders).q with
        harm := (a.addWindow r).harm } := by
  have key : ∀ (l : List OrderResult) (b : Accumulators),
      l.foldl (fun a o => a.addHarmonic r.len o) b =
        { b with harm := (l.foldl (fun a o => a.addHarmonic r.len o) b).harm } := by
    intro l
    induction l with
    | nil => intro b; rfl
    | cons o l ih =>
      intro b
      rw [List.foldl_cons, ih, Accumulators.addHarmonic_eq]
  simp only [Accumulators.addWindow]
  rw [key]

/-- The words of the record of an interval (R120). -/
theorem recordWords_buildRecord (i : Fin 24) (a b c : Bool) (f : OpenFields) (p : Point) :
    recordWords (buildRecord i a b c f p) = 28 + 5 * f.orders.length := by
  simp [recordWords, buildRecord]

/-- The window opens an EMPTY interval. -/
theorem Point.account_opens (i : Fin 24) (len room : Nat) (r : WindowResult) (p : Point) (h : p.ivl.fields = none) :
    p.account i len room r =
      { point := p.accountInto (intervalNumber len r.start) r (openFields (intervalNumber len r.start) len r)
        appended := none, merged := false } := by
  simp [Point.account, h]

/-- The window joins the OPEN interval. -/
theorem Point.account_joins (i : Fin 24) (len room : Nat) (r : WindowResult) (p : Point) (f : OpenFields)
    (h : p.ivl.fields = some f) (hc : closeNeeded len (intervalNumber len r.start) r f = false) :
    p.account i len room r =
      { point := p.accountInto (intervalNumber len r.start) r f, appended := none, merged := false } := by
  simp [Point.account, h, hc]

/-- The OPEN interval is closed with a record, and the window opens the next. -/
theorem Point.account_closes (i : Fin 24) (len room : Nat) (r : WindowResult) (p : Point) (f : OpenFields)
    (h : p.ivl.fields = some f) (hc : closeNeeded len (intervalNumber len r.start) r f = true)
    (hr : 28 + 5 * f.orders.length ≤ room) :
    p.account i len room r =
      { point := (p.afterClose f).accountInto (intervalNumber len r.start) r (openFields (intervalNumber len r.start) len r)
        appended := some (buildRecord i (closeReconfigured len r f) (decide (intervalNumber len r.start < f.lastNo)) false f p)
        merged := false } := by
  simp [Point.account, h, hc, recordWords_buildRecord, hr]

/-- The close finds no room, and the window merges into the OPEN interval. -/
theorem Point.account_merges (i : Fin 24) (len room : Nat) (r : WindowResult) (p : Point) (f : OpenFields)
    (h : p.ivl.fields = some f) (hc : closeNeeded len (intervalNumber len r.start) r f = true)
    (hr : room < 28 + 5 * f.orders.length) :
    p.account i len room r =
      { point := { p with iau := { p.iau with merges := p.iau.merges + 1 } }.accountInto (intervalNumber len r.start) r
          (mergeFields len (intervalNumber len r.start) r f)
        appended := none, merged := true } := by
  simp [Point.account, h, hc, recordWords_buildRecord, Nat.not_le.mpr hr]

end Sys2Proof.Machine
end

