-- ==== Sys2Proof/Laws/State.lean ====
section
/-! SUPPORT. One lemma per field per update of the state and of the delivery side, each true by rfl or by a split on
the port, so that no later proof unfolds a record update. -/

namespace Sys2Proof.Machine

section Fields

variable (s : State)

/-! ### setPoint -/

@[simp] theorem State.setPoint_inReset (i : Fin 24) (p : Point) : (s.setPoint i p).inReset = s.inReset := rfl
@[simp] theorem State.setPoint_straps (i : Fin 24) (p : Point) : (s.setPoint i p).straps = s.straps := rfl
@[simp] theorem State.setPoint_clock (i : Fin 24) (p : Point) : (s.setPoint i p).clock = s.clock := rfl
@[simp] theorem State.setPoint_pending (i : Fin 24) (p : Point) : (s.setPoint i p).pending = s.pending := rfl
@[simp] theorem State.setPoint_device (i : Fin 24) (p : Point) : (s.setPoint i p).device = s.device := rfl
@[simp] theorem State.setPoint_classifier (i : Fin 24) (p : Point) : (s.setPoint i p).classifier = s.classifier := rfl
@[simp] theorem State.setPoint_slots (i : Fin 24) (p : Point) : (s.setPoint i p).slots = s.slots := rfl
@[simp] theorem State.setPoint_finisher (i : Fin 24) (p : Point) : (s.setPoint i p).finisher = s.finisher := rfl
@[simp] theorem State.setPoint_dlv (i : Fin 24) (p : Point) : (s.setPoint i p).dlv = s.dlv := rfl
@[simp] theorem State.setPoint_agent (i : Fin 24) (p : Point) : (s.setPoint i p).agent = s.agent := rfl

/-! ### setSlot -/

@[simp] theorem State.setSlot_inReset (k : Fin 32) (x : Slot) : (s.setSlot k x).inReset = s.inReset := rfl
@[simp] theorem State.setSlot_straps (k : Fin 32) (x : Slot) : (s.setSlot k x).straps = s.straps := rfl
@[simp] theorem State.setSlot_clock (k : Fin 32) (x : Slot) : (s.setSlot k x).clock = s.clock := rfl
@[simp] theorem State.setSlot_pending (k : Fin 32) (x : Slot) : (s.setSlot k x).pending = s.pending := rfl
@[simp] theorem State.setSlot_device (k : Fin 32) (x : Slot) : (s.setSlot k x).device = s.device := rfl
@[simp] theorem State.setSlot_classifier (k : Fin 32) (x : Slot) : (s.setSlot k x).classifier = s.classifier := rfl
@[simp] theorem State.setSlot_points (k : Fin 32) (x : Slot) : (s.setSlot k x).points = s.points := rfl
@[simp] theorem State.setSlot_finisher (k : Fin 32) (x : Slot) : (s.setSlot k x).finisher = s.finisher := rfl
@[simp] theorem State.setSlot_dlv (k : Fin 32) (x : Slot) : (s.setSlot k x).dlv = s.dlv := rfl
@[simp] theorem State.setSlot_agent (k : Fin 32) (x : Slot) : (s.setSlot k x).agent = s.agent := rfl

/-! ### run -/

@[simp] theorem State.run_inReset (ts : List Task) : (s.run ts).inReset = s.inReset := rfl
@[simp] theorem State.run_straps (ts : List Task) : (s.run ts).straps = s.straps := rfl
@[simp] theorem State.run_clock (ts : List Task) : (s.run ts).clock = s.clock := rfl
@[simp] theorem State.run_pending (ts : List Task) : (s.run ts).pending = s.pending := rfl
@[simp] theorem State.run_device (ts : List Task) : (s.run ts).device = s.device := rfl
@[simp] theorem State.run_classifier (ts : List Task) : (s.run ts).classifier = s.classifier := rfl
@[simp] theorem State.run_slots (ts : List Task) : (s.run ts).slots = s.slots := rfl
@[simp] theorem State.run_points (ts : List Task) : (s.run ts).points = s.points := rfl
@[simp] theorem State.run_finisher (ts : List Task) : (s.run ts).finisher = s.finisher := rfl
@[simp] theorem State.run_agent (ts : List Task) : (s.run ts).agent = s.agent := rfl

/-! ### raise -/

@[simp] theorem State.raise_inReset (n : Fin 20) (d : Nat) : (s.raise n d).inReset = s.inReset := rfl
@[simp] theorem State.raise_straps (n : Fin 20) (d : Nat) : (s.raise n d).straps = s.straps := rfl
@[simp] theorem State.raise_clock (n : Fin 20) (d : Nat) : (s.raise n d).clock = s.clock := rfl
@[simp] theorem State.raise_pending (n : Fin 20) (d : Nat) : (s.raise n d).pending = s.pending := rfl
@[simp] theorem State.raise_device (n : Fin 20) (d : Nat) : (s.raise n d).device = s.device := rfl
@[simp] theorem State.raise_classifier (n : Fin 20) (d : Nat) : (s.raise n d).classifier = s.classifier := rfl
@[simp] theorem State.raise_slots (n : Fin 20) (d : Nat) : (s.raise n d).slots = s.slots := rfl
@[simp] theorem State.raise_points (n : Fin 20) (d : Nat) : (s.raise n d).points = s.points := rfl
@[simp] theorem State.raise_finisher (n : Fin 20) (d : Nat) : (s.raise n d).finisher = s.finisher := rfl
@[simp] theorem State.raise_agent (n : Fin 20) (d : Nat) : (s.raise n d).agent = s.agent := rfl

/-! ### onTickets -/

@[simp] theorem State.onTickets_inReset (f : Ticket → Ticket) : (s.onTickets f).inReset = s.inReset := rfl
@[simp] theorem State.onTickets_straps (f : Ticket → Ticket) : (s.onTickets f).straps = s.straps := rfl
@[simp] theorem State.onTickets_clock (f : Ticket → Ticket) : (s.onTickets f).clock = s.clock := rfl
@[simp] theorem State.onTickets_pending (f : Ticket → Ticket) : (s.onTickets f).pending = s.pending := rfl
@[simp] theorem State.onTickets_device (f : Ticket → Ticket) : (s.onTickets f).device = s.device := rfl
@[simp] theorem State.onTickets_classifier (f : Ticket → Ticket) : (s.onTickets f).classifier = s.classifier := rfl
@[simp] theorem State.onTickets_slots (f : Ticket → Ticket) : (s.onTickets f).slots = s.slots := rfl
@[simp] theorem State.onTickets_points (f : Ticket → Ticket) : (s.onTickets f).points = s.points := rfl
@[simp] theorem State.onTickets_finisher (f : Ticket → Ticket) : (s.onTickets f).finisher = s.finisher := rfl
@[simp] theorem State.onTickets_dlv (f : Ticket → Ticket) : (s.onTickets f).dlv = s.dlv := rfl

/-! ### setLoad -/

@[simp] theorem State.setLoad_inReset (l : Option Load) : (s.setLoad l).inReset = s.inReset := rfl
@[simp] theorem State.setLoad_straps (l : Option Load) : (s.setLoad l).straps = s.straps := rfl
@[simp] theorem State.setLoad_clock (l : Option Load) : (s.setLoad l).clock = s.clock := rfl
@[simp] theorem State.setLoad_pending (l : Option Load) : (s.setLoad l).pending = s.pending := rfl
@[simp] theorem State.setLoad_device (l : Option Load) : (s.setLoad l).device = s.device := rfl
@[simp] theorem State.setLoad_classifier (l : Option Load) : (s.setLoad l).classifier = s.classifier := rfl
@[simp] theorem State.setLoad_slots (l : Option Load) : (s.setLoad l).slots = s.slots := rfl
@[simp] theorem State.setLoad_points (l : Option Load) : (s.setLoad l).points = s.points := rfl
@[simp] theorem State.setLoad_finisher (l : Option Load) : (s.setLoad l).finisher = s.finisher := rfl
@[simp] theorem State.setLoad_dlv (l : Option Load) : (s.setLoad l).dlv = s.dlv := rfl

/-! ### setTicket -/

@[simp] theorem State.setTicket_inReset (t : Fin 4) (k : Ticket) : (s.setTicket t k).inReset = s.inReset := rfl
@[simp] theorem State.setTicket_straps (t : Fin 4) (k : Ticket) : (s.setTicket t k).straps = s.straps := rfl
@[simp] theorem State.setTicket_clock (t : Fin 4) (k : Ticket) : (s.setTicket t k).clock = s.clock := rfl
@[simp] theorem State.setTicket_pending (t : Fin 4) (k : Ticket) : (s.setTicket t k).pending = s.pending := rfl
@[simp] theorem State.setTicket_device (t : Fin 4) (k : Ticket) : (s.setTicket t k).device = s.device := rfl
@[simp] theorem State.setTicket_classifier (t : Fin 4) (k : Ticket) : (s.setTicket t k).classifier = s.classifier := rfl
@[simp] theorem State.setTicket_slots (t : Fin 4) (k : Ticket) : (s.setTicket t k).slots = s.slots := rfl
@[simp] theorem State.setTicket_points (t : Fin 4) (k : Ticket) : (s.setTicket t k).points = s.points := rfl
@[simp] theorem State.setTicket_finisher (t : Fin 4) (k : Ticket) : (s.setTicket t k).finisher = s.finisher := rfl
@[simp] theorem State.setTicket_dlv (t : Fin 4) (k : Ticket) : (s.setTicket t k).dlv = s.dlv := rfl

/-! ### setRequests -/

@[simp] theorem State.setRequests_inReset (rest : List Request) : (s.setRequests rest).inReset = s.inReset := rfl
@[simp] theorem State.setRequests_straps (rest : List Request) : (s.setRequests rest).straps = s.straps := rfl
@[simp] theorem State.setRequests_clock (rest : List Request) : (s.setRequests rest).clock = s.clock := rfl
@[simp] theorem State.setRequests_pending (rest : List Request) : (s.setRequests rest).pending = s.pending := rfl
@[simp] theorem State.setRequests_device (rest : List Request) : (s.setRequests rest).device = s.device := rfl
@[simp] theorem State.setRequests_classifier (rest : List Request) : (s.setRequests rest).classifier = s.classifier := rfl
@[simp] theorem State.setRequests_slots (rest : List Request) : (s.setRequests rest).slots = s.slots := rfl
@[simp] theorem State.setRequests_points (rest : List Request) : (s.setRequests rest).points = s.points := rfl
@[simp] theorem State.setRequests_finisher (rest : List Request) : (s.setRequests rest).finisher = s.finisher := rfl
@[simp] theorem State.setRequests_dlv (rest : List Request) : (s.setRequests rest).dlv = s.dlv := rfl

/-! ### modClassifier -/

@[simp] theorem State.modClassifier_inReset (f : Classifier → Classifier) : (s.modClassifier f).inReset = s.inReset := rfl
@[simp] theorem State.modClassifier_straps (f : Classifier → Classifier) : (s.modClassifier f).straps = s.straps := rfl
@[simp] theorem State.modClassifier_clock (f : Classifier → Classifier) : (s.modClassifier f).clock = s.clock := rfl
@[simp] theorem State.modClassifier_pending (f : Classifier → Classifier) : (s.modClassifier f).pending = s.pending := rfl
@[simp] theorem State.modClassifier_device (f : Classifier → Classifier) : (s.modClassifier f).device = s.device := rfl
@[simp] theorem State.modClassifier_slots (f : Classifier → Classifier) : (s.modClassifier f).slots = s.slots := rfl
@[simp] theorem State.modClassifier_points (f : Classifier → Classifier) : (s.modClassifier f).points = s.points := rfl
@[simp] theorem State.modClassifier_finisher (f : Classifier → Classifier) : (s.modClassifier f).finisher = s.finisher := rfl
@[simp] theorem State.modClassifier_dlv (f : Classifier → Classifier) : (s.modClassifier f).dlv = s.dlv := rfl
@[simp] theorem State.modClassifier_agent (f : Classifier → Classifier) : (s.modClassifier f).agent = s.agent := rfl

/-! ### storeWindow -/

@[simp] theorem State.storeWindow_inReset (i : Nat) (w : StreamWindow) : (s.storeWindow i w).inReset = s.inReset := rfl
@[simp] theorem State.storeWindow_straps (i : Nat) (w : StreamWindow) : (s.storeWindow i w).straps = s.straps := rfl
@[simp] theorem State.storeWindow_clock (i : Nat) (w : StreamWindow) : (s.storeWindow i w).clock = s.clock := rfl
@[simp] theorem State.storeWindow_pending (i : Nat) (w : StreamWindow) : (s.storeWindow i w).pending = s.pending := rfl
@[simp] theorem State.storeWindow_device (i : Nat) (w : StreamWindow) : (s.storeWindow i w).device = s.device := rfl
@[simp] theorem State.storeWindow_slots (i : Nat) (w : StreamWindow) : (s.storeWindow i w).slots = s.slots := rfl
@[simp] theorem State.storeWindow_points (i : Nat) (w : StreamWindow) : (s.storeWindow i w).points = s.points := rfl
@[simp] theorem State.storeWindow_finisher (i : Nat) (w : StreamWindow) : (s.storeWindow i w).finisher = s.finisher := rfl
@[simp] theorem State.storeWindow_dlv (i : Nat) (w : StreamWindow) : (s.storeWindow i w).dlv = s.dlv := rfl
@[simp] theorem State.storeWindow_agent (i : Nat) (w : StreamWindow) : (s.storeWindow i w).agent = s.agent := rfl

/-! ### storeHset -/

@[simp] theorem State.storeHset_inReset (i : Nat) (l : List Nat) : (s.storeHset i l).inReset = s.inReset := rfl
@[simp] theorem State.storeHset_straps (i : Nat) (l : List Nat) : (s.storeHset i l).straps = s.straps := rfl
@[simp] theorem State.storeHset_clock (i : Nat) (l : List Nat) : (s.storeHset i l).clock = s.clock := rfl
@[simp] theorem State.storeHset_pending (i : Nat) (l : List Nat) : (s.storeHset i l).pending = s.pending := rfl
@[simp] theorem State.storeHset_device (i : Nat) (l : List Nat) : (s.storeHset i l).device = s.device := rfl
@[simp] theorem State.storeHset_classifier (i : Nat) (l : List Nat) : (s.storeHset i l).classifier = s.classifier := rfl
@[simp] theorem State.storeHset_slots (i : Nat) (l : List Nat) : (s.storeHset i l).slots = s.slots := rfl
@[simp] theorem State.storeHset_points (i : Nat) (l : List Nat) : (s.storeHset i l).points = s.points := rfl
@[simp] theorem State.storeHset_dlv (i : Nat) (l : List Nat) : (s.storeHset i l).dlv = s.dlv := rfl
@[simp] theorem State.storeHset_agent (i : Nat) (l : List Nat) : (s.storeHset i l).agent = s.agent := rfl

/-! ### storeLimit -/

@[simp] theorem State.storeLimit_inReset (i : Nat) (l : LimitProfile) : (s.storeLimit i l).inReset = s.inReset := rfl
@[simp] theorem State.storeLimit_straps (i : Nat) (l : LimitProfile) : (s.storeLimit i l).straps = s.straps := rfl
@[simp] theorem State.storeLimit_clock (i : Nat) (l : LimitProfile) : (s.storeLimit i l).clock = s.clock := rfl
@[simp] theorem State.storeLimit_pending (i : Nat) (l : LimitProfile) : (s.storeLimit i l).pending = s.pending := rfl
@[simp] theorem State.storeLimit_device (i : Nat) (l : LimitProfile) : (s.storeLimit i l).device = s.device := rfl
@[simp] theorem State.storeLimit_classifier (i : Nat) (l : LimitProfile) : (s.storeLimit i l).classifier = s.classifier := rfl
@[simp] theorem State.storeLimit_slots (i : Nat) (l : LimitProfile) : (s.storeLimit i l).slots = s.slots := rfl
@[simp] theorem State.storeLimit_points (i : Nat) (l : LimitProfile) : (s.storeLimit i l).points = s.points := rfl
@[simp] theorem State.storeLimit_dlv (i : Nat) (l : LimitProfile) : (s.storeLimit i l).dlv = s.dlv := rfl
@[simp] theorem State.storeLimit_agent (i : Nat) (l : LimitProfile) : (s.storeLimit i l).agent = s.agent := rfl

/-! ### updateConditions -/

@[simp] theorem State.updateConditions_inReset : s.updateConditions.inReset = s.inReset := by
  rw [State.updateConditions, State.run_inReset]
@[simp] theorem State.updateConditions_straps : s.updateConditions.straps = s.straps := by
  rw [State.updateConditions, State.run_straps]
@[simp] theorem State.updateConditions_clock : s.updateConditions.clock = s.clock := by
  rw [State.updateConditions, State.run_clock]
@[simp] theorem State.updateConditions_pending : s.updateConditions.pending = s.pending := by
  rw [State.updateConditions, State.run_pending]
@[simp] theorem State.updateConditions_device : s.updateConditions.device = s.device := by
  rw [State.updateConditions, State.run_device]
@[simp] theorem State.updateConditions_classifier : s.updateConditions.classifier = s.classifier := by
  rw [State.updateConditions, State.run_classifier]
@[simp] theorem State.updateConditions_slots : s.updateConditions.slots = s.slots := by
  rw [State.updateConditions, State.run_slots]
@[simp] theorem State.updateConditions_points : s.updateConditions.points = s.points := by
  rw [State.updateConditions, State.run_points]
@[simp] theorem State.updateConditions_finisher : s.updateConditions.finisher = s.finisher := by
  rw [State.updateConditions, State.run_finisher]
@[simp] theorem State.updateConditions_agent : s.updateConditions.agent = s.agent := by
  rw [State.updateConditions, State.run_agent]

/-! ### joined -/

@[simp] theorem joined_inReset : (joined s).inReset = s.inReset := rfl
@[simp] theorem joined_straps : (joined s).straps = s.straps := rfl
@[simp] theorem joined_clock : (joined s).clock = s.clock := rfl
@[simp] theorem joined_pending : (joined s).pending = s.pending := rfl
@[simp] theorem joined_device : (joined s).device = s.device := rfl
@[simp] theorem joined_classifier : (joined s).classifier = s.classifier := rfl
@[simp] theorem joined_slots : (joined s).slots = s.slots := rfl
@[simp] theorem joined_points : (joined s).points = s.points := rfl
@[simp] theorem joined_finisher : (joined s).finisher = s.finisher := rfl
@[simp] theorem joined_dlv : (joined s).dlv = s.dlv := rfl
@[simp] theorem joined_load : (joined s).agent.load = s.agent.load := rfl
@[simp] theorem joined_tickets : (joined s).agent.tickets = s.agent.tickets := rfl
@[simp] theorem joined_queue : (joined s).agent.queue = s.agent.queue := rfl
@[simp] theorem joined_point (i : Fin 24) : (joined s).point i = s.point i := rfl
@[simp] theorem joined_slot (k : Fin 32) : (joined s).slot k = s.slot k := rfl
@[simp] theorem joined_timebase : timebase (joined s) = timebase s := rfl

/-! ### Reading back -/

@[simp] theorem State.setPoint_point_same (i : Fin 24) (p : Point) : (s.setPoint i p).point i = p := by
  simp [State.setPoint, State.point]

theorem State.setPoint_point_other (i j : Fin 24) (p : Point) (h : j ≠ i) : (s.setPoint i p).point j = s.point j := by
  have : i.val ≠ j.val := fun e => h (Fin.ext e.symm)
  simp [State.setPoint, State.point, this]

@[simp] theorem State.setSlot_slot_same (k : Fin 32) (x : Slot) : (s.setSlot k x).slot k = x := by
  simp [State.setSlot, State.slot]

theorem State.setSlot_slot_other (k j : Fin 32) (x : Slot) (h : j ≠ k) : (s.setSlot k x).slot j = s.slot j := by
  have : k.val ≠ j.val := fun e => h (Fin.ext e.symm)
  simp [State.setSlot, State.slot, this]

@[simp] theorem State.run_point (ts : List Task) (i : Fin 24) : (s.run ts).point i = s.point i := rfl
@[simp] theorem State.run_slot (ts : List Task) (k : Fin 32) : (s.run ts).slot k = s.slot k := rfl
@[simp] theorem State.run_timebase (ts : List Task) : timebase (s.run ts) = timebase s := rfl
@[simp] theorem State.raise_point (n : Fin 20) (d : Nat) (i : Fin 24) : (s.raise n d).point i = s.point i := rfl
@[simp] theorem State.raise_slot (n : Fin 20) (d : Nat) (k : Fin 32) : (s.raise n d).slot k = s.slot k := rfl
@[simp] theorem State.setLoad_load (l : Option Load) : (s.setLoad l).agent.load = l := rfl

end Fields

section Delivery

variable (d : Delivery)

@[simp] theorem Delivery.setPort_alerts (p : Port) (q : PortState) : (d.setPort p q).alerts = d.alerts := by cases p <;> rfl
@[simp] theorem Delivery.modPort_alerts (p : Port) (f : PortState → PortState) : (d.modPort p f).alerts = d.alerts := by cases p <;> rfl
@[simp] theorem Delivery.setPort_channels (p : Port) (q : PortState) : (d.setPort p q).channels = d.channels := by cases p <;> rfl
@[simp] theorem Delivery.modPort_channels (p : Port) (f : PortState → PortState) : (d.modPort p f).channels = d.channels := by cases p <;> rfl
@[simp] theorem Delivery.setPort_waitA (p : Port) (q : PortState) : (d.setPort p q).waitA = d.waitA := by cases p <;> rfl
@[simp] theorem Delivery.modPort_waitA (p : Port) (f : PortState → PortState) : (d.modPort p f).waitA = d.waitA := by cases p <;> rfl
@[simp] theorem Delivery.setPort_waitB (p : Port) (q : PortState) : (d.setPort p q).waitB = d.waitB := by cases p <;> rfl
@[simp] theorem Delivery.modPort_waitB (p : Port) (f : PortState → PortState) : (d.modPort p f).waitB = d.waitB := by cases p <;> rfl
@[simp] theorem Delivery.setPort_recq (p : Port) (q : PortState) : (d.setPort p q).recq = d.recq := by cases p <;> rfl
@[simp] theorem Delivery.modPort_recq (p : Port) (f : PortState → PortState) : (d.modPort p f).recq = d.recq := by cases p <;> rfl
@[simp] theorem Delivery.setAlert_portA (n : Fin 20) (e : AlertEntry) : (d.setAlert n e).portA = d.portA := rfl
@[simp] theorem Delivery.setAlert_portB (n : Fin 20) (e : AlertEntry) : (d.setAlert n e).portB = d.portB := rfl
@[simp] theorem Delivery.setAlert_channels (n : Fin 20) (e : AlertEntry) : (d.setAlert n e).channels = d.channels := rfl
@[simp] theorem Delivery.setAlert_waitA (n : Fin 20) (e : AlertEntry) : (d.setAlert n e).waitA = d.waitA := rfl
@[simp] theorem Delivery.setAlert_waitB (n : Fin 20) (e : AlertEntry) : (d.setAlert n e).waitB = d.waitB := rfl
@[simp] theorem Delivery.setAlert_recq (n : Fin 20) (e : AlertEntry) : (d.setAlert n e).recq = d.recq := rfl
@[simp] theorem Delivery.setChannel_portA (c : Fin 4) (x : Channel) : (d.setChannel c x).portA = d.portA := rfl
@[simp] theorem Delivery.setChannel_portB (c : Fin 4) (x : Channel) : (d.setChannel c x).portB = d.portB := rfl
@[simp] theorem Delivery.setChannel_alerts (c : Fin 4) (x : Channel) : (d.setChannel c x).alerts = d.alerts := rfl
@[simp] theorem Delivery.setChannel_waitA (c : Fin 4) (x : Channel) : (d.setChannel c x).waitA = d.waitA := rfl
@[simp] theorem Delivery.setChannel_waitB (c : Fin 4) (x : Channel) : (d.setChannel c x).waitB = d.waitB := rfl
@[simp] theorem Delivery.setChannel_recq (c : Fin 4) (x : Channel) : (d.setChannel c x).recq = d.recq := rfl
@[simp] theorem Delivery.setWait_portA (p : Port) (w : List (Fin 4)) : (d.setWait p w).portA = d.portA := by cases p <;> rfl
@[simp] theorem Delivery.setWait_portB (p : Port) (w : List (Fin 4)) : (d.setWait p w).portB = d.portB := by cases p <;> rfl
@[simp] theorem Delivery.setWait_alerts (p : Port) (w : List (Fin 4)) : (d.setWait p w).alerts = d.alerts := by cases p <;> rfl
@[simp] theorem Delivery.setWait_channels (p : Port) (w : List (Fin 4)) : (d.setWait p w).channels = d.channels := by cases p <;> rfl
@[simp] theorem Delivery.setWait_recq (p : Port) (w : List (Fin 4)) : (d.setWait p w).recq = d.recq := by cases p <;> rfl

@[simp] theorem Delivery.setPort_port_same (p : Port) (q : PortState) : (d.setPort p q).port p = q := by cases p <;> rfl

@[simp] theorem Delivery.setPort_port_other (p o : Port) (q : PortState) (h : o ≠ p) : (d.setPort p q).port o = d.port o := by
  cases p <;> cases o <;> first | rfl | exact absurd rfl h

@[simp] theorem Delivery.setPort_self (p : Port) : d.setPort p (d.port p) = d := by cases p <;> rfl

@[simp] theorem Delivery.setAlert_port (n : Fin 20) (e : AlertEntry) (p : Port) : (d.setAlert n e).port p = d.port p := by
  cases p <;> rfl

@[simp] theorem Delivery.setChannel_port (c : Fin 4) (x : Channel) (p : Port) : (d.setChannel c x).port p = d.port p := by
  cases p <;> rfl

@[simp] theorem Delivery.setWait_port (w : List (Fin 4)) (o p : Port) : (d.setWait o w).port p = d.port p := by
  cases o <;> cases p <;> rfl

@[simp] theorem Delivery.setPort_wait (q : PortState) (o p : Port) : (d.setPort o q).wait p = d.wait p := by
  cases o <;> cases p <;> rfl

@[simp] theorem Delivery.setPort_alert (p : Port) (q : PortState) (n : Fin 20) : (d.setPort p q).alert n = d.alert n := by
  cases p <;> rfl

@[simp] theorem Delivery.setPort_channel (p : Port) (q : PortState) (c : Fin 4) : (d.setPort p q).channel c = d.channel c := by
  cases p <;> rfl

@[simp] theorem Delivery.setAlert_alert_same (n : Fin 20) (e : AlertEntry) : (d.setAlert n e).alert n = e := by
  simp [Delivery.setAlert, Delivery.alert]

theorem Delivery.setAlert_alert_other (n m : Fin 20) (e : AlertEntry) (h : m ≠ n) : (d.setAlert n e).alert m = d.alert m := by
  have : n.val ≠ m.val := fun k => h (Fin.ext k.symm)
  simp [Delivery.setAlert, Delivery.alert, this]

@[simp] theorem Delivery.setAlert_channel (n : Fin 20) (e : AlertEntry) (c : Fin 4) : (d.setAlert n e).channel c = d.channel c := rfl
@[simp] theorem Delivery.setChannel_alert (c : Fin 4) (x : Channel) (n : Fin 20) : (d.setChannel c x).alert n = d.alert n := rfl

@[simp] theorem Delivery.setChannel_channel_same (c : Fin 4) (x : Channel) : (d.setChannel c x).channel c = x := by
  simp [Delivery.setChannel, Delivery.channel]

theorem Delivery.setChannel_channel_other (c b : Fin 4) (x : Channel) (h : b ≠ c) :
    (d.setChannel c x).channel b = d.channel b := by
  have : c.val ≠ b.val := fun k => h (Fin.ext k.symm)
  simp [Delivery.setChannel, Delivery.channel, this]

@[simp] theorem Delivery.setWait_wait_same (p : Port) (w : List (Fin 4)) : (d.setWait p w).wait p = w := by cases p <;> rfl

@[simp] theorem Delivery.setWait_wait_other (p o : Port) (w : List (Fin 4)) (h : o ≠ p) : (d.setWait p w).wait o = d.wait o := by
  cases p <;> cases o <;> first | rfl | exact absurd rfl h

end Delivery

end Sys2Proof.Machine
end

