-- ==== Sys2Proof/Laws/Ops.lean ====
section
/-! SUPPORT. What each shared operation of the delivery side can do, said once; and the induction over a cascade. -/

namespace Sys2Proof.Machine

/-! ## The cascade -/

@[simp] theorem settle_nil (env : Env) (n : Nat) (d : Delivery) : settle env n [] d = d := by cases n <;> rfl

theorem settle_cons (env : Env) (n : Nat) (t : Task) (ts : List Task) (d : Delivery) :
    settle env (n + 1) (t :: ts) d = settle env n (follow (perform env t d).2 ts) (perform env t d).1 := rfl

@[simp] theorem follow_nil (ts : List Task) : follow [] ts = ts := by simp [follow]

/-- What follows a task is what it has brought about and what stood behind it, and no other. -/
@[simp] theorem mem_follow (u : Task) (new rest : List Task) : u ∈ follow new rest ↔ u ∈ new ∨ u ∈ rest := by
  cases h : u.deferred <;> simp [follow, h, or_comm]

/-- With nothing that stands back, what a task has brought about comes first. -/
theorem follow_eq (new rest : List Task) (h : ∀ t ∈ new, t.deferred = false) : follow new rest = new ++ rest := by
  have h1 : new.filter (fun t => !t.deferred) = new := List.filter_eq_self.mpr fun t ht => by simp [h t ht]
  have h2 : new.filter Task.deferred = [] := List.filter_eq_nil_iff.mpr fun t ht => by simp [h t ht]
  simp [follow, h1, h2]

/-- A property that every task of a closed kind keeps is kept by a cascade of such tasks. -/
theorem settle_keeps (env : Env) (P : Delivery → Prop) (T : Task → Prop)
    (hstep : ∀ t d, T t → P d → P (perform env t d).1 ∧ ∀ u ∈ (perform env t d).2, T u) :
    ∀ (n : Nat) (ts : List Task) (d : Delivery), (∀ t ∈ ts, T t) → P d → P (settle env n ts d) := by
  intro n
  induction n with
  | zero => intro ts d _ hp; cases ts <;> exact hp
  | succ n ih =>
    intro ts d ht hp
    cases ts with
    | nil => exact hp
    | cons t ts =>
      obtain ⟨h1, h2⟩ := hstep t d (ht t List.mem_cons_self) hp
      refine ih _ _ ?_ h1
      intro u hu
      rcases (mem_follow u _ _).mp hu with hu | hu
      · exact h2 u hu
      · exact ht u (List.mem_cons_of_mem _ hu)

/-- The same for a property that every task keeps. -/
theorem run_keeps (P : Delivery → Prop) (s : State) (ts : List Task)
    (hstep : ∀ t d, P d → P (perform s.env t d).1) (hp : P s.dlv) : P (s.run ts).dlv :=
  settle_keeps s.env P (fun _ => True) (fun t d _ h => ⟨hstep t d h, fun _ _ => trivial⟩) cascadeBound ts s.dlv
    (fun _ _ => trivial) hp

@[simp] theorem run_nil (s : State) : s.run [] = s := by simp [State.run]

/-- The first task of a cascade runs, and then what it brings about, with the rest. -/
theorem run_cons (s : State) (t : Task) (ts : List Task) :
    (s.run (t :: ts)).dlv = settle s.env 4095 (follow (perform s.env t s.dlv).2 ts) (perform s.env t s.dlv).1 := rfl

/-! ## Removals (R132) -/

theorem takeRecords_append (limit words : Nat) (l : List IntervalRecord) :
    (takeRecords limit words l).1 ++ (takeRecords limit words l).2 = l := by
  induction l generalizing limit words with
  | nil => rfl
  | cons r rs ih =>
    rw [takeRecords]
    split
    · simp [ih]
    · rfl

/-- A removal takes no more than its limits. -/
theorem takeRecords_within (limit words : Nat) (l : List IntervalRecord) :
    (takeRecords limit words l).1.length ≤ limit ∧ wordsOf (takeRecords limit words l).1 ≤ words := by
  induction l generalizing limit words with
  | nil => simp [takeRecords, wordsOf]
  | cons r rs ih =>
    rw [takeRecords]
    split
    · rename_i h
      simp only [Bool.and_eq_true, decide_eq_true_eq] at h
      have h1 := ih (limit - 1) (words - recordWords r)
      simp only [wordsOf, List.map_cons, List.sum_cons, List.length_cons] at h1 ⊢
      omega
    · simp [wordsOf]

theorem wordsOf_append (a b : List IntervalRecord) : wordsOf (a ++ b) = wordsOf a + wordsOf b := by
  simp [wordsOf]

/-- The words left by a removal are no more than there were. -/
theorem wordsOf_left (limit words : Nat) (l : List IntervalRecord) :
    wordsOf (takeRecords limit words l).2 ≤ wordsOf l := by
  have h := congrArg wordsOf (takeRecords_append limit words l)
  rw [wordsOf_append] at h
  omega

/-! ## The arbiter (R11 to R13) -/

/-- Without a free transmitter no grant is made. -/
theorem grant_busy (env : Env) (p : Port) (d : Delivery) (h : (d.port p).free = false) : grant env p d = (d, []) := by
  simp [grant, h]

/-- A port that transmits is not free. -/
theorem not_free_of_tx (q : PortState) (h : q.tx.isSome = true) : q.free = false := by
  cases hq : q.tx with
  | none => simp [hq] at h
  | some f => simp [PortState.free, hq]

/-- A port that is DOWN is not free. -/
theorem not_free_of_down (q : PortState) (h : q.up = false) : q.free = false := by simp [PortState.free, h]

/-- A pass-through grant: the head of the buffer starts (R12). -/
theorem grant_pass (env : Env) (p : Port) (d : Delivery) (f : List Byte) (rest : List (List Byte))
    (hf : (d.port p).free = true) (hg : grantsPass (d.port p) = true) (hq : (d.port p).pass = f :: rest) :
    grant env p d =
      (d.setPort p { d.port p with
        pass := rest, tx := some (.pass f)
        passCount := if (d.port p).localWaiting then (d.port p).passCount + 1 else 0 }, []) := by
  simp [grant, hf, hg, hq]

/-- A local grant goes to the class picked (R13). -/
theorem grant_local (env : Env) (p : Port) (d : Delivery) (win : EgressClass) (hf : (d.port p).free = true)
    (hg : grantsPass (d.port p) = false) (hw : pickClass (d.port p) = some win) :
    grant env p d = grantLocal env p win d := by
  simp [grant, hf, hg, hw]

/-! ## Offers (R156, R157) -/

/-- An offer that is refused, or that no ready entry makes, changes nothing. -/
theorem offerOne_none (env : Env) (p : Port) (d : Delivery)
    (h : bestReady env.floor p d = none ∨ (d.port p).up = false ∨ Config.alertRoom ≤ (d.port p).alertQ.length) :
    offerOne env p d = (d, []) := by
  rw [offerOne]
  split
  · rfl
  · rcases h with h | h | h
    · simp_all
    · simp [h]
    · simp [Nat.not_lt.mpr h]

/-- An accepted offer builds the frame of the entry offered first, places it, and marks the entry. -/
theorem offerOne_built (env : Env) (p : Port) (d : Delivery) (n : Fin 20) (hb : bestReady env.floor p d = some n)
    (hu : (d.port p).up = true) (hr : (d.port p).alertQ.length < Config.alertRoom) :
    offerOne env p d =
      ((d.setPort p { d.port p with alertQ := insertAlert (buildAlert env n (d.alert n)) (d.port p).alertQ }).setAlert n
          ((d.alert n).afterBuild n p), [.grant p, .offers p]) := by
  simp [offerOne, hb, hu, hr]

/-- Placing a frame adds it to the queue and nothing else. -/
theorem insertAlert_length (f : AlertFrame) (q : List AlertFrame) : (insertAlert f q).length = q.length + 1 := by
  have h := congrArg List.length (List.takeWhile_append_dropWhile (p := fun g : AlertFrame => decide (f.level ≤ g.level)) (l := q))
  simp only [List.length_append] at h
  simp only [insertAlert, List.length_append, List.length_cons]
  omega

/-! ## Channels (R141 to R143) -/

/-- A channel that is not SENDING makes no attempt. -/
theorem attemptSend_idle (env : Env) (c : Fin 4) (head : Bool) (d : Delivery) (h : (d.channel c).st ≠ .sending) :
    attemptSend env c head d = (d, []) := by
  simp [attemptSend, h]

/-- An attempt that cannot proceed puts the channel on its port's wait list. -/
theorem attemptSend_blocked (env : Env) (c : Fin 4) (head : Bool) (d : Delivery) (hs : (d.channel c).st = .sending)
    (h : ((d.port (d.channel c).cfg.port).up && (head || (d.wait (d.channel c).cfg.port).isEmpty) &&
      decide ((d.port (d.channel c).cfg.port).reportQ.length < Config.reportRoom)) = false) :
    attemptSend env c head d = (joinWait c (d.channel c).cfg.port d, []) := by
  simp only [attemptSend, hs, ne_eq, not_true_eq_false, if_false]
  rw [if_neg (by simpa using h)]

/-- An attempt that finds the Record Queue empty. -/
theorem attemptSend_empty (env : Env) (c : Fin 4) (head : Bool) (d : Delivery) (hs : (d.channel c).st = .sending)
    (h : ((d.port (d.channel c).cfg.port).up && (head || (d.wait (d.channel c).cfg.port).isEmpty) &&
      decide ((d.port (d.channel c).cfg.port).reportQ.length < Config.reportRoom)) = true)
    (he : d.recq.records = []) :
    attemptSend env c head d = (d.setChannel c (d.channel c).foundEmpty, []) := by
  simp only [attemptSend, hs, ne_eq, not_true_eq_false, if_false]
  rw [if_pos (by simpa using h)]
  simp [he]

/-- A channel stands on a wait list at most once. -/
theorem joinWait_nodup (c : Fin 4) (p : Port) (d : Delivery) (h : (d.wait p).Nodup) : ((joinWait c p d).wait p).Nodup := by
  rw [joinWait]
  split
  · exact h
  · rename_i hc
    rw [Delivery.setWait_wait_same]
    refine List.nodup_append.mpr ⟨h, by simp, ?_⟩
    intro a ha b hb e
    simp only [List.mem_singleton] at hb
    subst hb; subst e
    exact hc (by simpa using ha)

end Sys2Proof.Machine
end

