-- ==== Sys2Proof/Laws/Points.lean ====
section
/-! SUPPORT. What a point's event, a slot's event and a record's append leave alone in the rest of the part, said once. -/

namespace Sys2Proof.Machine

/-- What a run of a block's events never touches: everything but the points, the Finisher and the delivery side. -/
def SameBeyondPoints (s t : State) : Prop :=
  t.inReset = s.inReset ∧ t.straps = s.straps ∧ t.clock = s.clock ∧ t.pending = s.pending ∧ t.device = s.device ∧
    t.classifier = s.classifier ∧ t.slots = s.slots ∧ t.agent = s.agent

theorem SameBeyondPoints.refl (s : State) : SameBeyondPoints s s := ⟨rfl, rfl, rfl, rfl, rfl, rfl, rfl, rfl⟩

theorem SameBeyondPoints.trans {s t u : State} (h : SameBeyondPoints s t) (k : SameBeyondPoints t u) :
    SameBeyondPoints s u := by
  obtain ⟨a, b, c, d, e, f, g, i⟩ := h
  obtain ⟨a', b', c', d', e', f', g', i'⟩ := k
  exact ⟨a'.trans a, b'.trans b, c'.trans c, d'.trans d, e'.trans e, f'.trans f, g'.trans g, i'.trans i⟩

/-- A cascade of the delivery side is such an event. -/
theorem State.run_same (ts : List Task) (s : State) : SameBeyondPoints s (s.run ts) :=
  ⟨rfl, rfl, rfl, rfl, rfl, rfl, rfl, rfl⟩

/-- A fold of such events is such an event. -/
theorem SameBeyondPoints.foldl {α : Type} (f : State → α → State) (h : ∀ s a, SameBeyondPoints s (f s a)) :
    ∀ (l : List α) (s : State), SameBeyondPoints s (l.foldl f s) := by
  intro l
  induction l with
  | nil => exact SameBeyondPoints.refl
  | cons a l ih => intro s; exact (h s a).trans (ih _)

/-- A begin of a finish changes the Finisher's active entry alone. -/
theorem State.beginFinish_eq (s : State) :
    s.beginFinish = { s with finisher := { s.finisher with active := s.beginFinish.finisher.active } } := by
  rw [State.beginFinish]
  split <;> rfl

theorem State.beginFinish_same (s : State) : SameBeyondPoints s s.beginFinish := by
  rw [State.beginFinish_eq]; exact ⟨rfl, rfl, rfl, rfl, rfl, rfl, rfl, rfl⟩

theorem State.appendFinish_same (e : FinishEntry) (s : State) : SameBeyondPoints s (s.appendFinish e) :=
  SameBeyondPoints.trans ⟨rfl, rfl, rfl, rfl, rfl, rfl, rfl, rfl⟩ (State.beginFinish_same _)

/-- An event of a point leaves every point as it is: the points themselves change before their events are told. -/
theorem State.pointEvent_points (i : Fin 24) (s : State) (e : PointEvent) : (s.pointEvent i e).points = s.points := by
  cases e with
  | handOver e => rw [State.pointEvent, State.appendFinish, State.beginFinish_eq]
  | overflow => rw [State.pointEvent, State.raise_points]
  | discarded r => rw [State.pointEvent, State.raise_points]
  | untracked b => rw [State.pointEvent, State.run_points]

theorem State.pointEvent_same (i : Fin 24) (s : State) (e : PointEvent) : SameBeyondPoints s (s.pointEvent i e) := by
  cases e with
  | handOver e => exact State.appendFinish_same _ _
  | overflow => exact State.run_same _ _
  | discarded r => exact State.run_same _ _
  | untracked b => exact State.run_same _ _

/-- The points after an event of point i: i alone has changed, as its block says. -/
theorem State.onPoint_points (i : Fin 24) (f : PointCtx → Point → PointStep) (s : State) :
    (s.onPoint i f).points = s.points.set i (f s.ctx (s.point i)).1 := by
  have key : ∀ (l : List PointEvent) (t : State), (l.foldl (State.pointEvent i) t).points = t.points := by
    intro l
    induction l with
    | nil => intro t; rfl
    | cons e l ih => intro t; rw [List.foldl_cons, ih, State.pointEvent_points]
  rw [State.onPoint]
  simp only [key]
  rfl

theorem State.onPoint_point_same (i : Fin 24) (f : PointCtx → Point → PointStep) (s : State) :
    (s.onPoint i f).point i = (f s.ctx (s.point i)).1 := by
  rw [State.point, State.onPoint_points]
  simp

theorem State.onPoint_point_other (i j : Fin 24) (f : PointCtx → Point → PointStep) (s : State) (h : j ≠ i) :
    (s.onPoint i f).point j = s.point j := by
  rw [State.point, State.onPoint_points, State.point]
  exact Vector.getElem_set_ne i.isLt j.isLt (fun e => h (Fin.ext e.symm))

theorem State.onPoint_same (i : Fin 24) (f : PointCtx → Point → PointStep) (s : State) :
    SameBeyondPoints s (s.onPoint i f) :=
  SameBeyondPoints.trans ⟨rfl, rfl, rfl, rfl, rfl, rfl, rfl, rfl⟩
    (SameBeyondPoints.foldl _ (State.pointEvent_same i) _ _)

/-- A point's event that tells nothing is its change of the point and no more. -/
theorem State.onPoint_quiet (i : Fin 24) (f : PointCtx → Point → PointStep) (s : State) (h : (f s.ctx (s.point i)).2 = []) :
    s.onPoint i f = s.setPoint i (f s.ctx (s.point i)).1 := by
  rw [State.onPoint]
  simp [h]

theorem State.onPoints_same (f : PointCtx → Point → PointStep) (s : State) : SameBeyondPoints s (s.onPoints f) :=
  SameBeyondPoints.foldl _ (fun s i => State.onPoint_same i f s) _ _

/-- The reports of a slot leave the slots and everything beyond the points as they are. -/
theorem State.slotReports_same (k : Fin 32) (x : SlotStep) (s : State) : SameBeyondPoints s (s.slotReports k x) := by
  rw [State.slotReports]
  have run : ∀ (c : Bool) (t : State) (ts : List Task), SameBeyondPoints t (if c then t.run ts else t) := by
    intro c t ts
    cases c
    · exact SameBeyondPoints.refl _
    · exact State.run_same ts t
  have pts : ∀ (c : Bool) (t : State) (f : PointCtx → Point → PointStep), SameBeyondPoints t (if c then t.onPoints f else t) := by
    intro c t f
    cases c
    · exact SameBeyondPoints.refl _
    · exact State.onPoints_same f t
  exact (((pts _ _ _).trans (run _ _ _)).trans (pts _ _ _)).trans (run _ _ _)

/-- A slot's event: the slot takes its new value, and everything beyond the points stays. -/
theorem State.applySlot_same (k : Fin 32) (x : SlotStep) (s : State) :
    SameBeyondPoints (s.setSlot k x.slot) (s.applySlot k x) :=
  (State.slotReports_same k x _).trans
    (SameBeyondPoints.foldl _ (fun s r => State.onPoints_same (fun ctx => Point.offerSet ctx k r) s) _ _)

/-- A record's append changes the delivery side alone. -/
theorem State.appendIf_eq (i : Fin 24) (r : Option IntervalRecord) (s : State) :
    s.appendIf i r = { s with dlv := (s.appendIf i r).dlv } := by
  cases r <;> rfl

end Sys2Proof.Machine
end

