-- ==== Sys2Proof/Laws/Requests.lean ====
section
/-! SUPPORT. A request whose fields a row spells: the kind the agent reads from it, and what its arrival does when the
agent takes it at once. -/

namespace Sys2Proof.Machine

theorem kindCode_lt (k : ReqKind) : kindCode k < 256 := by cases k <;> decide

/-- Every kind is read back from its code (11.2). -/
theorem kindOf_kindCode (k : ReqKind) : kindOf (kindCode k) = some k := by cases k <;> decide

section Made

variable (s : State) (h : ReqHeader) (k : ReqKind) (space : Byte) (index count : BitVec 16) (data : List Byte)

theorem madeRequest_posted : (madeRequest s h k space index count data).posted = decide (k = .writePosted) := by
  rw [Request.posted, madeRequest, reqKind_requestPayload _ _ _ _ _ _ (kindCode_lt k)]
  cases k <;> decide

/-- The reply the part builds for a made request is the one its header names. -/
theorem replyOf_madeRequest (x : Served) :
    replyOf (madeRequest s h k space index count data) x = replyTo h x.state.device.node k x.status x.count x.data := by
  simp only [replyOf, madeRequest, replyTo, reqTag_requestPayload, reqKind_requestPayload _ _ _ _ _ _ (kindCode_lt k)]

/-- The checks of R171 on a made request: only the permission of R172 is left. -/
theorem serve_madeRequest (t : State) :
    serve (madeRequest s h k space index count data) t =
      if permitted t.device h.source k space.toNat then
        serveKind k h.port h.source space.toNat index.toNat count.toNat data t
      else refuse .denied t := by
  simp only [serve, madeRequest, length_requestPayload, reqKind_requestPayload _ _ _ _ _ _ (kindCode_lt k), kindOf_kindCode,
    reqSpace_requestPayload, reqIndex_requestPayload, reqCount_requestPayload, reqData_requestPayload]
  rw [if_neg (by omega)]

/-- The port's place for a reply is all a made request waits for. -/
theorem canTake_madeRequest (t : State)
    (room : (t.dlv.port h.port).up = true → (t.dlv.port h.port).replyQ.length < Config.replyRoom) :
    canTake t (madeRequest s h k space index count data) = true := by
  cases hu : (t.dlv.port h.port).up with
  | false => simp [canTake, madeRequest, hu]
  | true => simp [canTake, madeRequest, room hu]

/-- A made request whose agent is free is served in the event of its arrival (R169, R170). -/
theorem requestArrives_taken (h0 : TakenAtOnce s h) :
    s.requestArrives (madeRequest s h k space index count data) =
      (joined s).serveRequest (madeRequest s h k space index count data) := by
  obtain ⟨_, hq, hroom⟩ := h0
  have hjoin : ({ s with agent := { s.agent with queue := [], received := s.agent.received + 1 } } : State) = joined s := by
    rw [joined, ← hq]
  have hct : canTake ({ s with agent := { s.agent with
      queue := [madeRequest s h k space index count data], received := s.agent.received + 1 } } : State)
      (madeRequest s h k space index count data) = true := canTake_madeRequest s h k space index count data _ hroom
  simp only [State.requestArrives, hq, List.length_nil, List.nil_append, List.isEmpty_nil, if_true, State.agentRun,
    List.length_singleton, State.agentLoop, hct]
  rw [if_pos (by decide), ← hjoin]
  rfl

/-- A request of another kind than WRITE-POSTED that is taken at once is answered with what `serve` answers. -/
theorem request_answered (h0 : TakenAtOnce s h) (hk : k ≠ .writePosted) (x : Served)
    (hx : serve (madeRequest s h k space index count data) (joined s) = x) :
    s.request h k space index count data = .next (answered h k x.status x.count x.data x.state) := by
  have hr := h0.1
  have hp : (madeRequest s h k space index count data).posted = false := by rw [madeRequest_posted]; simp [hk]
  subst hx
  simp only [State.request, State.event, hr, Bool.false_eq_true, if_false, requestArrives_taken s h k space index count data h0,
    State.serveRequest, hp, replyOf_madeRequest, answered]
  rfl

/-- A WRITE-POSTED that is taken at once is never answered (R177). -/
theorem request_posted (h0 : TakenAtOnce s h) (x : Served)
    (hx : serve (madeRequest s h .writePosted space index count data) (joined s) = x) :
    s.request h .writePosted space index count data =
      .next (State.endPosted (madeRequest s h .writePosted space index count data) x) := by
  have hr := h0.1
  have hp : (madeRequest s h .writePosted space index count data).posted = true := by rw [madeRequest_posted]; rfl
  subst hx
  simp only [State.request, State.event, hr, Bool.false_eq_true, if_false,
    requestArrives_taken s h .writePosted space index count data h0, State.serveRequest, hp, if_true]

end Made

/-- A permitted manager passes R172 for every kind. -/
theorem permitted_of_manages (s : State) (h : ReqHeader) (k : ReqKind) (code : Nat) (hm : Manages s h) :
    permitted s.device h.source k code = true := by
  rcases hm with hm | hm <;> simp [permitted, hm]

/-- A request of a permitted manager that is taken at once is answered with what its kind's service answers. -/
theorem request_served (s : State) (h : ReqHeader) (k : ReqKind) (space : Byte) (index count : BitVec 16) (data : List Byte)
    (h0 : TakenAtOnce s h) (hm : Manages s h) (hk : k ≠ .writePosted) (x : Served)
    (hx : serveKind k h.port h.source space.toNat index.toNat count.toNat data (joined s) = x) :
    s.request h k space index count data = .next (answered h k x.status x.count x.data x.state) := by
  have hp : permitted (joined s).device h.source k space.toNat = true := permitted_of_manages s h k space.toNat hm
  exact request_answered s h k space index count data h0 hk x (by rw [serve_madeRequest, if_pos hp, hx])

end Sys2Proof.Machine
end

