-- ==== Sys2Proof/Tests/Slice0.lean ====
section
/-! SUPPORT. The model's own tests: the well-formedness checks, the manual's worked figures, and for every statement with
hypotheses one state and operands that meet them. -/

namespace Sys2Proof.Tests

-- one theorem at a time: each kernel evaluation would otherwise hold a thread of its own
set_option Elab.async false

open Sys2Proof Sys2Proof.Machine

/-! ## Small states -/

/-- The part with one port UP. -/
def up (p : Port) (s : State) : State := { s with dlv := s.dlv.modPort p fun q => { q with up := true } }

/-- The part with both ports UP and transmitting. -/
def busy (s : State) : State :=
  { s with dlv := (s.dlv.modPort .a fun q => { q with up := true, tx := some (.pass []) }).modPort .b fun q =>
      { q with up := true, tx := some (.pass []) } }

/-- The part with some managers. -/
def managed (l : List Node) (s : State) : State := { s with device := { s.device with managers := l } }

/-- The part with another agent load. -/
def withLoad (l : Load) (s : State) : State := { s with agent := { s.agent with load := some l } }

/-- The part with channel 0 changed. -/
def withChannel (ch : Channel) (s : State) : State := { s with dlv := s.dlv.setChannel 0 ch }

/-- A request header. -/
def hd : ReqHeader := ⟨.a, 0x0010#16, 0x1234#16⟩

/-- The payload of a SAMPLE frame of one set of zeros: tag 5, second count 0. -/
def samplePayload (first : Nat) : List Byte :=
  beNat 4 5 ++ beNat 4 0 ++ beNat 2 first ++ beNat 1 1 ++ pad 1 ++ beNat 2 0x8000 ++ pad 24

/-- A slot in a state, with the expected index 10. -/
def slotIn (st : SlotState) (good : Nat) : Slot :=
  { Slot.init with st := st, tag := some 5, expected := some 10, good := good, lastUsable := some 0 }

/-- An order's result with powers P and Q. -/
def orderOne (p q : Int) : OrderResult := { order := 1, re := .const 0, im := .const 0, p := p, q := q, exceed := false }

/-- A window result of 2,560 samples from a start index. -/
def result (start : Nat) (p q : Int) : WindowResult :=
  { seq := 1, start := start, len := 2560, covered := 2560, bridgedCount := 0
    flags := ⟨false, false, false, false, false⟩, neutral := false, freq := 50000, excess := 0
    orders := [orderOne p q], ia := ⟨0, 0⟩, ib := ⟨0, 0⟩, ic := ⟨0, 0⟩, inn := ⟨0, 0⟩, nonFundExceed := false }

/-- A record with n order blocks. -/
def record (n : Nat) : IntervalRecord :=
  buildRecord 0 false false false
    { openFields 0 900 (result 0 0 0) with orders := List.replicate n ⟨1, 0⟩ } Point.init

/-- A window of 2,560 positions, 5 of them taken from index 100 on, under a gap policy. -/
def window (policy : GapPolicy) : Window :=
  { newWindow Point.init .first with
    cfg := { PointCfg.init with policy := policy }, start := some 100, expected := some 105, pos := 5, covered := 5 }

/-- A point collecting that window. -/
def collecting (policy : GapPolicy) : Point :=
  { Point.init with
    cfg := { PointCfg.init with enabled := true }
    framer := { Framer.init with st := .collecting, window := some (window policy) } }

/-- A window with two crossings a period apart. -/
def tracked (period : Nat) : Window :=
  { window .restart with firstCross := some 0, lastCross := some period, crossings := 2 }

/-- An entry of point 3 on the Finish Queue, and the part with its bank OUT and its finish due at a time. -/
def entry : FinishEntry :=
  { finishEntry Point.init (window .restart) with point := 3, bank := .second }

def finishing (abandoned : Bool) : State :=
  let p := { Point.init with framer := { Framer.init with bank2 := .out (BankSums.begin PointCfg.init 2560 [1]) } }
  let s := State.reset.setPoint 3 p
  { s with
    clock := 1250
    finisher := { s.finisher with
      queue := [entry], active := some { due := 1250, limits := .zero, abandoned := abandoned } } }

/-! ## Well-formedness and decoding -/

theorem test_write_of_slot_space_is_ill_formed : WellFormed (.write hd 0x03 0 1 []) = false := by decide

theorem test_write_data_too_long_is_ill_formed :
    WellFormed (.writePosted hd 0x05 0 1 (List.replicate 1493 0)) = false := by decide +kernel

theorem test_write_data_that_fits_is_well_formed :
    WellFormed (.slotWrite hd 0 1 (List.replicate 1492 0)) = true := by decide +kernel

theorem test_retrieve_without_ticket_is_ill_formed : WellFormed (.snapshotRetrieve hd 0 0) = false := by decide

theorem test_no_word_spells_a_command : decodeTableWord 32 0 = none ∧ State.reset.withFetchWord 32 0 = State.reset :=
  ⟨rfl, rfl⟩

/-! ## Figures of the manual -/

/-- "Frame and Record Layouts": the CRC-32 of the nine bytes "123456789" is 0xCBF43926. -/
theorem test_crc : crc32 [0x31, 0x32, 0x33, 0x34, 0x35, 0x36, 0x37, 0x38, 0x39] = 0xCBF43926#32 := by decide +kernel

/-- R87: the entries it names. -/
theorem test_twiddle :
    twiddleCos 0 = 32767 ∧ twiddleSin 0 = 0 ∧ twiddleCos 1024 = 0 ∧ twiddleSin 1024 = 32767 ∧ twiddleCos 2048 = -32767 := by
  decide +kernel

/-- R53: a half goes away from zero. -/
theorem test_calibrate_halves : calibrate 1 8192 = 1 ∧ calibrate (-3) 8192 = -2 ∧ 2 * |16384 * scaled 1 8192 - 8192| = 16384 := by
  decide

/-- R53: the table of calibrated values. -/
theorem test_calibrate :
    calibrate 3 16384 = 3 ∧ calibrate (-1) 8192 = -1 ∧ calibrate 5000000 20000 = 6103516 ∧
      calibrate (-4500000) 32000 = -8388607 ∧ calibrate 8388607 0 = 0 := by decide

/-- R207: the read sizes. -/
theorem test_read_sizes :
    (readSlot Slot.init).length = 64 ∧ (readPoint Point.init).length = 152 ∧
      (readAlert 0 (AlertEntry.init 0)).length = 32 ∧ (readPush false Channel.init).length = 40 ∧
      (readDevice (Device.init 0)).length = 24 ∧ (readResult 0 (some (result 0 0 0))).length = 1316 := by decide +kernel

/-- R207: COUNTERS has 840 words. -/
theorem test_counter_words : (counterWords State.reset).length = 840 := by decide +kernel

/-- "Searching the table": tags 0x00A10009 and 0x00A10005 against a SINK behind a TAP. -/
def searched : Classifier :=
  { Classifier.init with
    windows := (Classifier.init.windows.set 0 (StreamWindow.mk true .tap 0x00A10000 0xFFFFFFF0 0)).set 3
      (StreamWindow.mk true .sink 0x00A10008 0xFFFFFFFC 20) }

theorem test_search :
    searchWindows searched 0x00A10009 = some 3 ∧ searchWindows searched 0x00A10005 = some 0 ∧
      targetSlot searched.windows[3] 0x00A10009 = 21 ∧ searchWindows searched 0x00C00000 = none := by decide +kernel

/-- "Filling a pass-through buffer": the byte limit decides between 32,768 and 32,769. -/
theorem test_pass_room :
    passRoom (List.replicate 16 0) (List.replicate 21 (List.replicate 1512 0) ++ [List.replicate 1000 0]) = true ∧
      passRoom (List.replicate 17 0) (List.replicate 21 (List.replicate 1512 0) ++ [List.replicate 1000 0]) = false ∧
      passRoom (List.replicate 1017 0) (List.replicate 21 (List.replicate 1512 0)) = false := by decide +kernel

/-- "Local grants under load", grants 8 and 12: the ties go round. -/
theorem test_local_ties :
    pickClass { PortState.init with
      alertQ := [buildAlert State.reset.env 1 (AlertEntry.init 1)], replyQ := [replyTo hd 0 .read .ok 0 []]
      current := ⟨0, 0, 1⟩, lastWinner := some .alert } = some .reply := by decide +kernel

/-- "From adoption to reacquisition": a frame in sequence reaches the acquire count 8 and is delivered. -/
theorem test_slot_locks :
    (((slotIn .acquiring 7).take 0 (samplePayload 10)).slot.st = .locked) ∧
      ((slotIn .acquiring 7).take 0 (samplePayload 10)).delivered.length = 1 := by decide +kernel

/-- R79, R80 at nominal: one crossing every 65,536 / 256 samples gives 50,000 mHz and 2,560 samples. -/
theorem test_tracker_nominal :
    (Tracker.init.evaluate (tracked 65536)).freq = 50000 ∧ (Tracker.init.evaluate (tracked 65536)).nextLen = 2560 := by
  decide +kernel

/-- R101 by its formula: |Q| 500, |P| 1,000 and tan limit 400 leave 100. -/
theorem test_excess : reactiveExcess 400 (-1000) 500 = 100 ∧ reactiveExcess 400 1000 300 = 0 := by decide

/-- "Two windows and a boundary": 230,400,000,000 units are 5,000 whole. -/
theorem test_accumulate : (Accum.zero.add Config.fundDivisor 230400990720) = ⟨5000, 990720⟩ := by decide

/-- A tick of an idle part. -/
theorem test_tick : State.reset.tick.clock = 1 ∧ State.reset.tick.pending = [] := by decide +kernel

/-- A DEVICE read by any node answers 24 bytes. -/
theorem test_read_device :
    (match exec (.read hd 0x01 0 1) (managed [0x0020#16] (busy State.reset)) with
      | .next t => t.dlv.portA.replyQ.map fun f => (f.status, f.data.length)
      | _ => []) = [(Status.ok, 24)] := by decide +kernel

/-- A write by a node that may not manage the part is refused. -/
theorem test_denied :
    (match exec (.pushStart hd 0) (managed [0x0020#16] (busy State.reset)) with
      | .next t => t.dlv.portA.replyQ.map (·.status)
      | _ => []) = [Status.denied] := by decide +kernel

/-! ## Witnesses of the statements' hypotheses -/

theorem witness_step : ({ State.reset with pending := [.finishBegin] } : State).pending = .finishBegin :: [] := rfl

theorem witness_empty_queue :
    State.reset.pending = [] ∧ State.reset.inReset = false ∧
      ({ State.reset with inReset := true } : State).pending = [] ∧ ({ State.reset with inReset := true } : State).inReset = true :=
  ⟨rfl, rfl, rfl, rfl⟩

theorem witness_under_reset :
    ({ State.reset with inReset := true } : State).inReset = true ∧ (∀ x, Instr.finishBegin ≠ .powerOnReset x) ∧
      Instr.finishBegin ≠ .resetAsserted := ⟨rfl, fun _ h => (nomatch h), fun h => (nomatch h)⟩

theorem witness_link_up :
    State.reset.inReset = false ∧ (State.reset.dlv.port .a).up = false ∧ ((up .a State.reset).dlv.port .a).up = true := by
  decide +kernel

theorem witness_link_down :
    (up .b State.reset).inReset = false ∧ ((up .b State.reset).dlv.port .b).up = true ∧ (up .b State.reset).agent.queue = [] ∧
      ((up .b State.reset).dlv.port .a).up = false := by decide +kernel

/-- A frame of 11 bytes fails; frames of 12 and 1,512 bytes pass; a payload length field of 1,501 is too long. -/
theorem witness_length_check :
    (up .a State.reset).inReset = false ∧ ((up .a State.reset).dlv.port .a).up = true ∧
      (∀ r ∈ (up .a State.reset).agent.queue.head?, canTake (up .a State.reset) r = false) ∧
      ¬ (12 ≤ (List.replicate 11 (0 : Byte)).length) ∧
      (sealFrame 1 2 4 []).length = 12 ∧ frameLength (sealFrame 1 2 4 []) = 0 ∧
      (sealFrame 1 2 4 (pad 1500)).length = 1512 ∧ frameLength (sealFrame 1 2 4 (pad 1500)) = 1500 ∧
      1500 < frameLength (pad 6 ++ beNat 2 1501) := by decide +kernel

theorem witness_crc_and_source :
    lengthOk (pad 12) = true ∧ crc32 (frameBody (pad 12)) ≠ frameTrailer (pad 12) ∧
      lengthOk (sealFrame 1 0 4 []) = true ∧
      crc32 (frameBody (sealFrame 1 0 4 [])) = frameTrailer (sealFrame 1 0 4 []) ∧
      frameSource (sealFrame 1 0 4 []) = State.reset.device.node ∧ frameSource (sealFrame 1 2 4 []) ≠ 0#16 ∧
      ((busy State.reset).dlv.port .b).free = false ∧ ((up .a State.reset).dlv.port .a).free = true := by
  decide +kernel

/-- Port B with 23 and with 24 frames in its pass-through buffer. -/
def buffered (n : Nat) : State :=
  { busy State.reset with dlv := (busy State.reset).dlv.modPort .b fun q => { q with pass := List.replicate n [] } }

theorem witness_opaque_frame :
    verdict (busy State.reset).device.node (sealFrame 1 2 4 []) = .accepted ∧ frameKind (sealFrame 1 2 4 []) ≠ 1 ∧
      frameKind (sealFrame 1 2 4 []) ≠ 2 ∧ ((up .a State.reset).dlv.port (otherPort .a)).up = false ∧
      (((buffered 23).dlv.port .b).up = true ∧ ((buffered 23).dlv.port .b).tx.isSome = true) ∧
      passRoom (sealFrame 1 2 4 []) ((buffered 23).dlv.port .b).pass = true ∧
      (((buffered 24).dlv.port .b).up = true ∧ ((buffered 24).dlv.port .b).tx.isSome = true) ∧
      passRoom (sealFrame 1 2 4 []) ((buffered 24).dlv.port .b).pass = false := by decide +kernel

/-- A SINK window for every tag, whose target slot is DISABLED. -/
def sinking : State :=
  let s := up .a State.reset
  { s with classifier := { s.classifier with windows := s.classifier.windows.set 0 (StreamWindow.mk true .sink 0 0 31) } }

/-- Eight requests at the agent, the head of which waits for a place on port A. -/
def crowded : State :=
  let s := busy State.reset
  { s with
    dlv := s.dlv.modPort .a fun q => { q with replyQ := List.replicate 8 (replyTo hd 0 .read .ok 0 []) }
    agent := { s.agent with queue := List.replicate 8 (madeRequest s hd .read 0x01 0 1 []) } }

theorem witness_consumed_frames :
    sinking.inReset = false ∧ (sinking.dlv.port .a).up = true ∧ sinking.agent.queue.head? = none ∧
      verdict sinking.device.node (sealFrame 1 2 1 (pad 4)) = .accepted ∧ frameKind (sealFrame 1 2 1 (pad 4)) = 1 ∧
      4 ≤ (framePayload (sealFrame 1 2 1 (pad 4))).length ∧
      searchWindows sinking.classifier (sampleTag (framePayload (sealFrame 1 2 1 (pad 4)))) = some 0 ∧
      sinking.classifier.windows[(0 : Fin 16)].kind = .sink ∧
      enabledTarget sinking sinking.classifier.windows[(0 : Fin 16)] (sampleTag (pad 4)) = none ∧
      crowded.inReset = false ∧ (crowded.dlv.port .b).up = true ∧
      (∀ r ∈ crowded.agent.queue.head?, canTake crowded r = false) ∧
      verdict crowded.device.node (sealFrame 0 2 2 []) = .accepted ∧ frameKind (sealFrame 0 2 2 []) = 2 ∧
      frameDest (sealFrame 0 2 2 []) = crowded.device.node ∧ 8 ≤ crowded.agent.queue.length := by decide +kernel

theorem witness_transmission_end :
    (State.reset.dlv.port .a).tx = none ∧ ((busy State.reset).dlv.port .a).tx.isSome = true ∧
      ((busy State.reset).dlv.port .a).pass = [] ∧ ((busy State.reset).dlv.port .a).alertQ = [] ∧
      ((busy State.reset).dlv.port .a).replyQ = [] ∧ ((busy State.reset).dlv.port .a).reportQ = [] ∧
      (busy State.reset).agent.queue = [] := by decide +kernel

/-- A free port with pass-through frames, replies and a counter. -/
def waiting (pass : List (List Byte)) (replies counter : Nat) : PortState :=
  { PortState.init with
    up := true, pass := pass, replyQ := List.replicate replies (replyTo hd 0 .read .ok 0 []), passCount := counter }

theorem witness_grants :
    (waiting [[1]] 0 0).free = true ∧ (waiting [[1]] 0 0).localWaiting = false ∧
      (waiting [[1]] 1 2).localWaiting = true ∧ (waiting [[1]] 1 2).passCount < 3 ∧
      (waiting [[1]] 1 3).localWaiting = true ∧ (waiting [[1]] 1 3).passCount = 3 ∧
      (waiting [] 0 0).pass = [] ∧ (waiting [] 0 0).localWaiting = false ∧
      pickClass (waiting [] 1 0) = some .reply ∧ (waiting [] 1 0).passCount ≤ 3 ∧
      ((busy State.reset).dlv.port .a).free = false := by decide +kernel

/-- R13: the granted class takes its initial value, the other waiting one is lowered,
and the one that does not wait stays. -/
def granted : PortState :=
  let q := { waiting [] 1 0 with alertQ := [buildAlert State.reset.env 1 (AlertEntry.init 1)], current := ⟨2, 1, 3⟩ }
  ((grant { State.reset.env with priority := ⟨4, 5, 6⟩ } .a (Delivery.init.setPort .a q)).1).port .a

theorem test_local_grant :
    granted.lastWinner = some .reply ∧ granted.current = ⟨1, 5, 3⟩ ∧ granted.tx = some (.reply (replyTo hd 0 .read .ok 0 [])) := by
  decide +kernel

/-- 13 bytes are malformed; a payload of one set is not. -/
theorem witness_malformed : malformed (pad 13) = true ∧ malformed (samplePayload 12799) = false ∧
    malformed (samplePayload 12800) = true := by decide +kernel

theorem witness_adoption :
    (slotIn .idle 0).st = .idle ∧ (slotIn .lost 0).st = .lost ∧ malformed (samplePayload 3) = false ∧
      (sampleView (samplePayload 3)).sync = true ∧ (sampleView (samplePayload 3)).test = false := by decide +kernel

theorem witness_delivery : ((slotIn .locked 64).take 0 (samplePayload 10)).delivered ≠ [] := by decide +kernel

/-- Slot 7 followed until 0 ms, with a loss timeout of 20 ms, at a time. -/
def following (us : Nat) (st : SlotState) : State := { State.reset.setSlot 7 (slotIn st 1) with clock := us }

theorem witness_loss :
    ((following 19999 .locked).slot 7).lossDue (timebase (following 19999 .locked)) = false ∧
      ((following 20000 .locked).slot 7).lossDue (timebase (following 20000 .locked)) = true ∧
      ((following 20000 .acquiring).slot 7).lossDue (timebase (following 20000 .acquiring)) = true ∧
      ((following 20000 .acquiring).slot 7).st = .acquiring := by decide +kernel

/-- An entry of an index. -/
def at_ (n : Nat) : AlignEntry := ⟨n, .const 0, false⟩

theorem witness_alignment :
    (align [] [at_ 4, at_ 5] (at_ 5)).pairWith = some (at_ 5) ∧ (align [] [at_ 4, at_ 5] (at_ 5)).unpaired = 1 ∧
      (align ((List.range 16).map at_) [] (at_ 16)).overflow = true ∧
      ((List.range 16).map at_).length ≤ 16 := by decide +kernel

theorem witness_point_write :
    ((State.reset.setPoint 2 (collecting .skip)).point 2).framer.st = .collecting ∧
      ({ PointCfg.init with enabled := true } : PointCfg).enabled = true ∧ (State.reset.point 2).framer.st = .disabled ∧
      PointCfg.init.enabled = false ∧ ((State.reset.setPoint 2 (collecting .skip)).point 2).framer.st ≠ .disabled := by
  decide +kernel

/-- g = 0; g at the bridge limit 4; a skip that leaves one position. -/
theorem witness_next_set :
    (collecting .restart).framer.st = .collecting ∧ (collecting .restart).framer.window = some (window .restart) ∧
      (window .restart).start = some 100 ∧ (window .restart).expected = some (100 + (window .restart).pos) ∧
      105 = 100 + (window .restart).pos + 0 ∧ (window .restart).pos + 0 + 1 < (window .restart).len ∧
      (window .bridge).cfg.policy = .bridge ∧ 4 ≤ (window .bridge).cfg.bridgeLimit ∧
      (window .bridge).pos + 4 + 1 < (window .bridge).len ∧
      (window .skip).cfg.policy = .skip ∧ (window .skip).pos + 2553 + 1 < (window .skip).len := by decide +kernel

/-- The bounds of a valid period, and the windows without one before and at the third. -/
theorem witness_tracker :
    6 ≤ (tracked 46812).cfg.cycles ∧ (tracked 46812).cfg.cycles ≤ 16 ∧ (tracked 46812).validPeriod = some 46812 ∧
      (tracked 81920).validPeriod = some 81920 ∧ (tracked 46811).validPeriod = none ∧ (tracked 81921).validPeriod = none ∧
      Tracker.init.run + 1 < 3 ∧ 3 ≤ ({ Tracker.init with run := 2 } : Tracker).run + 1 := by decide +kernel

/-- The idle Finisher with that entry. -/
def idleFinisher : State := { finishing false with finisher := { (finishing false).finisher with active := none } }

theorem witness_finish_begin :
    idleFinisher.inReset = false ∧ idleFinisher.finisher.active = none ∧ idleFinisher.finisher.queue = entry :: [] ∧
      (idleFinisher.point entry.point).framer.bank entry.bank = .out (BankSums.begin PointCfg.init 2560 [1]) ∧
      (finishing false).finisher.active.isSome = true ∧ State.reset.finisher.queue = [] := by decide +kernel

theorem witness_finish_complete :
    (finishing false).inReset = false ∧
      (finishing false).dueFinish false = some (entry, { due := 1250, limits := .zero, abandoned := false }) ∧
      ((finishing false).point entry.point).framer.bank entry.bank = .out (BankSums.begin PointCfg.init 2560 [1]) ∧
      ({ finishing false with clock := 1249 } : State).dueFinish false = none ∧
      (finishing false).finisher.queue.drop 1 = [] := by decide +kernel

/-- The same with both ports transmitting, no channel ARMED and a second entry behind it. -/
def twoFinishes : State :=
  let s := busy (finishing false)
  let p := { s.point 3 with framer := { (s.point 3).framer with bank1 := (s.point 3).framer.bank2 } }
  { s.setPoint 3 p with finisher := { s.finisher with queue := [entry, { entry with bank := .first }] } }

theorem witness_next_finish :
    twoFinishes.dueFinish false = some (entry, { due := 1250, limits := .zero, abandoned := false }) ∧
      (∀ q : Port, (twoFinishes.dlv.port q).free = false) ∧ (∀ c : Fin 4, (twoFinishes.dlv.channel c).st ≠ .armed) ∧
      twoFinishes.finisher.queue.drop 1 = { entry with bank := .first } :: [] ∧
      (twoFinishes.point 3).framer.bank .first = .out (BankSums.begin PointCfg.init 2560 [1]) := by
  refine ⟨by decide +kernel, fun q => ?_, by decide +kernel, by decide +kernel, by decide +kernel⟩
  cases q <;> decide +kernel

/-- R95, R94: after the completion the second finish is under way, due 1,250 us later. -/
theorem test_finish_begins_the_next :
    (match exec .finishComplete twoFinishes with
      | .next t => (t.finisher.active.map (·.due), t.finisher.queue.length, (t.point 3).finished)
      | _ => (none, 0, 0)) = (some 2500, 1, 1) := by decide +kernel

theorem witness_abandoned_finish :
    (finishing true).dueFinish true = some (entry, { due := 1250, limits := .zero, abandoned := true }) ∧
      (finishing true).dueFinish false = none := by decide +kernel

/-- A point whose OPEN interval, number 0 with one order, was opened at 900 s. -/
def openPoint : Point :=
  { Point.init with ivl := { fields := some (openFields 0 900 (result 0 0 0)), discardedWindows := 0, discardedSamples := 0 } }

/-- No cause; a later number with 33 words of room, and with 32. -/
theorem witness_interval :
    openPoint.ivl.fields = some (openFields 0 900 (result 0 0 0)) ∧ (result 11519999 0 0).start / (900 * 12800) = 0 ∧
      (result 11520000 0 0).start / (900 * 12800) = 1 ∧ 28 + 5 * (openFields 0 900 (result 0 0 0)).orders.length ≤ 33 ∧
      32 < 28 + 5 * (openFields 0 900 (result 0 0 0)).orders.length := by decide +kernel

/-- A SENDING channel. -/
def sending : Channel := { Channel.init with st := .sending, cfg := { Channel.init.cfg with enabled := true } }

/-- The Record Queue with one record of 33 words. -/
def oneRecord (s : State) : State := { s with dlv := { s.dlv with recq := { RecordQueue.init with records := [record 1] } } }

theorem witness_send_attempt :
    (State.reset.dlv.channel 0).st ≠ .sending ∧ State.reset.dlv.wait (State.reset.dlv.channel 0).cfg.port = [] ∧
      ((withChannel sending State.reset).dlv.channel 0).st = .sending ∧
      ((withChannel sending State.reset).dlv.port .a).up = false ∧
      ((withChannel sending (busy State.reset)).dlv.port .a).up = true ∧
      ((withChannel sending (busy State.reset)).dlv.port .a).reportQ.length < 4 ∧
      (withChannel sending (busy State.reset)).dlv.recq.records = [] ∧
      (withChannel sending (oneRecord (busy State.reset))).dlv.recq.records = record 1 :: [] ∧
      recordWords (record 1) ≤ 373 ∧ wordsOf [] < State.reset.device.watermark ∧ sending.cfg.burst = false ∧
      sending.cfg.count = 0 ∧ sending.backlog = 0 := by decide +kernel

/-- R143: two burst channels wait for a DOWN port; when it comes up the freed places go to them in
turn. -/
def twoWaiting : State :=
  let ch := { sending with cfg := { sending.cfg with burst := true }, fresh := true }
  let d := { (State.reset.dlv.setChannel 0 ch).setChannel 1 ch with
    waitA := [0, 1], recq := { RecordQueue.init with records := List.replicate 80 (record 1) } }
  { State.reset with dlv := d }

theorem test_wait_list_alternates :
    (match exec (.linkUp .a) twoWaiting with
      | .next t => ((match t.dlv.portA.tx with | some (.report f) => some f.channel | _ => none),
          t.dlv.portA.reportQ.map (·.channel), t.dlv.waitA)
      | _ => (none, [], [])) = (some 0, [1, 0, 1, 0], [1, 0]) := by decide +kernel

/-- Entry 5, a LEVEL source, and entry 7, an EDGE source, ready. -/
def readyEntry (n : Nat) (active : Bool) (pending : Option (BitVec 32)) : AlertEntry :=
  { AlertEntry.init n with
    cfg := { AlertCfg.init n with masked := false, level := 7 }, active := active, pending := pending, count := 255 }

theorem witness_offers_and_restore :
    (State.reset.dlv.port .a).up = false ∧ ((busy State.reset).dlv.port .a).tx.isSome = true ∧
      (readyEntry 5 true none).ready 1 5 = true ∧ (readyEntry 7 false (some 9)).ready 1 7 = true ∧
      (readyEntry 5 true none).count ≤ 255 := by decide +kernel

theorem witness_reply_places :
    (State.reset.dlv.port .a).up = false ∧ ((up .a State.reset).dlv.port .a).free = true ∧
      ((up .a State.reset).dlv.port .a).pass = [] ∧ ((up .a State.reset).dlv.port .a).replyQ = [] ∧
      ((busy State.reset).dlv.port .a).up = true := by decide +kernel

/-- A request that is taken at once: seven replies wait on its UP port. -/
def ready : State :=
  { busy State.reset with dlv := (busy State.reset).dlv.modPort .a fun q =>
      { q with replyQ := List.replicate 7 (replyTo hd 0 .read .ok 0 []) } }

theorem witness_taken_at_once :
    ready.inReset = false ∧ ready.agent.queue = [] ∧
      ((ready.dlv.port hd.port).up = true → (ready.dlv.port hd.port).replyQ.length < Config.replyRoom) := by decide +kernel

theorem witness_manages :
    ready.device.managers = [] ∧ hd.source ∈ (managed [0x0010#16] ready).device.managers ∧
      ¬ ((managed [0x0020#16] ready).device.managers = [] ∨ hd.source ∈ (managed [0x0020#16] ready).device.managers) := by
  decide +kernel

/-- READ: no space 0; the last window 15 and the first that is none; word 839 of COUNTERS. -/
theorem witness_read :
    spaceOf (0 : Byte).toNat = none ∧ spaceOf (0x02 : Byte).toNat = some .window ∧
      (15 : BitVec 16).toNat < readPlaces .window ∧ readPlaces .window ≤ (16 : BitVec 16).toNat ∧
      (839 : BitVec 16).toNat < readPlaces .counters ∧ readPlaces .counters ≤ (840 : BitVec 16).toNat := by decide +kernel

theorem witness_denied :
    requestRow (.writePosted hd 0x02 0 1 []) = some (hd, .writePosted) ∧ requestRow (.loadAbort hd) = some (hd, .loadAbort) ∧
      (∀ index count, Instr.loadAbort hd ≠ .read hd 0x01 index count) :=
  ⟨rfl, rfl, fun _ _ h => (nomatch h)⟩

/-- A whole write of a SLOT entry passes; one byte less is SHORT. -/
theorem witness_write :
    checkWrite ready .slot 31 1 (encodeSlotCfg Slot.init.cfg) = none ∧
      checkWrite ready .slot 31 1 (pad 7) = some ⟨.short, 31⟩ ∧ checkWrite ready .result 0 1 [] = some ⟨.readOnly, 0⟩ ∧
      spaceOf (0x03 : Byte).toNat = some .slot := by decide +kernel

/-- Whole writes of the last window, harmonic set, limit profile and alert pass. -/
theorem witness_other_writes :
    checkWrite ready .window 15 1 (encodeWindow StreamWindow.init) = none ∧
      checkWrite ready .hset 7 1 (encodeHset [1, 50]) = none ∧
      checkWrite ready .limit 7 1 (encodeLimit .zero) = none ∧
      checkWrite ready .alert 19 1 (encodeAlertCfg (AlertCfg.init 19)) = none := by decide +kernel

/-- R40: a followed slot is LOST at its write when its new deadline has passed, and stays LOCKED when it has not. -/
def followed : SlotCfg := { Slot.init.cfg with enabled := true }

def rewritten (us : Nat) : SlotState :=
  ((((following us .locked).setSlot 7 { slotIn .locked 1 with cfg := followed }).writeSlot 7
    { followed with lossTimeout := 15 }).slot 7).st

theorem test_slot_write_may_lose : rewritten 14999 = .locked ∧ rewritten 15000 = .lost := by decide +kernel

/-- A DEVICE write with other priorities, and with the same. -/
theorem witness_device_write :
    checkWrite ready .device 0 1 (encodeDeviceCfg { ready.device with node := 9, priority := ⟨15, 0, 0⟩ }) = none ∧
      decodeDevice false (encodeDeviceCfg { ready.device with node := 9, priority := ⟨15, 0, 0⟩ }) =
        some { ready.device with node := 9, priority := ⟨15, 0, 0⟩ } ∧
      checkWrite ready .device 0 1 (encodeDeviceCfg ready.device) = none ∧
      decodeDevice ready.device.metrologyLock (encodeDeviceCfg ready.device) = some ready.device ∧
      (ready.dlv.port .a).free = false ∧ (ready.dlv.port .b).free = false := by decide +kernel

theorem witness_fetch :
    (State.reset.dlv.port hd.port).up = false ∧ ready.dlv.recq.records = [] ∧
      ((oneRecord ready).dlv.port hd.port).up = true ∧ (1 : BitVec 16) ≠ 0 ∧ (oneRecord ready).dlv.recq.records ≠ [] := by
  decide +kernel

/-- The vectors 0x0F, 0x10, 0xFE and 0xFF. -/
theorem witness_vectors :
    (0x0F : BitVec 16).toNat < 0x10 ∧ 0x10 ≤ (0x10 : BitVec 16).toNat ∧ (0xFE : BitVec 16).toNat ≤ 0xFE ∧
      0xFE < (0xFF : BitVec 16).toNat := by decide

theorem witness_push_start :
    4 ≤ (4 : BitVec 16).toNat ∧ (3 : Fin 4).val = (3 : BitVec 16).toNat ∧ (ready.dlv.channel 3).st = .disabled ∧
      ((withChannel sending ready).dlv.channel 0).st = .sending ∧ sending.cfg.burst = false ∧ sending.backlog < 255 := by
  decide +kernel

/-- A SENDING burst channel, a saturated backlog, and an ARMED channel: on a DOWN port, and with an empty queue. -/
theorem witness_triggers :
    ((withChannel { sending with cfg := { sending.cfg with burst := true } } ready).dlv.channel 0).cfg.burst = true ∧
      255 ≤ ((withChannel { sending with backlog := 255 } ready).dlv.channel 0).backlog ∧
      ((withChannel { sending with st := .armed } State.reset).dlv.channel 0).st = .armed ∧
      (State.reset.dlv.port .a).up = false ∧ (0 : Fin 4) ∉ State.reset.dlv.wait .a ∧
      ((withChannel { sending with st := .armed } ready).dlv.channel 0).st = .armed ∧ (ready.dlv.port .a).up = true ∧
      ready.dlv.wait .a = [] ∧ (ready.dlv.port .a).reportQ.length < 4 ∧ ready.dlv.recq.records = [] := by decide +kernel

theorem witness_reset_point :
    24 ≤ (24 : BitVec 16).toNat ∧ (23 : Fin 24).val = (23 : BitVec 16).toNat ∧ (ready.point 23).framer.st = .disabled ∧
      ((ready.setPoint 23 (collecting .skip)).point 23).framer.st ≠ .disabled := by decide +kernel

/-- A finish of point 3 is under way, with its other bank FREE; its entry waits alone; no entry. -/
theorem witness_reset_point_finish :
    (finishing false).finisher.queue = entry :: [] ∧ entry.point = (3 : Fin 24) ∧
      (finishing false).finisher.active.isSome = true ∧
      ((finishing false).point 3).framer.bank entry.bank = .out (BankSums.begin PointCfg.init 2560 [1]) ∧
      ((finishing false).point 3).framer.bank (otherBank entry.bank) = .free ∧
      idleFinisher.finisher.active = none ∧ idleFinisher.finisher.queue = [entry] ∧ ready.finisher.queue = [] ∧
      (3 : Fin 24).val = (3 : BitVec 16).toNat ∧ (finishing false).inReset = false ∧ (finishing false).agent.queue = [] := by
  decide +kernel

/-- R83: a reset point collects again at once when its slot is LOCKED, and waits when it is not. -/
theorem test_reset_point_collects :
    ((((State.reset.setPoint 2 (collecting .skip)).setSlot 0 (slotIn .locked 8)).resetPoint 2).point 2).framer.st =
        .collecting ∧
      (((State.reset.setPoint 2 (collecting .skip)).resetPoint 2).point 2).framer.st = .waiting := by decide +kernel

/-- The counts at the edge of a space. -/
theorem witness_load_open :
    spaceOf (0x06 : Byte).toNat = some .limit ∧ ¬ spaceEntries .limit < (7 : BitVec 16).toNat + (1 : BitVec 16).toNat ∧
      spaceEntries .limit < (7 : BitVec 16).toNat + (2 : BitVec 16).toNat ∧ ready.agent.load = none := by decide +kernel

/-- A load of one SLOT entry by a node, with some staged bytes. -/
def load (opener : Node) (staged : List Byte) : Load :=
  { opener := opener, space := .slot, first := 0, count := 1, staged := staged, lastActivity := 0 }

/-- In order: another opener, a count that differs, an offset that differs, a byte too many, and the last byte. -/
theorem witness_load_data :
    (withLoad (load 0x0011 []) ready).agent.load = some (load 0x0011 []) ∧ hd.source ≠ (load 0x0011 []).opener ∧
      hd.source = (load 0x0010 (pad 7)).opener ∧ (pad 2).length ≠ (1 : BitVec 16).toNat ∧
      (6 : BitVec 16).toNat ≠ (load 0x0010 (pad 7)).staged.length ∧
      (load 0x0010 (pad 7)).total < (pad 7).length + (2 : BitVec 16).toNat ∧
      ¬ (load 0x0010 (pad 7)).total < (pad 7).length + (1 : BitVec 16).toNat := by decide +kernel

/-- A whole load with its CRC that passes its checks, and one of zeros that does not. -/
theorem witness_load_close :
    (load 0x0010 (encodeSlotCfg Slot.init.cfg)).staged.length = (load 0x0010 []).total ∧
      (crc32 (encodeSlotCfg Slot.init.cfg)).toNat =
        beToNat ((beNat 4 (crc32 (encodeSlotCfg Slot.init.cfg)).toNat).take 4) ∧
      checkStaged ready (load 0x0010 (encodeSlotCfg Slot.init.cfg)) = none ∧
      checkStaged ready (load 0x0010 (pad 8)) = some ⟨.badValue, 0⟩ := by decide +kernel

/-- The last microsecond before a limit, and the limit. -/
theorem witness_expiries :
    timebase { withLoad (load 0x0010 []) State.reset with clock := 999999 } < (load 0x0010 []).lastActivity + 1000 ∧
      (load 0x0010 []).lastActivity + 1000 ≤ timebase { withLoad (load 0x0010 []) State.reset with clock := 1000000 } ∧
      State.reset.agent.tickets[(0 : Fin 4)] = .free ∧
      (State.reset.setTicket 1 (.waiting 0 0)).agent.tickets[(1 : Fin 4)] = .waiting 0 0 ∧
      0 + 5000 ≤ timebase { State.reset with clock := 5000000 } := by decide +kernel

/-- A copy of an EMPTY interval. -/
def copy : SnapshotCopy := snapshotCopy 23 0 Point.init

theorem witness_snapshots :
    24 ≤ (24 : BitVec 16).toNat ∧ ready.agent.tickets[(0 : Fin 4)] = .free ∧
      (∀ q : Fin 4, (({ ready with agent := { ready.agent with tickets := Vector.replicate 4 (.waiting 0 0) } } : State)).agent.tickets[q] ≠ .free) ∧
      (23 : Fin 24).val = (23 : BitVec 16).toNat ∧ (3 : Fin 4).val + 1 = (4 : BitVec 16).toNat ∧ 4 < (5 : BitVec 16).toNat ∧
      (ready.setTicket 3 (.ready 23 0 copy)).agent.tickets[(3 : Fin 4)] = .ready 23 0 copy := by decide +kernel

theorem witness_sealed_frames : 0xFF < 256 ∧ (pad 1500).length ≤ 1500 := by decide +kernel

theorem witness_written_parts :
    Slot.init.cfg.Legal ∧ PointCfg.init.Legal ∧ validOrders [1, 50] = true ∧ (AlertCfg.init 0).Legal := by
  refine ⟨?_, ?_, by decide, ?_⟩
  · unfold SlotCfg.Legal; decide
  · unfold PointCfg.Legal; decide
  · unfold AlertCfg.Legal; decide

/-- A state that keeps every law, with a command at its front. -/
def lawful : State := { ready with pending := [.finishBegin] }

theorem witness_step_of_lawful : step lawful = .next ready := rfl

theorem witness_capacities : RecordQueueFits lawful ∧ QueuesWithinCapacity lawful ∧ LoadWithinRoom lawful := by
  refine ⟨?_, ⟨fun p => ?_, ?_⟩, fun l h => ?_⟩
  · unfold RecordQueueFits; decide +kernel
  · unfold PortWithinCapacity; cases p <;> decide +kernel
  · decide +kernel
  · have hl : lawful.agent.load = none := by decide +kernel
    rw [hl] at h; exact nomatch h

theorem witness_ports_and_alerts : DownPortsHoldNothing State.reset ∧ AlertsNeverBoth lawful := by
  constructor
  · unfold DownPortsHoldNothing DownPortHoldsNothing; intro p; cases p <;> decide +kernel
  · unfold AlertsNeverBoth; decide +kernel

theorem witness_values_in_range : DeviceLegal lawful ∧ TablesLegal lawful ∧ RemaindersBelow lawful := by
  refine ⟨?_, ⟨?_, fun i => ⟨?_, fun c h => ?_⟩, ?_, ?_, ?_⟩, fun i => ?_⟩
  · unfold DeviceLegal; decide +kernel
  · unfold SlotCfg.Legal; decide +kernel
  · have hc : ∀ i : Fin 24, (lawful.point i).cfg = PointCfg.init := by decide +kernel
    rw [hc i]; unfold PointCfg.Legal; decide +kernel
  · have hw : ∀ i : Fin 24, (lawful.point i).waitingCfg = none := by decide +kernel
    rw [hw i] at h; exact nomatch h
  · unfold LimitProfile.Legal; decide +kernel
  · unfold AlertCfg.Legal; decide +kernel
  · decide +kernel
  · have ha : ∀ i : Fin 24, (lawful.point i).acc = .zero := by decide +kernel
    rw [ha i]; unfold Accumulators.RemaindersBelow; decide +kernel

theorem witness_points_sound : PointsSound lawful := by
  intro i
  have hp : ∀ i : Fin 24, lawful.point i = Point.init := by decide +kernel
  rw [hp i]
  exact ⟨by decide, by decide, fun c h => nomatch h⟩

/-! ## Witnesses of the clauses for frames, points, windows, channels and alerts -/

/-- Port A UP, tag 5 hitting a window of a kind whose target is slot 7, in a state. -/
def tagged (kind : WindowKind) (x : Slot) : State :=
  let s := (up .a State.reset).setSlot 7 x
  { s with classifier := { s.classifier with windows := s.classifier.windows.set 0 (StreamWindow.mk true kind 5 0xFFFFFFFF 7) } }

/-- A SAMPLE frame of one set of tag 5 and first index 10. -/
def sampleFrame : List Byte := sealFrame 1 2 1 (samplePayload 10)

/-- A hit under each kind with the slot enabled, a TAP hit without a slot, no hit, and a frame without a tag. -/
theorem witness_sample_frames :
    (∀ kind ∈ [WindowKind.sink, .tap, .pass],
      (let s := tagged kind (slotIn .locked 8)
       s.inReset = false ∧ (s.dlv.port .a).up = true ∧ s.agent.queue = [] ∧ verdict s.device.node sampleFrame = .accepted ∧
         searchWindows s.classifier (sampleTag (framePayload sampleFrame)) = some 0 ∧
         s.classifier.windows[(0 : Fin 16)].kind = kind ∧
         enabledTarget s s.classifier.windows[(0 : Fin 16)] (sampleTag (framePayload sampleFrame)) = some 7)) ∧
      frameKind sampleFrame = 1 ∧ 4 ≤ (framePayload sampleFrame).length ∧
      enabledTarget (tagged .tap Slot.init) (tagged .tap Slot.init).classifier.windows[(0 : Fin 16)]
        (sampleTag (framePayload sampleFrame)) = none ∧
      searchWindows (up .a State.reset).classifier (sampleTag (framePayload sampleFrame)) = none ∧
      verdict 0 (sealFrame 1 2 1 (pad 3)) = .accepted ∧ (framePayload (sealFrame 1 2 1 (pad 3))).length < 4 := by
  decide +kernel

/-- A frame that only starts an acquisition reports nothing. -/
theorem witness_quiet_frame :
    (let x := (slotIn .idle 0).take 0 (samplePayload 10)
     x.left = false ∧ x.lostChanged = false ∧ x.entered = false ∧ x.reacquired = false ∧ x.delivered = []) := by
  decide +kernel

/-- The REQUEST frame of a READ of DEVICE to a node. -/
def readFrame (dest : Node) : List Byte := sealFrame dest 0x0010 2 (requestPayload 0x1234 (kindCode .read) 0x01 0 1 [])

/-- What the clause of a REQUEST frame supposes of one for a destination. -/
abbrev ReadsDevice (dest : Node) : Prop :=
  verdict (up .a State.reset).device.node (readFrame dest) = .accepted ∧ frameKind (readFrame dest) = 2 ∧
    hd.source = frameSource (readFrame dest) ∧ frameDest (readFrame dest) = dest ∧
    framePayload (readFrame dest) = requestPayload hd.tag (kindCode .read) 0x01 0 1 []

theorem witness_request_row : rowFields (.read hd 0x01 0 1) = some (hd, .read, 0x01, 0, 1, []) ∧ hd.port = .a := ⟨rfl, rfl⟩

theorem witness_request_frames :
    ReadsDevice 0 ∧ ReadsDevice Config.broadcast ∧ frameFlags (readFrame 0) = 0 ∧ (up .a State.reset).device.node = 0 ∧
      (∀ r ∈ (up .a State.reset).agent.queue.head?, canTake (up .a State.reset) r = false) ∧
      (up .a State.reset).inReset = false ∧ (up .a State.reset).agent.queue = [] ∧
      ((up .a State.reset).dlv.port hd.port).replyQ.length < Config.replyRoom := by decide +kernel

/-- 7 bytes, the same with the kind of a posted write, and 8 bytes with kind 0xEE. -/
theorem witness_short_and_unknown_kind :
    (∀ y ∈ [pad 7, [0, 0, 3, 0, 0, 0, 0], [0, 0, 0xEE, 0, 0, 0, 0, 0]],
      verdict (up .a State.reset).device.node (sealFrame 0 2 2 y) = .accepted ∧ frameKind (sealFrame 0 2 2 y) = 2 ∧
        frameDest (sealFrame 0 2 2 y) = (up .a State.reset).device.node ∧ framePayload (sealFrame 0 2 2 y) = y) ∧
      (pad 7).length < 8 ∧ reqKind (pad 7) ≠ 3 ∧ reqKind [0, 0, 3, 0, 0, 0, 0] = 3 ∧
      kindOf (reqKind [0, 0, 0xEE, 0, 0, 0, 0, 0]) = none ∧ (pad 7).length < 6 + 2 := by decide +kernel

/-- An ALERT frame alone at a free transmitter. -/
theorem witness_alert_grant :
    (let q := { waiting [] 0 0 with alertQ := [buildAlert State.reset.env 5 (AlertEntry.init 5)] }
     q.free = true ∧ q.localWaiting = true ∧ q.pass = [] ∧ pickClass q = some .alert) := by decide +kernel

/-- What the clauses of a followed slot suppose, at their bounds: the acquire count 8, the max gap 64, one second back, and the
eighth late frame. -/
theorem witness_followed_slot :
    malformed (samplePayload 10) = false ∧ (sampleView (samplePayload 10)).sync = true ∧
      (sampleView (samplePayload 10)).test = false ∧ (sampleView (samplePayload 10)).first = 10 ∧
      (slotIn .locked 8).expected = some 10 ∧ (slotIn .locked 8).tag = some (sampleView (samplePayload 10)).tag ∧
      ({ slotIn .locked 8 with tag := some 6 } : Slot).tag ≠ some (sampleView (samplePayload 10)).tag ∧
      (slotIn .acquiring 7).cfg.acquire ≤ 7 + 1 ∧ 6 + 1 < (slotIn .acquiring 6).cfg.acquire ∧
      (sampleView (samplePayload 74)).first = 10 + 64 ∧ 64 ≤ (slotIn .locked 8).cfg.maxGap ∧
      (sampleView (samplePayload 75)).first = 10 + 65 ∧ (slotIn .locked 8).cfg.maxGap < 65 ∧
      (sampleView (samplePayload 10)).first + 12800 < 12811 ∧ 12810 ≤ (sampleView (samplePayload 10)).first + 12800 ∧
      8 ≤ 7 + 1 ∧ 6 + 1 < 8 := by decide +kernel

/-- A point on slot 0 with both sources LOCKED, in a framer state. -/
def sourced (st : FramerState) (w : Option Window) : Point :=
  { collecting .restart with
    vLocked := true, iLocked := true
    framer := ({ Framer.init with st := st, window := w } : Framer).setBank .first (.active (BankSums.begin PointCfg.init 2560 [1])) }

/-- A lost source: a window not started, one under RESTART, one under SKIP, a framer that waits, and one in HELD. -/
theorem witness_lost_source :
    (sourced .collecting none).cfg.enabled = true ∧ (sourced .collecting none).cfg.vSlot = 0 ∧
      (sourced .collecting none).waitingCfg = none ∧
      (sourced .collecting (some (newWindow Point.init .first))).framer.window = some (newWindow Point.init .first) ∧
      (newWindow Point.init .first).start = none ∧ (window .restart).start = some 100 ∧ (window .restart).cfg.policy = .restart ∧
      (window .skip).start = some 100 ∧ (window .skip).cfg.policy ≠ .restart ∧
      (sourced .waiting none).framer.st ≠ .collecting ∧ (sourced .held (some (window .skip))).framer.st = .held := by
  decide +kernel

/-- The five cases of a set 5: its own index at the head, a later one, none left with 15 and with 16 sets queued. -/
theorem witness_alignment_cases :
    [at_ 3, at_ 5, at_ 6] = [at_ 3] ++ at_ 5 :: [at_ 6] ∧ (at_ 3).index < (at_ 5).index ∧
      (at_ 5).index < (at_ 6).index ∧ ((List.range 15).map at_).length < 16 ∧ 16 ≤ ((List.range 16).map at_).length ∧
      (align [] [at_ 6] (at_ 5)).pairWith = none := by decide +kernel

/-- A point takes the sets of its slot; IA invalid leaves the set unusable; a point of two slots takes each on its side. -/
theorem witness_taken_sets :
    (let whole : RawSet := { index := 1, chan := .const (some 0), vn := none }
     let p := sourced .collecting none
     (p.cfg.enabled = true ∧ p.vLocked = true ∧ p.iLocked = true ∧ p.cfg.vSlot = 0 ∧ p.cfg.iSlot = 0) ∧
       (whole.chan.va.isSome = true ∧ whole.chan.ia.isSome = true ∧ p.cfg.useNeutral = false) ∧
       ({ whole.chan with ia := none } : Seven (Option Int)).ia.isSome = false ∧
       ({ p.cfg with iSlot := 1 } : PointCfg).vSlot ≠ ({ p.cfg with iSlot := 1 } : PointCfg).iSlot ∧
       (Point.init.cfg.enabled = false)) := by decide +kernel

/-- A WAITING point written with enabled on; with both slots LOCKED and another gain it collects under the new mark. -/
theorem witness_waiting_write :
    (let s := (State.reset.setPoint 2 { sourced .waiting none with vLocked := false }).setSlot 0 (slotIn .locked 8)
     let c : PointCfg := { PointCfg.init with enabled := true, gains := ⟨1, 16384, 16384, 16384, 16384, 16384, 16384⟩ }
     (s.point 2).framer.st = .waiting ∧ c.enabled = true ∧ (s.point 2).cfg.gains ≠ c.gains ∧
       ((s.writePoint 2 c).point 2).vLocked = true ∧ ((s.writePoint 2 c).point 2).framer.st = .collecting ∧
       ((s.writePoint 2 { c with gains := (s.point 2).cfg.gains }).point 2).vLocked = false) := by decide +kernel

/-- The first set; the last position; gaps past the limits, a step back; a skip and a bridge past the end. -/
theorem witness_window_cases :
    (let first := sourced .collecting (some (newWindow Point.init .first))
     let p := sourced .collecting (some (window .restart))
     first.framer.st = .collecting ∧ (newWindow Point.init .first).start = none ∧ 1 < (newWindow Point.init .first).len ∧
       ({ window .restart with len := 6 } : Window).pos + 0 + 1 = 6 ∧
       (105 < 106 ∧ (window .restart).cfg.policy = .restart) ∧ (window .bridge).cfg.bridgeLimit < 110 - 105 ∧ 104 < 105 ∧
       p.waitingCfg = none ∧ p.vLocked = true ∧ p.iLocked = true ∧ 1 < p.framer.trk.nextLen ∧
       (window .skip).pos < (window .skip).len ∧ (window .skip).len ≤ (window .skip).pos + 2555 ∧
       ({ window .bridge with len := 8 } : Window).len ≤ 5 + 3 ∧ 3 ≤ (window .bridge).cfg.bridgeLimit) := by decide +kernel

/-- A whole window, one of 5 positions in 2,560, one of exactly 90 %, and the other bank OUT. -/
theorem witness_window_end :
    (let p := sourced .collecting (some (window .skip))
     p.framer.window = some (window .skip) ∧
       p.framer.bank (window .skip).bank = .active (BankSums.begin PointCfg.init 2560 [1]) ∧ p.waitingCfg = none ∧
       p.vLocked = true ∧ p.iLocked = true ∧ p.framer.bank (otherBank (window .skip).bank) = .free ∧
       ¬ 2560 + (window .skip).bridgedCount < (window .skip).len ∧ 5 + (window .skip).bridgedCount < (window .skip).len ∧
       ¬ (window .skip).cfg.minCoverage * (window .skip).len ≤ 5 * 100 ∧
       (window .skip).cfg.minCoverage * (window .skip).len ≤ 2304 * 100 ∧
       (p.framer.setBank .second (.out (BankSums.begin PointCfg.init 2560 [1]))).bank
         (otherBank (window .skip).bank) ≠ .free) := by decide +kernel

/-- A SENDING channel 0 under a configuration on busy ports, with records queued, frames in port A's REPORT queue and a wait
list. -/
def sendingState (ch : Channel) (records frames : Nat) (list : List (Fin 4)) : State :=
  let s := withChannel ch (busy State.reset)
  let d := (s.dlv.modPort .a fun q => { q with
    reportQ := List.replicate frames { dest := 0, source := 0, channel := 0, seq := 0, records := [] } }).setWait .a list
  { s with dlv := { d with recq := { RecordQueue.init with records := List.replicate records (record 1) } } }

/-- A burst channel, a channel with a count and one with a backlog. -/
def burst : Channel := { sending with cfg := { sending.cfg with burst := true } }
def counted : Channel := { sending with cfg := { sending.cfg with count := 1 }, remaining := 1 }
def behind : Channel := { sending with backlog := 2 }

/-- Each case of a frame placed: DONE, a backlog and a burst that find the port full, a burst that empties the queue. -/
theorem witness_frames_placed :
    (∀ s ∈ [sendingState counted 1 3 [], sendingState behind 2 3 [0], sendingState burst 12 3 [], sendingState burst 1 0 []],
      s.inReset = false ∧ (s.dlv.channel 0).st = .sending ∧ (s.dlv.port .a).up = true ∧ (s.dlv.port .a).tx.isSome = true ∧
        (s.dlv.wait .a = [] ∨ (s.dlv.wait .a).head? = some 0) ∧ (0 : Fin 4) ∉ (s.dlv.wait .a).drop 1 ∧
        s.dlv.recq.records ≠ [] ∧ wordsOf s.dlv.recq.records < s.device.watermark) ∧
      counted.cfg.count ≠ 0 ∧ counted.remaining ≤ (takeRecords 1 373 [record 1]).1.length ∧
      behind.cfg.count = 0 ∧ behind.cfg.burst = false ∧ 0 < behind.backlog ∧
      burst.cfg.count = 0 ∧ burst.cfg.burst = true ∧ (takeRecords 11 373 (List.replicate 12 (record 1))).2 ≠ [] ∧
      (takeRecords 11 373 [record 1]).2 = [] := by decide +kernel

/-- A channel behind another on the wait list, and the head of it with its port full. -/
theorem witness_wait_list :
    (sendingState sending 1 0 [1]).dlv.wait .a ≠ [] ∧ (0 : Fin 4) ∉ (sendingState sending 1 0 [1]).dlv.wait .a ∧
      (sendingState sending 1 4 [0]).dlv.wait .a = 0 :: [] ∧
      4 ≤ ((sendingState sending 1 4 [0]).dlv.port .a).reportQ.length := by decide +kernel

/-- One entry ready on a busy port: its frame is built, and nothing more is offered. -/
theorem witness_one_offer :
    (let s := busy State.reset
     let d := s.dlv.setAlert 7 (readyEntry 7 false (some 9))
     bestReady 1 .a d = some 7 ∧ (d.port .a).up = true ∧ (d.port .a).alertQ.length < 8 ∧
       bestReady 1 .a (offerOne s.env .a d).1 = none ∧ s.device.floor = 1) := by decide +kernel

/-- An entry IDLE, and one whose frame waits; every entry masked and no channel triggered by source 7. -/
theorem witness_recording :
    (State.reset.dlv.alert 7).queuedOn = none ∧
      ((State.reset.dlv.setAlert 7 { AlertEntry.init 7 with queuedOn := some .a }).alert 7).queuedOn = some .a ∧
      (∀ c : Fin 4, (State.reset.dlv.channel c).cfg.source ≠ 7) ∧ ∀ m : Fin 20, (State.reset.dlv.alert m).cfg.masked = true := by
  decide +kernel

/-- Entries of the compared lengths, whole writes of a point and a channel, and a space that is none. -/
theorem witness_more_writes :
    (encodePointCfg PointCfg.init).length = 28 ∧ (encodeDeviceCfg (Device.init 0)).length = 20 ∧
      checkWrite ready .point 23 1 (encodePointCfg PointCfg.init) = none ∧
      checkWrite ready .push 3 1 (encodePushCfg Channel.init.cfg) = none ∧ spaceOf (0x0B : Byte).toNat = none := by
  decide +kernel

/-- The part with the metrology lock. -/
def locked (s : State) : State := { s with device := { s.device with metrologyLock := true } }

/-- A load of one entry of a space. -/
def loadOf (sp : Space) (staged : List Byte) : Load := { load 0x0010 staged with space := sp }

/-- Each failure of the staged entries: a protected gain, a length, a value, a harmonic set in use. -/
theorem witness_staged_checks :
    changesProtected (locked ready) .point 0 (encodePointCfg { PointCfg.init with hset := 1 }) = true ∧
      (loadOf .slot (pad 7)).staged.length ≠ 1 * writeSize .slot ∧
      decodeEntry false .slot (entryBytes .slot (pad 8) 0) = none ∧
      (encodeHset [1]).length = 1 * writeSize .hset ∧ (decodeEntry false .hset (entryBytes .hset (encodeHset [1]) 0)).isSome = true ∧
      hsetNamed (ready.setPoint 2 (collecting .skip)) 0 = true := by decide +kernel

/-- Each refusal of a write: no entry and one too many, a space read only, the lock, an open load, a harmonic set in use. -/
theorem witness_refused_writes :
    ¬ 1 ≤ 0 ∧ ¬ 31 + 2 ≤ spaceEntries .slot ∧ 0 + 1 ≤ spaceEntries .counters ∧ 31 + 1 ≤ spaceEntries .slot ∧
      (locked ready).device.metrologyLock = true ∧ ready.device.metrologyLock = false ∧
      changesProtected (locked ready) .hset 7 (encodeHset [1]) = true ∧
      (withLoad (load 0x0010 []) ready).agent.load = some (load 0x0010 []) ∧ (load 0x0010 []).space = .slot ∧
      ready.agent.load = none ∧ hsetNamed (ready.setPoint 2 (collecting .skip)) 0 = true ∧
      hsetNamed (ready.setPoint 2 (collecting .skip)) 1 = false ∧ decodeEntry false .slot (entryBytes .slot (pad 8) 0) = none := by
  decide +kernel

/-- The part with the finish of point 3 due and its completion at the front. -/
def dueFinishing : State := { finishing false with pending := [.finishComplete] }

theorem witness_step_of_due_finish : ∃ t, step dueFinishing = .next t := ⟨_, rfl⟩

theorem witness_finish_queue_sound : PointsSound dueFinishing ∧ FinishQueueSound dueFinishing := by
  have h3 : dueFinishing.point 3 =
      { Point.init with framer := { Framer.init with bank2 := .out (BankSums.begin PointCfg.init 2560 [1]) } } := by
    decide +kernel
  have hp : ∀ i : Fin 24, i ≠ 3 → dueFinishing.point i = Point.init := by decide +kernel
  have hq : dueFinishing.finisher.queue = [entry] := rfl
  have hi : ∀ i : Fin 24, (dueFinishing.point i).Sound := fun i => by
    by_cases h : i = 3
    · rw [h, h3]; exact ⟨by decide, by decide, fun c h => nomatch h⟩
    · rw [hp i h]; exact ⟨by decide, by decide, fun c h => nomatch h⟩
  refine ⟨hi, by decide +kernel, by decide +kernel, fun i ix => ?_, by decide +kernel⟩
  rw [hq]
  by_cases h : i = 3
  · subst h; rw [h3]; cases ix <;> simp [Framer.bank, Framer.init, Point.init, entry, finishEntry]
  · rw [hp i h]
    have h' : (3 : Fin 24) ≠ i := fun e => h e.symm
    cases ix <;> simp [Framer.bank, Framer.init, Point.init, entry, finishEntry, h']

theorem witness_pairing_sound : PairingSound lawful := by
  have hp : ∀ i : Fin 24, lawful.point i = Point.init := by decide +kernel
  refine ⟨by decide +kernel, fun i => ?_⟩
  rw [hp i]
  exact ⟨.inl rfl, ⟨by decide, by decide, fun y h => nomatch h⟩, ⟨by decide, by decide, fun y h => nomatch h⟩,
    fun h => absurd h (by decide), fun h => absurd h (by decide)⟩

/-! ## Witnesses of the wider clauses -/

/-- An UP port with one ALERT frame of the EDGE entry 7 and one of the LEVEL entry 5 waiting, and a request at the agent. -/
def alerting : State :=
  let d := (busy State.reset).dlv.modPort .a fun q =>
    { q with alertQ := [buildAlert State.reset.env 7 (readyEntry 7 false (some 9)), buildAlert State.reset.env 5 (readyEntry 5 true none)] }
  { crowded with dlv := (d.setAlert 7 { readyEntry 7 false (some 9) with queuedOn := some .a }) }

theorem witness_link_down_with_frames :
    (alerting.dlv.port .a).up = true ∧ alerting.agent.queue ≠ [] ∧
      (alerting.dlv.port .a).alertQ.map (fun f => f.number) = [7, 5] ∧ isLevel 7 = false ∧ isLevel 5 = true := by decide +kernel

/-- R163, 2: the EDGE entry is pending again, IDLE, and counted restored. -/
theorem test_link_down_restores :
    (match exec (.linkDown .a false) alerting with
      | .next t => ((t.dlv.alert 7).pending, (t.dlv.alert 7).count, (t.dlv.alert 7).queuedOn, (t.dlv.alert 7).restored)
      | _ => (none, 0, none, 0)) = (some 9, 255, none, 1) := by decide +kernel

/-- A REQUEST for a node that is neither the part's nor the broadcast one. -/
theorem witness_other_nodes_request :
    ReadsDevice 0x77 ∧ (0x77 : Node) ≠ (up .a State.reset).device.node ∧ (0x77 : Node) ≠ Config.broadcast := by decide +kernel

/-- A slot that enters LOCKED after a loss, and one whose adoption ends the loss. -/
theorem witness_slot_reports :
    (let x := ({ slotIn .acquiring 7 with lostSeen := true } : Slot).take 0 (samplePayload 10)
     x.entered = true ∧ x.reacquired = true) ∧ ((slotIn .lost 0).take 0 (samplePayload 10)).lostChanged = true := by decide +kernel

/-- A framer that waits for the last of its two sources. -/
theorem witness_entered_source :
    (let p := { sourced .waiting none with vLocked := false }
     p.cfg.enabled = true ∧ p.framer.st = .waiting ∧ (p.vLocked || decide (p.cfg.vSlot = 0)) = true ∧
       (p.iLocked || decide (p.cfg.iSlot = 0)) = true ∧ Point.init.cfg.enabled = false) := by decide +kernel

/-- A window at position 193 whose VA was -1 at 192: 1 there is a crossing at 192.5, in 1/256 of a position 49,280. With P
65,536 it is accepted 49,152 beyond the last one and not 49,151 beyond. -/
def crossingAfter (last : Option Nat) : Window :=
  { window .skip with
    lastReal := some 192, lastVals := some { Seven.const 0 with va := -1 }, firstCross := last, lastCross := last, crossings := 1 }

theorem test_crossings :
    ((crossingAfter none).examine 65536 193 1).lastCross = some 49280 ∧
      ((crossingAfter (some 128)).examine 65536 193 1).lastCross = some 49280 ∧
      ((crossingAfter (some 129)).examine 65536 193 1).lastCross = some 129 ∧
      ((crossingAfter none).examine 65536 194 1).lastCross = none ∧ 128 + 3 * 65536 / 4 ≤ 192 * 256 + 128 ∧
      (128 : Int) * (1 - -1) ≤ 256 * - -1 ∧ 256 * - -1 < ((128 : Int) + 1) * (1 - -1) := by decide +kernel

/-- R79, 2: 16 cycles of 320 positions are limited with the mark; 10 cycles are not. -/
theorem test_clamped_length :
    (let w : Window := { tracked 81920 with cfg := { PointCfg.init with cycles := 16 } }
     ((Tracker.init.evaluate w).nextLen, (Tracker.init.evaluate w).clampedMark)) = (4096, true) ∧
      ((Tracker.init.evaluate (tracked 81920)).nextLen, (Tracker.init.evaluate (tracked 81920)).clampedMark) = (3200, false) := by
  decide +kernel

/-- Frames wait for the end of a transmission: one to forward, and a reply. -/
theorem witness_frames_wait :
    (∀ pass ∈ [[[1, 2]], []],
      (let q := { waiting pass 1 0 with tx := some (.pass []) }
       q.tx.isSome = true ∧ q.up = true ∧ (q.pass ≠ [] ∨ q.replyQ ≠ []))) := by decide +kernel

/-- Point 3 collects while its finish is under way, or waits: a disable abandons the one and removes the other (R95). -/
def toDisable (underWay : Bool) : State :=
  let s := if underWay then finishing false else idleFinisher
  s.setPoint 3 { s.point 3 with ivl := openPoint.ivl, framer := { (s.point 3).framer with st := .collecting } }

theorem witness_enable_and_disable :
    (State.reset.point 3).framer.st = .disabled ∧ ((toDisable true).point 3).framer.st ≠ .disabled ∧
      PointCfg.init.enabled = false ∧ (toDisable true).finisher.queue = entry :: [] ∧ entry.point = 3 ∧
      (toDisable true).finisher.active.isSome = true ∧ (toDisable false).finisher.active = none ∧
      (toDisable true).finisher.queue.all (fun x => decide (x = entry)) = true ∧
      ((toDisable true).point 3).framer.bank .second = .out (BankSums.begin PointCfg.init 2560 [1]) := by decide +kernel

theorem test_disable :
    (let t := (toDisable true).writePoint 3 PointCfg.init
     (t.finisher.active.map fun a => a.abandoned) = some true ∧ t.finisher.queue = [entry] ∧
       (t.point 3).framer.bank .second ≠ .free ∧ t.dlv.recq.records.map (fun r => r.flags.reconfigured) = [true]) ∧
    (let t := (toDisable false).writePoint 3 PointCfg.init
     t.finisher.queue = [] ∧ (t.point 3).framer.bank .second = .free) := by decide +kernel

/-- An EMPTY interval; the length and the change mark as causes; the index of the last window alone as none. -/
theorem witness_interval_causes :
    Point.init.ivl.fields = none ∧ (60 : Nat) ≠ (openFields 0 900 (result 0 0 0)).openLen ∧
      ({ (result 0 0 0).flags with firstAfterChange := true } : WindowFlags).firstAfterChange = true ∧
      (result 0 0 0).flags.firstAfterChange = false ∧ (openFields 0 900 (result 0 0 0)).lastNo = 0 := by decide +kernel

/-- R163, 1: two rises after the build of a LEVEL entry of count 254 make 255; R158: the same of two occurrences. -/
theorem test_restored_counts :
    (let e := { readyEntry 5 true none with count := 254 }
     let reports : List LevelReport := [⟨5, false, 1⟩, ⟨5, true, 2⟩, ⟨5, false, 3⟩, ⟨5, true, 4⟩]
     let x := (reports.foldl (fun x r => x.level r) (e.afterBuild 5 .a)).restore (buildAlert State.reset.env 5 e)
     risesAmong true reports = 2 ∧ x.count = 255 ∧ x.detail = 4 ∧ e.ready 1 5 = true) ∧
    (let e := { readyEntry 7 false (some 9) with count := 254 }
     ([1, 2].foldl (fun (x : AlertEntry) d => x.occur d) (e.afterBuild 7 .a)).count = 255) := by decide +kernel

/-- The bounds of what a READ lays out: four managers, sixteen orders in a set and in a result. -/
theorem witness_read_bounds :
    (managed [1, 2, 3, 4] State.reset).device.managers.length ≤ 4 ∧ State.reset.finisher.hsets[(0 : Fin 8)].length ≤ 16 ∧
      (List.replicate 16 (orderOne 0 0)).length ≤ 16 ∧
      ((State.reset.setPoint 2 { Point.init with result := some (result 0 0 0) }).point 2).result = some (result 0 0 0) := by
  decide +kernel

/-- A head the agent may take, with seven replies queued, and one that must wait, with eight. -/
theorem witness_served_head :
    canTake ready (madeRequest ready hd .read 0x01 0 1 []) = true ∧ canTake crowded (madeRequest crowded hd .read 0x01 0 1 []) = false ∧
      crowded.agent.queue.head? = some (madeRequest (busy State.reset) hd .read 0x01 0 1 []) := by decide +kernel

end Sys2Proof.Tests
end

section
/-! SUPPORT. What one task of the cascade can make of a port, of the Record Queue, of a wait list and of an alert entry,
said once, and what a whole cascade therefore keeps. -/

namespace Sys2Proof.Machine

theorem otherPort_ne (p : Port) : otherPort p ≠ p := by cases p <;> decide

/-- What holds of both ports holds of every port. -/
theorem Port.forall_of {P : Port → Prop} (ha : P .a) (hb : P .b) (p : Port) : P p := by cases p <;> assumption

section Access

variable (d : Delivery)

@[simp] theorem Delivery.modPort_port_same (p : Port) (f : PortState → PortState) : (d.modPort p f).port p = f (d.port p) := by
  cases p <;> rfl

theorem Delivery.modPort_port_other (p o : Port) (f : PortState → PortState) (h : o ≠ p) :
    (d.modPort p f).port o = d.port o := Delivery.setPort_port_other d p o _ h

@[simp] theorem Delivery.modPort_alert (p : Port) (f : PortState → PortState) (n : Fin 20) :
    (d.modPort p f).alert n = d.alert n := by cases p <;> rfl

@[simp] theorem Delivery.modPort_wait (p o : Port) (f : PortState → PortState) : (d.modPort p f).wait o = d.wait o :=
  Delivery.setPort_wait d _ p o

@[simp] theorem Delivery.setAlert_wait (n : Fin 20) (e : AlertEntry) (o : Port) : (d.setAlert n e).wait o = d.wait o := by
  cases o <;> rfl

@[simp] theorem Delivery.setChannel_wait (c : Fin 4) (x : Channel) (o : Port) : (d.setChannel c x).wait o = d.wait o := by
  cases o <;> rfl

@[simp] theorem Delivery.setWait_alert (p : Port) (w : List (Fin 4)) (n : Fin 20) : (d.setWait p w).alert n = d.alert n := by
  cases p <;> rfl

end Access

/-! ## Ports -/

/-- What one task of the cascade can make of a port: the merged count of a queued ALERT frame (R158), a frame placed in the
ALERT or the REPORT queue (R10, R142), or one grant (R12, R13). -/
inductive PortMove (initial : PerClass Nat) (q : PortState) : PortState → Prop
  | same : PortMove initial q q
  | merged (n : Fin 20) (count : Nat) : PortMove initial q { q with alertQ := mergeCount n count q.alertQ }
  | offered (f : AlertFrame) (up : q.up = true) (room : q.alertQ.length < Config.alertRoom) :
      PortMove initial q { q with alertQ := insertAlert f q.alertQ }
  | reported (f : RecordFrame) (up : q.up = true) (room : q.reportQ.length < Config.reportRoom) :
      PortMove initial q { q with reportQ := q.reportQ ++ [f] }
  | passGranted (f : List Byte) (rest : List (List Byte)) (free : q.free = true) (head : q.pass = f :: rest) :
      PortMove initial q
        { q with pass := rest, tx := some (.pass f), passCount := if q.localWaiting then q.passCount + 1 else 0 }
  | alertGranted (f : AlertFrame) (rest : List AlertFrame) (free : q.free = true) (head : q.alertQ = f :: rest) :
      PortMove initial q { afterLocalGrant initial q .alert with alertQ := rest, tx := some (.alert f) }
  | replyGranted (f : ReplyFrame) (rest : List ReplyFrame) (free : q.free = true) (head : q.replyQ = f :: rest) :
      PortMove initial q { afterLocalGrant initial q .reply with replyQ := rest, tx := some (.reply f) }
  | reportGranted (f : RecordFrame) (rest : List RecordFrame) (free : q.free = true) (head : q.reportQ = f :: rest) :
      PortMove initial q { afterLocalGrant initial q .report with reportQ := rest, tx := some (.report f) }

/-- A move of one port, and the other port as it was. -/
theorem PortMove.setPort {initial : PerClass Nat} {d : Delivery} {p : Port} {q : PortState}
    (h : PortMove initial (d.port p) q) (o : Port) : PortMove initial (d.port o) ((d.setPort p q).port o) := by
  by_cases e : o = p
  · subst e; simpa using h
  · rw [Delivery.setPort_port_other d p o q e]; exact .same

theorem recordEdge_portMove (v : PerClass Nat) (n : Fin 20) (detail : BitVec 32) (d : Delivery) (o : Port) :
    PortMove v (d.port o) ((recordEdge n detail d).1.port o) := by
  rw [recordEdge]
  split
  · rw [Delivery.modPort, ← Delivery.setAlert_port d n ((d.alert n).occur detail) o]
    exact (PortMove.merged n _).setPort o
  · rw [Delivery.setAlert_port]; exact .same

/-- The reports of LEVEL conditions change entries alone. -/
theorem foldl_setAlert_eq {α : Type} (n : α → Fin 20) (f : Delivery → α → AlertEntry) (l : List α) (d : Delivery) :
    l.foldl (fun d a => d.setAlert (n a) (f d a)) d =
      { d with alerts := (l.foldl (fun d a => d.setAlert (n a) (f d a)) d).alerts } := by
  induction l generalizing d with
  | nil => rfl
  | cons a l ih => rw [List.foldl_cons, ih]; rfl

theorem recordLevels_eq (reports : List LevelReport) (d : Delivery) :
    (recordLevels reports d).1 = { d with alerts := (recordLevels reports d).1.alerts } :=
  foldl_setAlert_eq (fun r : LevelReport => r.number) (fun d r => (d.alert r.number).level r) reports d

theorem grantLocal_portMove (env : Env) (p : Port) (win : EgressClass) (d : Delivery) (hf : (d.port p).free = true)
    (o : Port) : PortMove env.priority (d.port o) ((grantLocal env p win d).1.port o) := by
  cases win with
  | alert =>
    simp only [grantLocal]
    split
    · exact .same
    · rename_i f rest hq
      rw [Delivery.setAlert_port]
      exact (PortMove.alertGranted f rest hf hq).setPort o
  | reply =>
    simp only [grantLocal]
    split
    · exact .same
    · rename_i f rest hq
      exact (PortMove.replyGranted f rest hf hq).setPort o
  | report =>
    simp only [grantLocal]
    split
    · exact .same
    · rename_i f rest hq
      exact (PortMove.reportGranted f rest hf hq).setPort o

theorem grant_portMove (env : Env) (p : Port) (d : Delivery) (o : Port) :
    PortMove env.priority (d.port o) ((grant env p d).1.port o) := by
  cases hf : (d.port p).free with
  | false => rw [grant_busy env p d hf]; exact .same
  | true =>
    simp only [grant, hf, Bool.not_true, Bool.false_eq_true, if_false]
    split
    · split
      · exact .same
      · rename_i f rest hq
        exact (PortMove.passGranted f rest hf hq).setPort o
    · split
      · exact .same
      · exact grantLocal_portMove env p _ d hf o

theorem offerOne_portMove (env : Env) (p : Port) (d : Delivery) (o : Port) :
    PortMove env.priority (d.port o) ((offerOne env p d).1.port o) := by
  rw [offerOne]
  split
  · exact .same
  · dsimp only
    split
    · rename_i h
      simp only [Bool.and_eq_true, decide_eq_true_eq] at h
      rw [Delivery.setAlert_port]
      exact (PortMove.offered _ h.1 h.2).setPort o
    · exact .same

theorem takeTrigger_eq (c : Fin 4) (d : Delivery) :
    (takeTrigger c d).1 = { d with channels := (takeTrigger c d).1.channels } := by
  rw [takeTrigger]
  split
  · rfl
  · split
    · rfl
    · split <;> rfl
  · rfl
  · rfl

theorem continueSend_eq (c : Fin 4) (k : Nat) (d : Delivery) :
    (continueSend c k d).1 = { d with channels := (continueSend c k d).1.channels } := by
  rw [continueSend]
  generalize (if (d.channel c).cfg.count ≠ 0 then (d.channel c).remaining - k else (d.channel c).remaining) = left
  split
  · rfl
  · split
    · split <;> rfl
    · split <;> rfl

@[simp] theorem joinWait_port (c : Fin 4) (p : Port) (d : Delivery) (o : Port) : (joinWait c p d).port o = d.port o := by
  rw [joinWait]
  split
  · rfl
  · rw [Delivery.setWait_port]

theorem attemptSend_portMove (env : Env) (c : Fin 4) (head : Bool) (d : Delivery) (o : Port) :
    PortMove env.priority (d.port o) ((attemptSend env c head d).1.port o) := by
  simp only [attemptSend]
  split
  · exact .same
  · split
    · rename_i h
      simp only [Bool.and_eq_true, decide_eq_true_eq] at h
      split
      · rw [Delivery.setChannel_port]; exact .same
      · exact PortMove.setPort (d := ({ d with recq := _ } : Delivery).setChannel c _)
          (by rw [Delivery.setChannel_port]; exact PortMove.reported _ h.1.1 h.2) o
    · rw [joinWait_port]; exact .same

theorem serveWaitList_port (p : Port) (d : Delivery) (o : Port) : (serveWaitList p d).1.port o = d.port o := by
  rw [serveWaitList]
  split
  · rfl
  · split
    · rw [Delivery.setWait_port]
    · rfl

/-- Every task makes one of the moves of each port. -/
theorem perform_portMove (env : Env) (t : Task) (d : Delivery) (o : Port) :
    PortMove env.priority (d.port o) ((perform env t d).1.port o) := by
  cases t with
  | edge n detail => exact recordEdge_portMove _ n detail d o
  | levels reports => rw [perform, recordLevels_eq]; cases o <;> exact .same
  | queueHigh => exact .same
  | trigger c => rw [perform, takeTrigger_eq]; cases o <;> exact .same
  | attempt c head => exact attemptSend_portMove env c head d o
  | sent c k => rw [perform, continueSend_eq]; cases o <;> exact .same
  | waitList p => rw [perform, serveWaitList_port]; exact .same
  | offers p => exact offerOne_portMove env p d o
  | grant p => exact grant_portMove env p d o
  | freed p => exact .same

/-- What every move of a port keeps, a whole cascade keeps of it. -/
theorem settle_port_keeps (P : PortState → Prop) (env : Env) (o : Port)
    (hmove : ∀ q r, PortMove env.priority q r → P q → P r) (n : Nat) (ts : List Task) (d : Delivery) (hp : P (d.port o)) :
    P ((settle env n ts d).port o) :=
  settle_keeps env (fun d => P (d.port o)) (fun _ => True)
    (fun t d _ h => ⟨hmove _ _ (perform_portMove env t d o) h, fun _ _ => trivial⟩) n ts d (fun _ _ => trivial) hp

theorem run_port_keeps (P : PortState → Prop) (s : State) (ts : List Task) (o : Port)
    (hmove : ∀ q r, PortMove s.device.priority q r → P q → P r) (hp : P (s.dlv.port o)) : P ((s.run ts).dlv.port o) :=
  settle_port_keeps P s.env o hmove cascadeBound ts s.dlv hp

/-- No move changes the link, the receive buffer or the counters. -/
theorem PortMove.frame {v : PerClass Nat} {q r : PortState} (h : PortMove v q r) :
    r.up = q.up ∧ r.rx = q.rx ∧ r.ctr = q.ctr := by cases h <;> exact ⟨rfl, rfl, rfl⟩

@[simp] theorem run_up (s : State) (ts : List Task) (o : Port) : ((s.run ts).dlv.port o).up = (s.dlv.port o).up :=
  run_port_keeps (fun q => q.up = (s.dlv.port o).up) s ts o (fun _ _ m h => m.frame.1.trans h) rfl

@[simp] theorem run_ctr (s : State) (ts : List Task) (o : Port) : ((s.run ts).dlv.port o).ctr = (s.dlv.port o).ctr :=
  run_port_keeps (fun q => q.ctr = (s.dlv.port o).ctr) s ts o (fun _ _ m h => m.frame.2.2.trans h) rfl

/-- Without a free transmitter nothing is granted: a move changes the ALERT queue, or lengthens the REPORT queue. -/
theorem PortMove.of_busy {v : PerClass Nat} {q r : PortState} (h : PortMove v q r) (hb : q.free = false) :
    r = { q with alertQ := r.alertQ, reportQ := r.reportQ } ∧ q.reportQ <+: r.reportQ ∧ q.alertQ.length ≤ r.alertQ.length := by
  cases h with
  | same => exact ⟨rfl, List.prefix_rfl, le_rfl⟩
  | merged n count => exact ⟨rfl, List.prefix_rfl, by simp [mergeCount]⟩
  | offered f up room => exact ⟨rfl, List.prefix_rfl, by rw [insertAlert_length]; omega⟩
  | reported f up room => exact ⟨rfl, List.prefix_append _ _, le_rfl⟩
  | passGranted f rest free head => simp [hb] at free
  | alertGranted f rest free head => simp [hb] at free
  | replyGranted f rest free head => simp [hb] at free
  | reportGranted f rest free head => simp [hb] at free

/-- A port without a free transmitter keeps, through a whole cascade, everything but the two local queues that others fill. -/
theorem settle_busy_port (env : Env) (n : Nat) (ts : List Task) (d : Delivery) (o : Port) (hb : (d.port o).free = false) :
    (settle env n ts d).port o =
        { d.port o with alertQ := ((settle env n ts d).port o).alertQ, reportQ := ((settle env n ts d).port o).reportQ } ∧
      (d.port o).reportQ <+: ((settle env n ts d).port o).reportQ ∧
        (d.port o).alertQ.length ≤ ((settle env n ts d).port o).alertQ.length := by
  refine settle_port_keeps (fun r => r = { d.port o with alertQ := r.alertQ, reportQ := r.reportQ } ∧
    (d.port o).reportQ <+: r.reportQ ∧ (d.port o).alertQ.length ≤ r.alertQ.length) env o ?_ n ts d
    ⟨rfl, List.prefix_rfl, le_rfl⟩
  intro q r m hq
  obtain ⟨heq, hrep, hal⟩ := hq
  have hfree : q.free = false := by rw [heq]; exact hb
  obtain ⟨heq', hrep', hal'⟩ := m.of_busy hfree
  refine ⟨?_, hrep.trans hrep', hal.trans hal'⟩
  rw [heq', heq]

theorem run_busy_port (s : State) (ts : List Task) (o : Port) (hb : (s.dlv.port o).free = false) :
    (s.run ts).dlv.port o =
        { s.dlv.port o with alertQ := ((s.run ts).dlv.port o).alertQ, reportQ := ((s.run ts).dlv.port o).reportQ } ∧
      (s.dlv.port o).reportQ <+: ((s.run ts).dlv.port o).reportQ ∧
        (s.dlv.port o).alertQ.length ≤ ((s.run ts).dlv.port o).alertQ.length :=
  settle_busy_port s.env cascadeBound ts s.dlv o hb

/-- A DOWN port without a queued ALERT frame stays exactly as it is. -/
theorem PortMove.of_down {v : PerClass Nat} {q r : PortState} (h : PortMove v q r) (hu : q.up = false) (ha : q.alertQ = []) :
    r = q := by
  have hf := not_free_of_down q hu
  cases h with
  | same => rfl
  | merged n count => rw [ha]; simp only [mergeCount, List.map_nil]; rw [← ha]
  | offered f up room => simp [hu] at up
  | reported f up room => simp [hu] at up
  | passGranted f rest free head => simp [hf] at free
  | alertGranted f rest free head => simp [hf] at free
  | replyGranted f rest free head => simp [hf] at free
  | reportGranted f rest free head => simp [hf] at free

theorem run_down_port (s : State) (ts : List Task) (o : Port) (hu : (s.dlv.port o).up = false) (ha : (s.dlv.port o).alertQ = []) :
    (s.run ts).dlv.port o = s.dlv.port o :=
  run_port_keeps (fun q => q = s.dlv.port o) s ts o
    (fun _ _ m h => by subst h; exact m.of_down hu ha) rfl

/-- A move keeps a port within its capacities (R9). -/
theorem PortMove.within {v : PerClass Nat} {q r : PortState} (h : PortMove v q r) (hq : PortWithinCapacity q) :
    PortWithinCapacity r := by
  obtain ⟨hpass, hbytes, hal, hrep, hrec⟩ := hq
  cases h with
  | same => exact ⟨hpass, hbytes, hal, hrep, hrec⟩
  | merged n count => exact ⟨hpass, hbytes, by simpa [mergeCount] using hal, hrep, hrec⟩
  | offered f up room => exact ⟨hpass, hbytes, by rw [insertAlert_length]; omega, hrep, hrec⟩
  | reported f up room =>
    refine ⟨hpass, hbytes, hal, hrep, ?_⟩
    simp only [List.length_append, List.length_singleton]; omega
  | passGranted f rest free head =>
    rw [head, passBytes, List.map_cons, List.sum_cons] at hbytes
    rw [head, List.length_cons] at hpass
    exact ⟨by dsimp only; omega, by simp only [passBytes]; omega, hal, hrep, hrec⟩
  | alertGranted f rest free head =>
    rw [head, List.length_cons] at hal
    exact ⟨hpass, hbytes, by dsimp only; omega, hrep, hrec⟩
  | replyGranted f rest free head =>
    rw [head, List.length_cons] at hrep
    exact ⟨hpass, hbytes, hal, by dsimp only; omega, hrec⟩
  | reportGranted f rest free head =>
    rw [head, List.length_cons] at hrec
    exact ⟨hpass, hbytes, hal, hrep, by dsimp only; omega⟩

/-- A move keeps a DOWN port empty (R15, R16). -/
theorem PortMove.down_empty {v : PerClass Nat} {q r : PortState} (h : PortMove v q r) (hq : DownPortHoldsNothing v q) :
    DownPortHoldsNothing v r := by
  intro hr
  have hu : q.up = false := h.frame.1.symm.trans hr
  obtain ⟨h1, h2, h3, halert, h5⟩ := hq hu
  rw [h.of_down hu halert]
  exact ⟨h1, h2, h3, halert, h5⟩

/-- A move takes forwarded frames from the head of the buffer alone, and starts no other (R8). -/
theorem PortMove.pass_from_buffer {v : PerClass Nat} {q r : PortState} (h : PortMove v q r) :
    r.pass <:+ q.pass ∧ ∀ g, r.tx = some (.pass g) → q.tx = some (.pass g) ∨ g ∈ q.pass := by
  cases h with
  | passGranted f rest free head =>
    refine ⟨by rw [head]; exact List.suffix_cons _ _, ?_⟩
    intro g hg
    simp only [Option.some.injEq, TxFrame.pass.injEq] at hg
    exact .inr (by rw [head, hg]; exact List.mem_cons_self)
  | alertGranted f rest free head => exact ⟨List.suffix_rfl, fun g hg => by simp at hg⟩
  | replyGranted f rest free head => exact ⟨List.suffix_rfl, fun g hg => by simp at hg⟩
  | reportGranted f rest free head => exact ⟨List.suffix_rfl, fun g hg => by simp at hg⟩
  | same => exact ⟨List.suffix_rfl, fun g hg => .inl hg⟩
  | merged n count => exact ⟨List.suffix_rfl, fun g hg => .inl hg⟩
  | offered f up room => exact ⟨List.suffix_rfl, fun g hg => .inl hg⟩
  | reported f up room => exact ⟨List.suffix_rfl, fun g hg => .inl hg⟩

theorem run_pass_from_buffer (s : State) (ts : List Task) (o : Port) :
    ((s.run ts).dlv.port o).pass <:+ (s.dlv.port o).pass ∧
      ∀ g, ((s.run ts).dlv.port o).tx = some (.pass g) → (s.dlv.port o).tx = some (.pass g) ∨ g ∈ (s.dlv.port o).pass := by
  refine run_port_keeps (fun r => r.pass <:+ (s.dlv.port o).pass ∧
    ∀ g, r.tx = some (.pass g) → (s.dlv.port o).tx = some (.pass g) ∨ g ∈ (s.dlv.port o).pass) s ts o ?_
    ⟨List.suffix_rfl, fun g hg => .inl hg⟩
  intro q r m hq
  obtain ⟨hsuf, htx⟩ := m.pass_from_buffer
  refine ⟨hsuf.trans hq.1, fun g hg => ?_⟩
  rcases htx g hg with h | h
  · exact hq.2 g h
  · exact .inr (hq.1.subset h)

/-- The replies of a port leave only from the head of their queue. -/
theorem PortMove.replyQ_length_le {v : PerClass Nat} {q r : PortState} (h : PortMove v q r) :
    r.replyQ.length ≤ q.replyQ.length := by
  cases h with
  | replyGranted f rest free head => rw [head]; simp
  | _ => exact le_rfl

theorem run_replyQ_length_le (s : State) (ts : List Task) (o : Port) :
    ((s.run ts).dlv.port o).replyQ.length ≤ (s.dlv.port o).replyQ.length :=
  run_port_keeps (fun r => r.replyQ.length ≤ (s.dlv.port o).replyQ.length) s ts o
    (fun _ _ m h => m.replyQ_length_le.trans h) le_rfl

/-! ### Removals from an ALERT queue (R10) -/

/-- A removal touches the ALERT queue, and the pass-through counter when it leaves the three local queues empty. -/
theorem PortState.removeAlerts_eq (keep : AlertFrame → Bool) (q : PortState) :
    q.removeAlerts keep =
      { q with
        alertQ := q.alertQ.filter keep
        passCount :=
          if (q.alertQ.filter keep).length < q.alertQ.length ∧ q.alertQ.filter keep = [] ∧ q.replyQ = [] ∧ q.reportQ = []
          then 0 else q.passCount } := by
  rw [PortState.removeAlerts]
  by_cases h : (q.alertQ.filter keep).length < q.alertQ.length ∧ q.alertQ.filter keep = [] ∧ q.replyQ = [] ∧ q.reportQ = []
  · rw [if_pos h, if_pos]
    obtain ⟨hlt, ha, hr, hp⟩ := h
    simp only [PortState.localWaiting, ha, hr, hp, Bool.and_eq_true, decide_eq_true_eq]
    exact ⟨by rw [ha] at hlt; exact hlt, by decide⟩
  · rw [if_neg h, if_neg]
    intro hc
    simp only [PortState.localWaiting, Bool.and_eq_true, decide_eq_true_eq, Bool.not_not, List.isEmpty_iff] at hc
    exact h ⟨hc.1, hc.2.1.1, hc.2.1.2, hc.2.2⟩

theorem Delivery.clearAlerts_port (v : Nat) (d : Delivery) (p : Port) :
    (d.clearAlerts v).port p = (d.port p).removeAlerts fun f => !selected false v f.number (d.alert f.number) := by
  cases p <;> rfl

theorem Delivery.restarted_port (d : Delivery) (p : Port) : d.restarted.port p = (d.port p).removeAlerts fun _ => false := by
  cases p <;> rfl

/-! ## The Record Queue and the wait lists -/

theorem recordEdge_frame (n : Fin 20) (detail : BitVec 32) (d : Delivery) :
    (recordEdge n detail d).1.recq = d.recq ∧ (recordEdge n detail d).1.channels = d.channels ∧
      ∀ o, (recordEdge n detail d).1.wait o = d.wait o := by
  rw [recordEdge]
  split <;> simp

theorem offerOne_frame (env : Env) (p : Port) (d : Delivery) :
    (offerOne env p d).1.recq = d.recq ∧ (offerOne env p d).1.channels = d.channels ∧
      (∀ o, (offerOne env p d).1.wait o = d.wait o) ∧
        ∀ o, o ≠ p → (offerOne env p d).1.port o = d.port o := by
  rw [offerOne]
  split
  · simp
  · dsimp only
    split
    · simp +contextual
    · simp

theorem grantLocal_frame (env : Env) (p : Port) (win : EgressClass) (d : Delivery) :
    (grantLocal env p win d).1.recq = d.recq ∧ (grantLocal env p win d).1.channels = d.channels ∧
      (∀ o, (grantLocal env p win d).1.wait o = d.wait o) ∧
        ∀ o, o ≠ p → (grantLocal env p win d).1.port o = d.port o := by
  cases win <;> simp only [grantLocal] <;> split <;> simp +contextual

theorem grant_frame (env : Env) (p : Port) (d : Delivery) :
    (grant env p d).1.recq = d.recq ∧ (grant env p d).1.channels = d.channels ∧
      (∀ o, (grant env p d).1.wait o = d.wait o) ∧ ∀ o, o ≠ p → (grant env p d).1.port o = d.port o := by
  rw [grant]
  split
  · simp
  · split
    · split <;> simp +contextual
    · split
      · simp
      · exact grantLocal_frame env p _ d

theorem joinWait_recq (c : Fin 4) (p : Port) (d : Delivery) : (joinWait c p d).recq = d.recq := by
  rw [joinWait]
  split
  · rfl
  · exact Delivery.setWait_recq d p _

theorem takeRecords_suffix (limit words : Nat) (l : List IntervalRecord) : (takeRecords limit words l).2 <:+ l :=
  ⟨_, takeRecords_append limit words l⟩

theorem attemptSend_recq (env : Env) (c : Fin 4) (head : Bool) (d : Delivery) :
    (attemptSend env c head d).1.recq.records <:+ d.recq.records ∧
      (attemptSend env c head d).1.recq.appended = d.recq.appended := by
  simp only [attemptSend]
  split
  · exact ⟨List.suffix_rfl, rfl⟩
  · split
    · split
      · exact ⟨List.suffix_rfl, rfl⟩
      · rw [Delivery.setPort_recq]
        exact ⟨takeRecords_suffix _ _ _, rfl⟩
    · rw [joinWait_recq]
      exact ⟨List.suffix_rfl, rfl⟩

theorem serveWaitList_recq (p : Port) (d : Delivery) : (serveWaitList p d).1.recq = d.recq := by
  rw [serveWaitList]
  split
  · rfl
  · split
    · exact Delivery.setWait_recq d p _
    · rfl

/-- No task appends a record; a send attempt removes some from the head (R132, R142). -/
theorem perform_recq (env : Env) (t : Task) (d : Delivery) :
    (perform env t d).1.recq.records <:+ d.recq.records ∧ (perform env t d).1.recq.appended = d.recq.appended := by
  have same : ∀ x : Delivery, x.recq = d.recq → x.recq.records <:+ d.recq.records ∧ x.recq.appended = d.recq.appended :=
    fun x h => by rw [h]; exact ⟨List.suffix_rfl, rfl⟩
  cases t with
  | edge n detail => exact same _ (recordEdge_frame n detail d).1
  | levels reports => exact same _ (by rw [perform, recordLevels_eq])
  | queueHigh => exact same _ rfl
  | trigger c => exact same _ (by rw [perform, takeTrigger_eq])
  | attempt c head => exact attemptSend_recq env c head d
  | sent c k => exact same _ (by rw [perform, continueSend_eq])
  | waitList p => exact same _ (serveWaitList_recq p d)
  | offers p => exact same _ (offerOne_frame env p d).1
  | grant p => exact same _ (grant_frame env p d).1
  | freed p => exact same _ rfl

theorem run_recq (s : State) (ts : List Task) :
    (s.run ts).dlv.recq.records <:+ s.dlv.recq.records ∧ (s.run ts).dlv.recq.appended = s.dlv.recq.appended := by
  refine run_keeps (fun d => d.recq.records <:+ s.dlv.recq.records ∧ d.recq.appended = s.dlv.recq.appended) s ts ?_
    ⟨List.suffix_rfl, rfl⟩
  intro t d h
  obtain ⟨hrec, happ⟩ := perform_recq s.env t d
  exact ⟨hrec.trans h.1, happ.trans h.2⟩

theorem wordsOf_suffix {a b : List IntervalRecord} (h : a <:+ b) : wordsOf a ≤ wordsOf b := by
  obtain ⟨c, rfl⟩ := h
  rw [wordsOf_append]; omega

/-- The Record Queue holds no more words after a cascade than before it. -/
theorem run_words_le (s : State) (ts : List Task) : (s.run ts).dlv.recq.words ≤ s.dlv.recq.words :=
  wordsOf_suffix (run_recq s ts).1

/-- A channel that joins the wait list of one port leaves the other's as it is. -/
theorem joinWait_wait_nodup (c : Fin 4) (p o : Port) (d : Delivery) (h : (d.wait o).Nodup) :
    ((joinWait c p d).wait o).Nodup := by
  by_cases e : o = p
  · subst e; exact joinWait_nodup c o d h
  · rw [joinWait]
    split
    · exact h
    · rw [Delivery.setWait_wait_other d p o _ e]; exact h

theorem attemptSend_wait_nodup (env : Env) (c : Fin 4) (head : Bool) (d : Delivery) (o : Port) (h : (d.wait o).Nodup) :
    ((attemptSend env c head d).1.wait o).Nodup := by
  simp only [attemptSend]
  split
  · exact h
  · split
    · split
      · rw [Delivery.setChannel_wait]; exact h
      · rw [Delivery.setPort_wait, Delivery.setChannel_wait]
        cases o <;> exact h
    · exact joinWait_wait_nodup c _ o d h

theorem serveWaitList_wait_nodup (p : Port) (d : Delivery) (o : Port) (h : (d.wait o).Nodup) :
    ((serveWaitList p d).1.wait o).Nodup := by
  rw [serveWaitList]
  split
  · exact h
  · rename_i c rest hw
    split
    · by_cases e : o = p
      · subst e
        rw [hw] at h
        rw [Delivery.setWait_wait_same]
        exact h.of_cons
      · rw [Delivery.setWait_wait_other d p o _ e]; exact h
    · exact h

/-- Every task leaves a channel at most once on a wait list (R143). -/
theorem perform_wait_nodup (env : Env) (t : Task) (d : Delivery) (o : Port) (h : (d.wait o).Nodup) :
    ((perform env t d).1.wait o).Nodup := by
  cases t with
  | edge n detail => rw [perform, (recordEdge_frame n detail d).2.2 o]; exact h
  | levels reports => rw [perform, recordLevels_eq]; cases o <;> exact h
  | queueHigh => exact h
  | trigger c => rw [perform, takeTrigger_eq]; cases o <;> exact h
  | attempt c head => exact attemptSend_wait_nodup env c head d o h
  | sent c k => rw [perform, continueSend_eq]; cases o <;> exact h
  | waitList p => exact serveWaitList_wait_nodup p d o h
  | offers p => rw [perform, (offerOne_frame env p d).2.2.1 o]; exact h
  | grant p => rw [perform, (grant_frame env p d).2.2.1 o]; exact h
  | freed p => exact h

theorem run_wait_nodup (s : State) (ts : List Task) (o : Port) (h : (s.dlv.wait o).Nodup) : ((s.run ts).dlv.wait o).Nodup :=
  run_keeps (fun d => (d.wait o).Nodup) s ts (fun t d hd => perform_wait_nodup s.env t d o hd) h

end Sys2Proof.Machine
end

section
/-! SUPPORT. The effects a step is made of, as the laws of the delivery side, of the request queue and of the open load see
them: every command is a run of these effects. A law is then kept by every step when each single effect keeps it. -/

namespace Sys2Proof.Machine

/-! ## Effects of a service and of a block's event -/

/-- Nothing that the laws of ports, queues, wait lists and loads speak of has changed. -/
def SameDelivery (s t : State) : Prop :=
  t.dlv = s.dlv ∧ t.device.priority = s.device.priority ∧ t.agent.queue = s.agent.queue ∧ t.agent.load = s.agent.load

/-- How a load may stand after a step: opened with nothing staged on entries of a space that can be written, or the load of
before with bytes staged up to its expected total (R189 to R191). -/
def LoadFollows (old : Option Load) (l : Load) : Prop :=
  (1 ≤ l.count ∧ l.first + l.count ≤ spaceEntries l.space ∧ writeSize l.space ≠ 0 ∧ l.staged = []) ∨
    ∃ o, old = some o ∧ l.space = o.space ∧ l.first = o.first ∧ l.count = o.count ∧
      (l.staged = o.staged ∨ l.staged.length ≤ l.total)

/-- One effect of a service of the agent or of an event of the slots, points, Finisher and Alert Unit. -/
inductive Effect : State → State → Prop
  | beyond {s t : State} (h : SameDelivery s t) : Effect s t
  | run (s : State) (ts : List Task) : Effect s (s.run ts)
  | appended (s : State) (r : IntervalRecord) (room : recordWords r ≤ s.dlv.recq.freeWords) :
      Effect s { s with dlv := { s.dlv with recq := s.dlv.recq.append r } }
  | fetched (s : State) (limit words : Nat) (n : Counter) :
      Effect s { s with dlv := { s.dlv with recq :=
        { s.dlv.recq with records := (takeRecords limit words s.dlv.recq.records).2, fetched := n } } }
  | entries (s : State) (x : Vector AlertEntry 20) : Effect s { s with dlv := { s.dlv with alerts := x } }
  | alertsCleared (s : State) (v : Nat) : Effect s { s with dlv := s.dlv.clearAlerts v }
  | restarted (s : State) : Effect s { s with dlv := s.dlv.restarted }
  | channelWritten (s : State) (c : Fin 4) (x : Channel) : Effect s { s with dlv := (s.dlv.leaveWait c).setChannel c x }
  | priorities (s : State) (d : Device) : Effect s { s with device := d, dlv := s.dlv.setPriorities d.priority }
  | load (s : State) (x : Option Load) (h : ∀ l, x = some l → LoadFollows s.agent.load l) : Effect s (s.setLoad x)

/-- A run of effects. -/
abbrev Effects : State → State → Prop := Relation.ReflTransGen Effect

theorem Effects.one {s t : State} (h : Effect s t) : Effects s t := .single h

theorem Effects.same {s t : State} (h : SameDelivery s t := by exact ⟨rfl, rfl, rfl, rfl⟩) : Effects s t :=
  .single (.beyond h)

theorem Effects.run (s : State) (ts : List Task) : Effects s (s.run ts) := .one (.run s ts)

theorem Effects.raise (s : State) (n : Fin 20) (detail : Nat) : Effects s (s.raise n detail) := Effects.run s _

theorem Effects.setPoint (s : State) (i : Fin 24) (p : Point) : Effects s (s.setPoint i p) := Effects.same

theorem Effects.foldl {α : Type} (f : State → α → State) (h : ∀ s a, Effects s (f s a)) (l : List α) :
    ∀ s : State, Effects s (l.foldl f s) := by
  induction l with
  | nil => intro s; exact .refl
  | cons a l ih => intro s; exact (h s a).trans (ih _)

theorem Effects.ite {s t u : State} {c : Prop} [Decidable c] (ht : c → Effects s t) (hu : ¬ c → Effects s u) :
    Effects s (if c then t else u) := by
  split
  · exact ht ‹_›
  · exact hu ‹_›

/-- What each effect keeps, a run of effects keeps. -/
theorem Effects.keeps {P : State → Prop} (hstep : ∀ s t, Effect s t → P s → P t) {s t : State} (h : Effects s t) (hp : P s) :
    P t := by
  induction h with
  | refl => exact hp
  | tail _ he ih => exact hstep _ _ he ih

/-! ### Points, slots and the Finisher -/

theorem State.beginFinish_effects (s : State) : Effects s s.beginFinish := by
  rw [State.beginFinish_eq]; exact Effects.same

theorem State.appendFinish_effects (e : FinishEntry) (s : State) : Effects s (s.appendFinish e) := by
  rw [State.appendFinish]
  exact (Effects.same).trans (State.beginFinish_effects _)

theorem State.dropFinish_effects (i : Fin 24) (s : State) : Effects s (s.dropFinish i) := by
  rw [State.dropFinish]
  split
  · split
    · exact Effects.same
    · split <;> exact Effects.same
  · split <;> exact Effects.same
  · exact .refl

theorem State.pointEvent_effects (i : Fin 24) (s : State) (e : PointEvent) : Effects s (s.pointEvent i e) := by
  cases e with
  | overflow => exact Effects.raise _ _ _
  | discarded r => exact Effects.raise _ _ _
  | untracked b => exact Effects.run _ _
  | handOver e => exact State.appendFinish_effects _ s

theorem State.onPoint_effects (i : Fin 24) (f : PointCtx → Point → PointStep) (s : State) : Effects s (s.onPoint i f) :=
  (Effects.setPoint s i _).trans (Effects.foldl _ (State.pointEvent_effects i) _ _)

theorem State.onPoints_effects (f : PointCtx → Point → PointStep) (s : State) : Effects s (s.onPoints f) :=
  Effects.foldl _ (fun s i => State.onPoint_effects i f s) _ s

theorem State.slotReports_effects (k : Fin 32) (x : SlotStep) (s : State) : Effects s (s.slotReports k x) := by
  have pts : ∀ (c : Bool) (t : State) (f : PointCtx → Point → PointStep), Effects t (if c then t.onPoints f else t) :=
    fun c t f => Effects.ite (fun _ => State.onPoints_effects f t) fun _ => .refl
  have run : ∀ (c : Bool) (t : State) (ts : List Task), Effects t (if c then t.run ts else t) :=
    fun c t ts => Effects.ite (fun _ => Effects.run t ts) fun _ => .refl
  exact (((pts _ _ _).trans (run _ _ _)).trans (pts _ _ _)).trans (run _ _ _)

theorem State.applySlot_effects (k : Fin 32) (x : SlotStep) (s : State) : Effects s (s.applySlot k x) := by
  rw [State.applySlot]
  exact ((Effects.same (t := s.setSlot k x.slot)).trans (State.slotReports_effects k x _)).trans
    (Effects.foldl _ (fun s r => State.onPoints_effects (fun ctx => Point.offerSet ctx k r) s) _ _)

theorem State.onTickets_effects (f : Ticket → Ticket) (s : State) : Effects s (s.onTickets f) := Effects.same

theorem State.updateConditions_effects (s : State) : Effects s s.updateConditions := Effects.run s _

/-! ### Records -/

/-- A window's account appends only a record that has room (R121, R122). -/
theorem Point.account_room (i : Fin 24) (len room : Nat) (w : WindowResult) (p : Point) (r : IntervalRecord)
    (h : (p.account i len room w).appended = some r) : recordWords r ≤ room := by
  cases hf : p.ivl.fields with
  | none => rw [Point.account_opens i len room w p hf] at h; simp at h
  | some f =>
    cases hc : closeNeeded len (intervalNumber len w.start) w f with
    | false => rw [Point.account_joins i len room w p f hf hc] at h; simp at h
    | true =>
      rcases Nat.lt_or_ge room (28 + 5 * f.orders.length) with hr | hr
      · rw [Point.account_merges i len room w p f hf hc hr] at h; simp at h
      · rw [Point.account_closes i len room w p f hf hc hr, Option.some.injEq] at h
        rw [← h, recordWords_buildRecord]; exact hr

/-- So does the close of a disable or a point reset (R123, R124). -/
theorem Point.closeNow_room (i : Fin 24) (cut : Bool) (room : Nat) (p : Point) (r : IntervalRecord)
    (h : (p.closeNow i cut room).2 = some r) : recordWords r ≤ room := by
  rw [Point.closeNow] at h
  split at h
  · simp at h
  · dsimp only at h
    split at h
    · rename_i hr
      simp only [Option.some.injEq] at h
      rw [← h]; exact hr
    · simp at h

theorem State.appendIf_effects (i : Fin 24) (o : Option IntervalRecord) (s : State)
    (h : ∀ r, o = some r → recordWords r ≤ s.dlv.recq.freeWords) : Effects s (s.appendIf i o) := by
  cases o with
  | none => exact .refl
  | some r => exact (Effects.one (.appended s r (h r rfl))).trans (Effects.run _ _)

theorem State.accountWindow_effects (i : Fin 24) (r : WindowResult) (s : State) : Effects s (s.accountWindow i r) := by
  have happ := (Effects.setPoint s i ((s.point i).account i s.device.intervalLen s.dlv.recq.freeWords r).point).trans
    (State.appendIf_effects i _ _ (Point.account_room i s.device.intervalLen s.dlv.recq.freeWords r (s.point i)))
  exact Effects.ite (fun _ => happ.trans (Effects.raise _ _ _)) fun _ => happ

theorem State.closeInterval_effects (i : Fin 24) (cut : Bool) (s : State) : Effects s (s.closeInterval i cut) :=
  (Effects.setPoint s i _).trans
    (State.appendIf_effects i _ _ (Point.closeNow_room i cut s.dlv.recq.freeWords (s.point i)))

theorem State.nextFinish_effects (s : State) : Effects s s.nextFinish :=
  (Effects.same).trans (State.beginFinish_effects _)

theorem State.completeFinish_effects (e : FinishEntry) (b : BankSums) (l : LimitProfile) (s : State) :
    Effects s (s.completeFinish e b l) :=
  (((((Effects.setPoint s _ _).trans (State.updateConditions_effects _)).trans (State.accountWindow_effects _ _ _)).trans
    (State.onTickets_effects _ _)).trans (Effects.setPoint _ _ _)).trans (State.nextFinish_effects _)

theorem State.endAbandoned_effects (e : FinishEntry) (s : State) : Effects s (s.endAbandoned e) :=
  (Effects.same).trans (State.nextFinish_effects _)

/-! ### Written entries (R176) -/

theorem State.writeSlot_effects (i : Nat) (c : SlotCfg) (s : State) : Effects s (s.writeSlot i c) := by
  rw [State.writeSlot]
  split
  · exact .refl
  · exact State.applySlot_effects _ _ s

theorem State.disablePoint_effects (k : Fin 24) (c : PointCfg) (s : State) : Effects s (s.disablePoint k c) :=
  (((State.onPoint_effects k _ s).trans (State.dropFinish_effects k _)).trans (State.closeInterval_effects k false _)).trans
    (State.updateConditions_effects _)

theorem State.writePoint_effects (i : Nat) (c : PointCfg) (s : State) : Effects s (s.writePoint i c) := by
  rw [State.writePoint]
  split
  · exact .refl
  · split
    case h_1 => exact State.onPoint_effects _ _ s
    case h_2 => exact State.onPoint_effects _ _ s
    case h_3 => exact State.onPoint_effects _ _ s
    case h_4 => exact State.onPoint_effects _ _ s
    case h_5 => exact State.onPoint_effects _ _ s
    case h_6 => exact State.disablePoint_effects _ _ s
    case h_7 => exact State.disablePoint_effects _ _ s
    case h_8 => exact State.disablePoint_effects _ _ s

theorem State.storeAlert_effects (i : Nat) (c : AlertCfg) (s : State) : Effects s (s.storeAlert i c) := by
  rw [State.storeAlert]
  split
  · exact .refl
  · exact Effects.one (.entries s _)

theorem State.writePush_effects (i : Nat) (c : PushCfg) (s : State) : Effects s (s.writePush i c) := by
  rw [State.writePush]
  split
  · exact .refl
  · exact Effects.one (.channelWritten s _ _)

theorem State.writeDevice_effects (d : Device) (s : State) : Effects s (s.writeDevice d) := by
  have stored : Effects s (if s.device.priority = d.priority then { s with device := d }
      else { s with device := d, dlv := s.dlv.setPriorities d.priority }) :=
    Effects.ite (fun e => Effects.same ⟨rfl, e.symm, rfl, rfl⟩) fun _ => Effects.one (.priorities s d)
  exact Effects.ite (fun _ => stored) fun _ => stored.trans (Effects.run _ _)

theorem State.writeEntry_effects (i : Nat) (e : Entry) (s : State) : Effects s (s.writeEntry i e) := by
  cases e with
  | window w => exact Effects.same
  | slot c => exact State.writeSlot_effects i c s
  | point c => exact State.writePoint_effects i c s
  | hset l => exact Effects.same
  | limit l => exact Effects.same
  | alert c => exact State.storeAlert_effects i c s
  | push c => exact State.writePush_effects i c s
  | device d => exact State.writeDevice_effects d s

theorem State.writeRun_effects (es : List Entry) : ∀ (i : Nat) (s : State), Effects s (s.writeRun i es) := by
  induction es with
  | nil => intro i s; exact .refl
  | cons e es ih => intro i s; exact (State.writeEntry_effects i e s).trans (ih _ _)

theorem State.applyWrite_effects (sp : Space) (first count : Nat) (data : List Byte) (s : State) :
    Effects s (s.applyWrite sp first count data) := by
  rw [State.applyWrite]
  split
  · exact .refl
  · exact (State.writeRun_effects _ first s).trans (Effects.ite (fun _ => Effects.run _ _) fun _ => .refl)

/-! ### Services (R171) -/

theorem serveRead_state (code first count : Nat) (s : State) : (serveRead code first count s).state = s := by
  rw [serveRead]
  split
  · rfl
  · split <;> rfl

theorem serveWrite_effects (code first count : Nat) (data : List Byte) (s : State) :
    Effects s (serveWrite code first count data s).state := by
  rw [serveWrite]
  split
  · exact .refl
  · split
    · exact .refl
    · exact State.applyWrite_effects _ _ _ _ s

theorem serveFetch_effects (p : Port) (count : Nat) (s : State) : Effects s (serveFetch p count s).state := by
  rw [serveFetch]
  split
  · exact .refl
  · exact (Effects.one (.fetched s _ _ _)).trans (Effects.run _ _)

theorem serveAck_effects (v : Nat) (s : State) : Effects s (serveAck v s).state := by
  rw [serveAck]
  split
  · exact .refl
  · exact (Effects.one (.entries s _)).trans (Effects.run _ _)

theorem serveClear_effects (v : Nat) (s : State) : Effects s (serveClear v s).state := by
  rw [serveClear]
  split
  · exact .refl
  · exact (Effects.one (.alertsCleared s v)).trans (Effects.run _ _)

theorem servePushStart_effects (i : Nat) (s : State) : Effects s (servePushStart i s).state := by
  rw [servePushStart]
  split
  · exact .refl
  · split
    · exact Effects.run s _
    · exact .refl

theorem State.resetPoint_effects (k : Fin 24) (s : State) : Effects s (s.resetPoint k) :=
  (((((State.closeInterval_effects k true s).trans (Effects.setPoint _ _ _)).trans (State.dropFinish_effects k _)).trans
    (State.onPoint_effects k _ _)).trans (State.updateConditions_effects _)).trans (State.onTickets_effects _ _)

theorem serveResetPoint_effects (i : Nat) (s : State) : Effects s (serveResetPoint i s).state := by
  rw [serveResetPoint]
  split
  · exact .refl
  · exact State.resetPoint_effects _ s

theorem State.restartAccounting_effects (s : State) : Effects s s.restartAccounting :=
  ((Effects.one (.restarted s)).trans Effects.same).trans (Effects.run _ _)

theorem serveLock_effects (s : State) : Effects s (serveLock s).state := by
  rw [serveLock]
  split
  · exact .refl
  · exact Effects.same

/-- A load closed, aborted or expired. -/
theorem Effects.noLoad (s : State) : Effects s (s.setLoad none) := Effects.one (.load s none fun _ h => by simp at h)

/-- A load whose last activity is now (R194). -/
theorem Effects.refreshed (s : State) (l : Load) (h : s.agent.load = some l) (now : Nat) :
    Effects s (s.setLoad (some { l with lastActivity := now })) := by
  refine Effects.one (.load s _ fun m hm => .inr ⟨l, h, ?_⟩)
  simp only [Option.some.injEq] at hm
  subst hm
  exact ⟨rfl, rfl, rfl, .inl rfl⟩

theorem serveLoadOpen_effects (source : Node) (code first count : Nat) (s : State) :
    Effects s (serveLoadOpen source code first count s).state := by
  rw [serveLoadOpen]
  split
  · exact .refl
  · rename_i sp _
    split
    · exact .refl
    · rename_i hw
      split
      · exact .refl
      · rename_i hc
        simp only [Bool.or_eq_true, decide_eq_true_eq, not_or, Nat.not_lt] at hc
        split
        · exact .refl
        · split
          · exact .refl
          · refine (Effects.one (.load s (some (openedLoad source sp first count s)) fun l hl => .inl ?_)).trans
              Effects.same
            simp only [Option.some.injEq] at hl
            subst hl
            exact ⟨Nat.one_le_iff_ne_zero.mpr hc.1, hc.2, hw, rfl⟩

theorem serveLoadData_effects (source : Node) (offset count : Nat) (data : List Byte) (s : State) :
    Effects s (serveLoadData source offset count data s).state := by
  rw [serveLoadData]
  split
  · exact .refl
  · rename_i l hl
    split
    · exact .refl
    · split
      · exact Effects.refreshed s l hl _
      · rename_i hlen
        split
        · exact Effects.refreshed s l hl _
        · split
          · exact Effects.refreshed s l hl _
          · rename_i hroom
            refine Effects.one (.load s _ fun m hm => .inr ⟨l, hl, ?_⟩)
            simp only [Option.some.injEq] at hm
            subst hm
            refine ⟨rfl, rfl, rfl, .inr ?_⟩
            have hlen' : data.length = count := not_not.mp hlen
            have htot : l.staged.length + count ≤ l.total := Nat.not_lt.mp hroom
            rw [← hlen', ← List.length_append] at htot
            exact htot

theorem serveLoadClose_effects (source : Node) (data : List Byte) (s : State) :
    Effects s (serveLoadClose source data s).state := by
  rw [serveLoadClose]
  split
  · exact .refl
  · rename_i l hl
    split
    · exact .refl
    · split
      · exact Effects.refreshed s l hl _
      · split
        · exact Effects.noLoad s
        · split
          · exact Effects.noLoad s
          · split
            · exact Effects.noLoad s
            · exact ((Effects.noLoad s).trans Effects.same).trans
                (State.applyWrite_effects _ _ _ _ _)

theorem serveLoadAbort_effects (source : Node) (s : State) : Effects s (serveLoadAbort source s).state := by
  rw [serveLoadAbort]
  split
  · exact .refl
  · split
    · exact .refl
    · exact Effects.noLoad s

theorem serveIssue_effects (i : Nat) (s : State) : Effects s (serveIssue i s).state := by
  rw [serveIssue]
  split
  · exact .refl
  · split
    · exact .refl
    · split
      · exact .refl
      · exact Effects.same

theorem serveRetrieve_effects (i ticket : Nat) (s : State) : Effects s (serveRetrieve i ticket s).state := by
  rw [serveRetrieve]
  split
  · split
    · exact .refl
    · split <;> exact .refl
    · split
      · exact Effects.same
      · exact .refl
  · exact .refl

theorem serveKind_effects (k : ReqKind) (p : Port) (source : Node) (code index count : Nat) (data : List Byte) (s : State) :
    Effects s (serveKind k p source code index count data s).state := by
  cases k with
  | read => rw [serveKind, serveRead_state]
  | write => exact serveWrite_effects _ _ _ _ s
  | writePosted => exact serveWrite_effects _ _ _ _ s
  | fetchRecords => exact serveFetch_effects _ _ s
  | alertAck => exact serveAck_effects _ s
  | alertClear => exact serveClear_effects _ s
  | pushStart => exact servePushStart_effects _ s
  | resetPoint => exact serveResetPoint_effects _ s
  | restartAccounting => exact State.restartAccounting_effects s
  | lockMetrology => exact serveLock_effects s
  | loadOpen => exact serveLoadOpen_effects _ _ _ _ s
  | loadData => exact serveLoadData_effects _ _ _ _ s
  | loadClose => exact serveLoadClose_effects _ _ s
  | loadAbort => exact serveLoadAbort_effects _ s
  | snapshot =>
    rw [serveKind, serveSnapshot]
    split
    · exact serveIssue_effects _ s
    · exact serveRetrieve_effects _ _ s

/-- The service of a request, up to its reply, is a run of effects. -/
theorem serve_effects (r : Request) (s : State) : Effects s (serve r s).state := by
  rw [serve]
  split
  · exact .refl
  · split
    · exact .refl
    · split
      · exact serveKind_effects _ _ _ _ _ _ _ s
      · exact .refl

/-- No effect touches the link of a port, and none lengthens its REPLY queue: a place for the reply stays free. -/
theorem Effect.keeps_reply_place {s t : State} (h : Effect s t) (p : Port) :
    (t.dlv.port p).up = (s.dlv.port p).up ∧ (t.dlv.port p).replyQ.length ≤ (s.dlv.port p).replyQ.length := by
  cases h with
  | beyond h => rw [h.1]; exact ⟨rfl, le_rfl⟩
  | run ts => exact ⟨run_up s ts p, run_replyQ_length_le s ts p⟩
  | appended r room => cases p <;> exact ⟨rfl, le_rfl⟩
  | fetched limit words n => cases p <;> exact ⟨rfl, le_rfl⟩
  | entries x => cases p <;> exact ⟨rfl, le_rfl⟩
  | alertsCleared v => rw [Delivery.clearAlerts_port, PortState.removeAlerts_eq]; exact ⟨rfl, le_rfl⟩
  | restarted => rw [Delivery.restarted_port, PortState.removeAlerts_eq]; exact ⟨rfl, le_rfl⟩
  | channelWritten c x => cases p <;> exact ⟨rfl, le_rfl⟩
  | priorities d => cases p <;> exact ⟨rfl, le_rfl⟩
  | load x h => exact ⟨rfl, le_rfl⟩

theorem Effects.keeps_reply_place {s t : State} (h : Effects s t) (p : Port) :
    (t.dlv.port p).up = (s.dlv.port p).up ∧ (t.dlv.port p).replyQ.length ≤ (s.dlv.port p).replyQ.length :=
  h.keeps (P := fun t => (t.dlv.port p).up = (s.dlv.port p).up ∧ (t.dlv.port p).replyQ.length ≤ (s.dlv.port p).replyQ.length)
    (fun _ _ e hp => ⟨(e.keeps_reply_place p).1.trans hp.1, (e.keeps_reply_place p).2.trans hp.2⟩) ⟨rfl, le_rfl⟩

/-! ## Effects of a command -/

/-- One effect of a command: one of a service, or of the links, the receive side, the transmitter, the reply and the request
queue, each under the guard the model checks. -/
inductive Event : State → State → Prop
  | effect {s t : State} (h : Effect s t) : Event s t
  | counted (s : State) (p : Port) (f : PortCounters → PortCounters) : Event s { s with dlv := s.dlv.count p f }
  | received (s : State) (p : Port) (f : PortCounters → PortCounters) : Event s { s with dlv := s.dlv.received p f }
  | raised (s : State) (p : Port) : Event s { s with dlv := s.dlv.modPort p fun q => { q with up := true } }
  | lost (s : State) (p : Port) (receiving : Bool) :
      Event s { s with dlv := s.dlv.linkDown s.device.priority p receiving }
  | sent (s : State) (p : Port) :
      Event s { s with dlv := s.dlv.modPort p fun q =>
        { q with tx := none, ctr := { q.ctr with txFrames := q.ctr.txFrames + 1 } } }
  | buffered (s : State) (p : Port) (f : List Byte) (up : (s.dlv.port p).up = true)
      (room : passRoom f (s.dlv.port p).pass = true) :
      Event s { s with dlv := s.dlv.setPort p { s.dlv.port p with pass := (s.dlv.port p).pass ++ [f] } }
  | replied (s : State) (p : Port) (f : ReplyFrame) (up : (s.dlv.port p).up = true)
      (room : (s.dlv.port p).replyQ.length < Config.replyRoom) :
      Event s { s with dlv := s.dlv.setPort p { s.dlv.port p with replyQ := (s.dlv.port p).replyQ ++ [f] } }
  | requests (s : State) (q : List Request) (h : q.length ≤ s.agent.queue.length ∨ q.length ≤ Config.requestRoom) :
      Event s (s.setRequests q)
  | reset (s : State) (straps : BitVec 12) (pending : List Instr) : Event s (State.powerOn straps pending)

/-- A run of effects of a command. -/
abbrev Events : State → State → Prop := Relation.ReflTransGen Event

theorem Events.one {s t : State} (h : Event s t) : Events s t := .single h

theorem Effects.events {s t : State} (h : Effects s t) : Events s t := by
  induction h with
  | refl => exact .refl
  | tail _ he ih => exact ih.tail (.effect he)

theorem Events.same {s t : State} (h : SameDelivery s t := by exact ⟨rfl, rfl, rfl, rfl⟩) : Events s t :=
  (Effects.same h).events

theorem Events.run (s : State) (ts : List Task) : Events s (s.run ts) := (Effects.run s ts).events

/-- What each effect of a command keeps, a run of them keeps. -/
theorem Events.keeps {P : State → Prop} (hstep : ∀ s t, Event s t → P s → P t) {s t : State} (h : Events s t) (hp : P s) :
    P t := by
  induction h with
  | refl => exact hp
  | tail _ he ih => exact hstep _ _ he ih

/-! ### The agent (R169 to R171) -/

theorem State.placeReply_events (p : Port) (f : ReplyFrame) (s : State)
    (room : (s.dlv.port p).up = true → (s.dlv.port p).replyQ.length < Config.replyRoom) : Events s (s.placeReply p f) := by
  rw [State.placeReply]
  split
  · rename_i hu
    exact (Events.one (.replied s p f hu (room hu))).trans (Events.run _ _)
  · exact Events.one (.counted s p _)

theorem State.endPosted_effects (r : Request) (x : Served) : Effects x.state (State.endPosted r x) := by
  rw [State.endPosted]
  split
  · exact .refl
  · exact (Effects.same).trans (Effects.run _ _)

/-- A request that may be taken finds, once served, a place for its reply (R170). -/
theorem State.serveRequest_events (r : Request) (s : State) (h : canTake s r = true) : Events s (s.serveRequest r) := by
  have hserve := serve_effects r s
  rw [State.serveRequest]
  split
  · exact Effects.events (hserve.trans (State.endPosted_effects r _))
  · rename_i hp
    refine hserve.events.trans (State.placeReply_events r.port _ _ fun hu => ?_)
    obtain ⟨hup, hlen⟩ := hserve.keeps_reply_place r.port
    rw [hup] at hu
    simp only [canTake, hp, hu, Bool.not_true, Bool.false_or, decide_eq_true_eq] at h
    omega

theorem State.agentLoop_events (n : Nat) : ∀ s : State, Events s (s.agentLoop n) := by
  induction n with
  | zero => intro s; exact .refl
  | succ n ih =>
    intro s
    rw [State.agentLoop]
    split
    · exact .refl
    · rename_i r rest hq
      split
      · rename_i hc
        have htaken : Events s (s.setRequests rest) := Events.one (.requests s rest (.inl (by rw [hq]; simp)))
        exact (htaken.trans (State.serveRequest_events r (s.setRequests rest) hc)).trans (ih _)
      · exact .refl

theorem State.agentRun_events (s : State) : Events s s.agentRun := State.agentLoop_events _ s

theorem State.requestArrives_events (r : Request) (s : State) : Events s (s.requestArrives r) := by
  rw [State.requestArrives]
  split
  · rename_i hroom
    have hjoins : Events s { s with agent := { s.agent with
        queue := s.agent.queue ++ [r], received := s.agent.received + 1 } } :=
      (Events.one (.requests s (s.agent.queue ++ [r]) (.inr (by simpa using hroom)))).trans (Events.same)
    dsimp only
    split
    · exact hjoins.trans (State.agentRun_events _)
    · exact hjoins
  · exact Events.same

/-! ### The receive side (R2, R7, R22 to R25) -/

theorem State.offerPass_events (o : Port) (f : List Byte) (s : State) : Events s (s.offerPass o f) := by
  rw [State.offerPass]
  split
  · exact Events.one (.counted s o _)
  · rename_i hu
    split
    · rename_i hroom
      exact (Events.one (.buffered s o f (by simpa using hu) hroom)).trans (Events.run _ _)
    · exact (Events.one (.counted s o _)).trans (Events.run _ _)

theorem State.modClassifier_events (f : Classifier → Classifier) (s : State) : Events s (s.modClassifier f) :=
  Events.same

theorem State.toTracker_events (w : StreamWindow) (tag : BitVec 32) (payload : List Byte) (s : State) :
    Events s (s.toTracker w tag payload) := by
  rw [State.toTracker]
  split
  · exact State.modClassifier_events _ s
  · exact (State.applySlot_effects _ _ s).events

theorem State.windowHit_events (o : Port) (f : List Byte) (i : Fin 16) (s : State) : Events s (s.windowHit o f i) := by
  refine (State.modClassifier_events (Classifier.countHit i) s).trans ?_
  rw [State.windowHit]
  split
  · exact State.toTracker_events _ _ _ _
  · exact (State.offerPass_events o f _).trans (State.toTracker_events _ _ _ _)
  · exact State.offerPass_events o f _

theorem State.classifySample_events (o : Port) (f : List Byte) (s : State) : Events s (s.classifySample o f) := by
  rw [State.classifySample]
  split
  · exact (State.modClassifier_events _ s).trans (State.offerPass_events o f _)
  · split
    · exact State.offerPass_events o f s
    · exact State.windowHit_events o f _ s

theorem State.classify_events (p : Port) (f : List Byte) (s : State) : Events s (s.classify p f) := by
  rw [State.classify]
  split
  · exact State.classifySample_events _ f s
  · split
    · rw [State.classifyRequest]
      split
      · exact State.requestArrives_events _ s
      · split
        · exact (State.offerPass_events _ f s).trans (State.requestArrives_events _ _)
        · exact State.offerPass_events _ f s
    · exact State.offerPass_events _ f s

theorem State.receive_events (p : Port) (f : List Byte) (s : State) : Events s (s.receive p f) := by
  refine (Events.one (.received s p (PortCounters.verdict (verdict s.device.node f)))).trans ?_
  rw [State.receive]
  split
  · exact .refl
  · exact Events.run _ _
  · exact .refl
  · exact State.classify_events p f _

/-! ### Every command -/

/-- What a row leaves is what it brings about unless the reset input is asserted. -/
theorem State.event_events {s t : State} {f : State → State} (h : s.event f = .next t) (hf : Events s (f s)) : Events s t := by
  rw [State.event, Host.Outcome.next.injEq] at h
  rw [← h]
  split
  · exact .refl
  · exact hf

theorem State.request_events {s t : State} {h : ReqHeader} {k : ReqKind} {space : Byte} {index count : BitVec 16}
    {data : List Byte} (e : s.request h k space index count data = .next t) : Events s t :=
  State.event_events e (State.requestArrives_events _ s)

theorem Events.ite {s t u : State} {c : Prop} [Decidable c] (ht : Events s t) (hu : Events s u) :
    Events s (if c then t else u) := by
  split
  · exact ht
  · exact hu

theorem State.linkUp_events (p : Port) (s : State) : Events s (s.linkUp p) := by
  rw [State.linkUp]
  exact (Events.one (.raised s p)).trans (Events.run _ _)

theorem State.linkDown_events (p : Port) (receiving : Bool) (s : State) : Events s (s.linkDown p receiving) := by
  rw [State.linkDown]
  exact ((Events.one (.lost s p receiving)).trans (Events.run _ _)).trans (State.agentRun_events _)

theorem State.transmissionEnd_events (p : Port) (s : State) : Events s (s.transmissionEnd p) := by
  rw [State.transmissionEnd]
  exact ((Events.one (.sent s p)).trans (Events.run _ _)).trans (State.agentRun_events _)

theorem State.expireLoad_effects (l : Load) (s : State) : Effects s (s.expireLoad l) := by
  rw [State.expireLoad]
  exact ((Effects.noLoad s).trans (Effects.same)).trans (Effects.run _ _)

theorem State.expireTicket_effects (k : Fin 4) (s : State) : Effects s (s.expireTicket k) := by
  rw [State.expireTicket]
  exact (Effects.same).trans (Effects.run _ _)

/-- Every command is a run of the effects above. -/
theorem exec_events {c : Instr} {s t : State} (h : exec c s = .next t) : Events s t := by
  cases c with
  | powerOnReset straps =>
    rw [exec, execPowerOnReset, Host.Outcome.next.injEq] at h
    rw [← h]; exact Events.one (.reset s _ _)
  | resetAsserted =>
    rw [exec, execResetAsserted, Host.Outcome.next.injEq] at h
    rw [← h]; exact (Events.one (.reset s s.straps s.pending)).trans (Events.same)
  | linkUp p => rw [exec, execLinkUp] at h; exact State.event_events h (Events.ite .refl (State.linkUp_events p s))
  | linkDown p receiving =>
    rw [exec, execLinkDown] at h; exact State.event_events h (Events.ite (State.linkDown_events p receiving s) .refl)
  | frameReceived p bytes =>
    rw [exec, execFrameReceived] at h
    exact State.event_events h (Events.ite ((State.receive_events p bytes s).trans (State.agentRun_events _)) .refl)
  | lossTimeout k =>
    rw [exec, execLossTimeout] at h
    exact State.event_events h (Events.ite (State.applySlot_effects k _ s).events .refl)
  | finishBegin => rw [exec, execFinishBegin] at h; exact State.event_events h (State.beginFinish_effects s).events
  | finishComplete =>
    rw [exec, execFinishComplete] at h
    refine State.event_events h ?_
    split
    · exact .refl
    · exact (State.completeFinish_effects _ _ _ s).events
  | abandonedFinish =>
    rw [exec, execAbandonedFinish] at h
    refine State.event_events h ?_
    split
    · exact .refl
    · exact (State.endAbandoned_effects _ s).events
  | transmissionEnd p =>
    rw [exec, execTransmissionEnd] at h; exact State.event_events h (Events.ite (State.transmissionEnd_events p s) .refl)
  | alertOffer p => rw [exec, execAlertOffer] at h; exact State.event_events h (Events.run s _)
  | sendAttempt c =>
    rw [exec, execSendAttempt] at h; exact State.event_events h (Events.ite (Events.run s _) (Events.run s _))
  | loadExpired =>
    rw [exec, execLoadExpired] at h
    refine State.event_events h ?_
    split
    · exact .refl
    · exact (State.expireLoad_effects _ s).events
  | ticketExpired k =>
    rw [exec, execTicketExpired] at h; exact State.event_events h (Events.ite (State.expireTicket_effects k s).events .refl)
  | read h0 space index count => exact State.request_events h
  | write h0 space index count data => exact State.request_events h
  | writePosted h0 space index count data => exact State.request_events h
  | slotWrite h0 index count data => exact State.request_events h
  | pointWrite h0 index count data => exact State.request_events h
  | pushWrite h0 index count data => exact State.request_events h
  | alertWrite h0 index count data => exact State.request_events h
  | deviceWrite h0 index count data => exact State.request_events h
  | fetchRecords h0 count => exact State.request_events h
  | alertAck h0 vector => exact State.request_events h
  | alertClear h0 vector => exact State.request_events h
  | pushStart h0 channel => exact State.request_events h
  | resetPoint h0 point => exact State.request_events h
  | restartAccounting h0 => exact State.request_events h
  | lockMetrology h0 => exact State.request_events h
  | loadOpen h0 space index count => exact State.request_events h
  | loadData h0 offset count data => exact State.request_events h
  | loadClose h0 data => exact State.request_events h
  | loadAbort h0 => exact State.request_events h
  | snapshotIssue h0 point => exact State.request_events h
  | snapshotRetrieve h0 point ticket => exact State.request_events h

/-- Every step is a run of the effects above: a command taken from the queue, or a tick. -/
theorem step_events {s t : State} (h : step s = .next t) : Events s t := by
  rw [step] at h
  split at h
  · exact (Events.same).trans (exec_events h)
  · rw [Host.Outcome.next.injEq] at h
    rw [← h, State.tick]
    split
    · exact .refl
    · exact Events.same

end Sys2Proof.Machine
end

section
/-! SUPPORT. The laws of capacities and of DOWN ports: each single effect keeps them, so every step does. -/

namespace Sys2Proof.Machine

/-! ## What a link down leaves alone (R15) -/

/-- Returning frames to their entries changes entries alone. -/
theorem Delivery.restoreAlerts_eq (l : List AlertFrame) (d : Delivery) :
    d.restoreAlerts l = { d with alerts := (d.restoreAlerts l).alerts } :=
  foldl_setAlert_eq (fun f : AlertFrame => f.number) (fun d f => (d.alert f.number).restore f) l d

/-- A link down changes its own port and the entries. -/
theorem Delivery.linkDown_eq (v : PerClass Nat) (p : Port) (receiving : Bool) (d : Delivery) :
    d.linkDown v p receiving =
      { d.setPort p ((d.port p).down v receiving) with alerts := (d.linkDown v p receiving).alerts } := by
  rw [Delivery.linkDown, Delivery.restoreAlerts_eq]
  rfl

theorem Delivery.linkDown_port_same (v : PerClass Nat) (p : Port) (receiving : Bool) (d : Delivery) :
    (d.linkDown v p receiving).port p = (d.port p).down v receiving := by
  rw [Delivery.linkDown_eq]; cases p <;> rfl

theorem Delivery.linkDown_port_other (v : PerClass Nat) (p o : Port) (receiving : Bool) (d : Delivery) (h : o ≠ p) :
    (d.linkDown v p receiving).port o = d.port o := by
  rw [Delivery.linkDown_eq, ← Delivery.setPort_port_other d p o ((d.port p).down v receiving) h]
  cases o <;> rfl

theorem Delivery.linkDown_wait (v : PerClass Nat) (p o : Port) (receiving : Bool) (d : Delivery) :
    (d.linkDown v p receiving).wait o = d.wait o := by
  rw [Delivery.linkDown_eq, ← Delivery.setPort_wait d ((d.port p).down v receiving) p o]
  cases o <;> rfl

theorem Delivery.linkDown_recq (v : PerClass Nat) (p : Port) (receiving : Bool) (d : Delivery) :
    (d.linkDown v p receiving).recq = d.recq := by
  rw [Delivery.linkDown_eq]; exact Delivery.setPort_recq d p _

/-! ## The Record Queue (R130) -/

theorem Effect.keeps_recordQueueFits {s t : State} (h : Effect s t) (hs : RecordQueueFits s) : RecordQueueFits t := by
  unfold RecordQueueFits at hs ⊢
  cases h with
  | beyond h => rw [h.1]; exact hs
  | run ts => exact (run_words_le s ts).trans hs
  | appended r room =>
    have hwords : (s.dlv.recq.append r).words = s.dlv.recq.words + recordWords r := by
      simp [RecordQueue.words, RecordQueue.append, wordsOf]
    rw [RecordQueue.freeWords] at room
    rw [hwords]; omega
  | fetched limit words n => exact (wordsOf_suffix (takeRecords_suffix limit words _)).trans hs
  | entries x => exact hs
  | alertsCleared v => exact hs
  | restarted => exact Nat.zero_le _
  | channelWritten c x => exact hs
  | priorities d => exact hs
  | load x h => exact hs

theorem Event.keeps_recordQueueFits {s t : State} (h : Event s t) (hs : RecordQueueFits s) : RecordQueueFits t := by
  cases h with
  | effect h => exact h.keeps_recordQueueFits hs
  | counted p f => unfold RecordQueueFits; rw [Delivery.count, Delivery.modPort_recq]; exact hs
  | received p f => unfold RecordQueueFits; rw [Delivery.received, Delivery.modPort_recq]; exact hs
  | raised p => unfold RecordQueueFits; rw [Delivery.modPort_recq]; exact hs
  | lost p receiving => unfold RecordQueueFits; rw [Delivery.linkDown_recq]; exact hs
  | sent p => unfold RecordQueueFits; rw [Delivery.modPort_recq]; exact hs
  | buffered p f up room => unfold RecordQueueFits; rw [Delivery.setPort_recq]; exact hs
  | replied p f up room => unfold RecordQueueFits; rw [Delivery.setPort_recq]; exact hs
  | requests q h => exact hs
  | reset straps pending => exact Nat.zero_le _

/-! ## The queues (R7, R9, R143, R169) -/

/-- The delivery side's part of the law of the queues. -/
def Delivery.QueuesWithin (d : Delivery) : Prop := ∀ p : Port, PortWithinCapacity (d.port p) ∧ (d.wait p).Nodup

theorem queuesWithinCapacity_iff (s : State) :
    QueuesWithinCapacity s ↔ s.dlv.QueuesWithin ∧ s.agent.queue.length ≤ Config.requestRoom := Iff.rfl

/-- Entries, channels and Record Queue have no part in the law. -/
theorem Delivery.QueuesWithin.congr {d e : Delivery} (hd : d.QueuesWithin) (hp : ∀ p, e.port p = d.port p)
    (hw : ∀ p, e.wait p = d.wait p) : e.QueuesWithin := fun p => by rw [hp, hw]; exact hd p

/-- A port replaced by one within its capacities. -/
theorem Delivery.QueuesWithin.setPort {d : Delivery} (hd : d.QueuesWithin) (p : Port) {q : PortState}
    (hq : PortWithinCapacity q) : (d.setPort p q).QueuesWithin := by
  intro o
  rw [Delivery.setPort_wait]
  refine ⟨?_, (hd o).2⟩
  by_cases e : o = p
  · subst e; rw [Delivery.setPort_port_same]; exact hq
  · rw [Delivery.setPort_port_other d p o q e]; exact (hd o).1

theorem PortWithinCapacity.removeAlerts {q : PortState} (h : PortWithinCapacity q) (keep : AlertFrame → Bool) :
    PortWithinCapacity (q.removeAlerts keep) := by
  obtain ⟨hpass, hbytes, hal, hrep, hrec⟩ := h
  rw [PortState.removeAlerts_eq]
  exact ⟨hpass, hbytes, (List.length_filter_le _ _).trans hal, hrep, hrec⟩

theorem Delivery.QueuesWithin.leaveWait {d : Delivery} (hd : d.QueuesWithin) (c : Fin 4) : (d.leaveWait c).QueuesWithin := by
  intro p
  cases p with
  | a => exact ⟨(hd .a).1, (hd .a).2.filter _⟩
  | b => exact ⟨(hd .b).1, (hd .b).2.filter _⟩

theorem Effect.keeps_queuesWithin {s t : State} (h : Effect s t) (hs : s.dlv.QueuesWithin) : t.dlv.QueuesWithin := by
  cases h with
  | beyond h => rw [h.1]; exact hs
  | run ts =>
    intro p
    exact ⟨run_port_keeps PortWithinCapacity s ts p (fun _ _ m hq => m.within hq) (hs p).1, run_wait_nodup s ts p (hs p).2⟩
  | appended r room => exact hs.congr (fun p => by cases p <;> rfl) fun p => by cases p <;> rfl
  | fetched limit words n => exact hs.congr (fun p => by cases p <;> rfl) fun p => by cases p <;> rfl
  | entries x => exact hs.congr (fun p => by cases p <;> rfl) fun p => by cases p <;> rfl
  | alertsCleared v =>
    intro p
    refine ⟨?_, ?_⟩
    · rw [Delivery.clearAlerts_port]; exact (hs p).1.removeAlerts _
    · exact Port.forall_of (P := fun p => ((s.dlv.clearAlerts v).wait p).Nodup) (hs .a).2 (hs .b).2 p
  | restarted =>
    intro p
    refine ⟨?_, ?_⟩
    · rw [Delivery.restarted_port]; exact (hs p).1.removeAlerts _
    · cases p <;> exact List.nodup_nil
  | channelWritten c x =>
    exact (hs.leaveWait c).congr (fun p => Delivery.setChannel_port _ c x p) fun p => Delivery.setChannel_wait _ c x p
  | priorities d => exact Port.forall_of (hs .a) (hs .b)
  | load x h => exact hs

/-- No effect of a service touches the request queue. -/
theorem Effect.agent_queue {s t : State} (h : Effect s t) : t.agent.queue = s.agent.queue := by
  cases h with
  | beyond h => exact h.2.2.1
  | _ => rfl

theorem Event.keeps_queuesWithinCapacity {s t : State} (h : Event s t) (hs : QueuesWithinCapacity s) :
    QueuesWithinCapacity t := by
  rw [queuesWithinCapacity_iff] at hs ⊢
  obtain ⟨hd, hq⟩ := hs
  cases h with
  | effect h => exact ⟨h.keeps_queuesWithin hd, by rw [h.agent_queue]; exact hq⟩
  | counted p f => exact ⟨hd.setPort p (hd p).1, hq⟩
  | received p f => exact ⟨hd.setPort p (hd p).1, hq⟩
  | raised p => exact ⟨hd.setPort p (hd p).1, hq⟩
  | lost p receiving =>
    have hdown : PortWithinCapacity ((s.dlv.port p).down s.device.priority receiving) := by
      simp [PortWithinCapacity, PortState.down, passBytes]
    refine ⟨(hd.setPort p hdown).congr (fun o => ?_) fun o => ?_, hq⟩
    · rw [Delivery.linkDown_eq]; cases o <;> rfl
    · rw [Delivery.linkDown_wait, Delivery.setPort_wait]
  | sent p => exact ⟨hd.setPort p (hd p).1, hq⟩
  | buffered p f up room =>
    obtain ⟨-, -, hal, hrep, hrec⟩ := (hd p).1
    simp only [passRoom, Bool.and_eq_true, decide_eq_true_eq] at room
    refine ⟨hd.setPort p ⟨?_, ?_, hal, hrep, hrec⟩, hq⟩
    · rw [List.length_append, List.length_singleton]; exact room.1
    · simpa [passBytes] using room.2
  | replied p f up room =>
    obtain ⟨hpass, hbytes, hal, -, hrec⟩ := (hd p).1
    exact ⟨hd.setPort p ⟨hpass, hbytes, hal, by rw [List.length_append, List.length_singleton]; exact room, hrec⟩, hq⟩
  | requests q h => exact ⟨hd, h.elim (fun h => h.trans hq) id⟩
  | reset straps pending => 
    have hport : PortWithinCapacity PortState.init := by simp [PortWithinCapacity, PortState.init, passBytes]
    exact ⟨Port.forall_of ⟨hport, List.nodup_nil⟩ ⟨hport, List.nodup_nil⟩, Nat.zero_le _⟩

/-! ## The open load (R189) -/

/-- The table of a space is no larger than 2,048 bytes (R189). -/
theorem table_bytes_le (sp : Space) : spaceEntries sp * writeSize sp ≤ 2048 := by cases sp <;> decide

/-- A load that follows one within its room is within its own. -/
theorem LoadFollows.within {s : State} {l : Load} (h : LoadFollows s.agent.load l) (hs : LoadWithinRoom s) :
    1 ≤ l.count ∧ l.first + l.count ≤ spaceEntries l.space ∧ writeSize l.space ≠ 0 ∧ l.staged.length ≤ l.total ∧
      l.total ≤ 2048 := by
  rcases h with ⟨hc, hf, hw, hst⟩ | ⟨o, ho, hsp, hfi, hco, hst⟩
  · have hcount : l.count ≤ spaceEntries l.space := by omega
    exact ⟨hc, hf, hw, by simp [hst], (Nat.mul_le_mul_right _ hcount).trans (table_bytes_le l.space)⟩
  · obtain ⟨hc, hf, hw, hlen, htot⟩ := hs o ho
    have heq : l.total = o.total := by rw [Load.total, Load.total, hsp, hco]
    rw [hsp, hfi, hco, heq]
    refine ⟨hc, hf, hw, ?_, htot⟩
    rcases hst with hst | hst
    · rw [hst]; exact hlen
    · rw [← heq]; exact hst

theorem Effect.keeps_loadWithinRoom {s t : State} (h : Effect s t) (hs : LoadWithinRoom s) : LoadWithinRoom t := by
  cases h with
  | beyond h => intro l hl; rw [h.2.2.2] at hl; exact hs l hl
  | load x h => exact fun l hl => (h l hl).within hs
  | _ => exact hs

theorem Event.keeps_loadWithinRoom {s t : State} (h : Event s t) (hs : LoadWithinRoom s) : LoadWithinRoom t := by
  cases h with
  | effect h => exact h.keeps_loadWithinRoom hs
  | reset straps pending => intro l hl; simp [State.powerOn, Agent.init] at hl
  | _ => exact hs

/-! ## DOWN ports (R15, R16) -/

theorem DownPortHoldsNothing.removeAlerts {v : PerClass Nat} {q : PortState} (h : DownPortHoldsNothing v q)
    (keep : AlertFrame → Bool) : DownPortHoldsNothing v (q.removeAlerts keep) := by
  rw [PortState.removeAlerts_eq]
  intro hu
  obtain ⟨hrx, htx, hpass, hal, hrep, hrec, hpc, hcur, hwin⟩ := h hu
  exact ⟨hrx, htx, hpass, by rw [hal]; rfl, hrep, hrec, by dsimp only; rw [hpc, ite_self], hcur, hwin⟩

theorem Effect.keeps_downPorts {s t : State} (h : Effect s t) (hs : DownPortsHoldNothing s) : DownPortsHoldNothing t := by
  cases h with
  | beyond h => intro p; rw [h.1, h.2.1]; exact hs p
  | run ts =>
    intro p
    exact run_port_keeps (DownPortHoldsNothing s.device.priority) s ts p (fun _ _ m hq => m.down_empty hq) (hs p)
  | appended r room => exact Port.forall_of (hs .a) (hs .b)
  | fetched limit words n => exact Port.forall_of (hs .a) (hs .b)
  | entries x => exact Port.forall_of (hs .a) (hs .b)
  | alertsCleared v => intro p; rw [Delivery.clearAlerts_port]; exact (hs p).removeAlerts _
  | restarted => intro p; rw [Delivery.restarted_port]; exact (hs p).removeAlerts _
  | channelWritten c x => exact Port.forall_of (hs .a) (hs .b)
  | priorities d =>
    intro p hu
    cases p
    · obtain ⟨hrx, htx, hpass, hal, hrep, hrec, hpc, hcur, hwin⟩ := hs .a hu
      exact ⟨hrx, htx, hpass, hal, hrep, hrec, hpc, rfl, hwin⟩
    · obtain ⟨hrx, htx, hpass, hal, hrep, hrec, hpc, hcur, hwin⟩ := hs .b hu
      exact ⟨hrx, htx, hpass, hal, hrep, hrec, hpc, rfl, hwin⟩
  | load x h => exact hs

/-- One port changed, into one that holds nothing when it is DOWN. -/
theorem DownPortsHoldNothing.setPort {s : State} (hs : DownPortsHoldNothing s) (p : Port) {q : PortState}
    (hq : DownPortHoldsNothing s.device.priority q) : DownPortsHoldNothing { s with dlv := s.dlv.setPort p q } := by
  intro o
  by_cases e : o = p
  · subst e; rw [Delivery.setPort_port_same]; exact hq
  · rw [Delivery.setPort_port_other s.dlv p o q e]; exact hs o

theorem Event.keeps_downPorts {s t : State} (h : Event s t) (hs : DownPortsHoldNothing s) : DownPortsHoldNothing t := by
  cases h with
  | effect h => exact h.keeps_downPorts hs
  | counted p f => exact hs.setPort p (hs p)
  | received p f =>
    refine hs.setPort p fun hu => ?_
    obtain ⟨-, hrest⟩ := hs p hu
    exact ⟨rfl, hrest⟩
  | raised p => exact hs.setPort p fun hu => by simp at hu
  | lost p receiving =>
    intro o
    by_cases e : o = p
    · subst e
      rw [Delivery.linkDown_port_same]
      exact fun _ => ⟨rfl, rfl, rfl, rfl, rfl, rfl, rfl, rfl, rfl⟩
    · rw [Delivery.linkDown_port_other _ _ _ _ _ e]; exact hs o
  | sent p =>
    refine hs.setPort p fun hu => ?_
    obtain ⟨hrx, -, hrest⟩ := hs p hu
    exact ⟨hrx, rfl, hrest⟩
  | buffered p f up room => exact hs.setPort p fun hu => by simp [up] at hu
  | replied p f up room => exact hs.setPort p fun hu => by simp [up] at hu
  | requests q h => exact hs
  | reset straps pending => intro p; cases p <;> exact fun _ => ⟨rfl, rfl, rfl, rfl, rfl, rfl, rfl, rfl, rfl⟩

/-! ## The obligations -/

/-- Settles O55: each effect of a command keeps the room of every queue, and a step is a run of such effects. -/
theorem everyStepKeepsTheCapacities : Obligations.EveryStepKeepsTheCapacities := by
  intro s t h
  have hev := step_events h
  exact ⟨hev.keeps fun _ _ e => e.keeps_recordQueueFits, hev.keeps fun _ _ e => e.keeps_queuesWithinCapacity,
    hev.keeps fun _ _ e => e.keeps_loadWithinRoom⟩

/-- Settles O56: no effect of a command puts anything into a DOWN port or moves its arbiter. -/
theorem everyStepKeepsDownPortsEmpty : Obligations.EveryStepKeepsDownPortsEmpty :=
  fun _ _ hs h => (step_events h).keeps (fun _ _ e => e.keeps_downPorts) hs

end Sys2Proof.Machine
end

section
/-! SUPPORT. Alert entries through a cascade: what leaves an entry's report as it is, and why a run of offers and grants comes
to its end well within the bound of a cascade. -/

namespace Sys2Proof.Machine

/-! ## Entries no task speaks of -/

/-- The task records an occurrence or a report of source n. -/
def Task.tells (n : Fin 20) : Task → Prop
  | .edge m _ => m = n
  | .levels reports => ∃ r ∈ reports, r.number = n
  | .queueHigh => False
  | .trigger _ => False
  | .attempt _ _ => False
  | .sent _ _ => False
  | .waitList _ => False
  | .offers _ => False
  | .grant _ => False
  | .freed _ => False

/-- No cascade raises source n by itself: it is neither QUEUE_HIGH nor a channel's PUSH_DONE. -/
def OutsideCascade (n : Fin 20) : Prop := n ≠ 8 ∧ ∀ c : Fin 4, n.val ≠ 10 + c.val

/-- The configuration, the stored condition and the occurrences of an entry are as they were. -/
def SameReport (e x : AlertEntry) : Prop :=
  x.cfg = e.cfg ∧ x.active = e.active ∧ x.detail = e.detail ∧ x.occurrences = e.occurrences

theorem SameReport.refl (e : AlertEntry) : SameReport e e := ⟨rfl, rfl, rfl, rfl⟩

theorem SameReport.trans {e x y : AlertEntry} (h : SameReport e x) (k : SameReport x y) : SameReport e y :=
  ⟨k.1.trans h.1, k.2.1.trans h.2.1, k.2.2.1.trans h.2.2.1, k.2.2.2.trans h.2.2.2⟩

theorem AlertEntry.afterHandOver_sameReport (n : Fin 20) (e : AlertEntry) : SameReport e (e.afterHandOver n) := by
  rw [AlertEntry.afterHandOver]
  split <;> exact ⟨rfl, rfl, rfl, rfl⟩

/-- An entry set to one of the same report. -/
theorem Delivery.setAlert_sameReport (d : Delivery) (m n : Fin 20) (x : AlertEntry) (h : SameReport (d.alert m) x) :
    SameReport (d.alert n) ((d.setAlert m x).alert n) := by
  by_cases e : n = m
  · subst e; rw [Delivery.setAlert_alert_same]; exact h
  · rw [Delivery.setAlert_alert_other d m n x e]; exact .refl _

theorem sourceTriggers_untold (d : Delivery) (m n : Fin 20) : ∀ u ∈ sourceTriggers d m, ¬ u.tells n := by
  intro u hu
  simp only [sourceTriggers, List.mem_map] at hu
  obtain ⟨c, -, rfl⟩ := hu
  exact id

theorem recordEdge_untold (m n : Fin 20) (detail : BitVec 32) (d : Delivery) (h : m ≠ n) :
    (recordEdge m detail d).1.alert n = d.alert n ∧ ∀ u ∈ (recordEdge m detail d).2, ¬ u.tells n := by
  have hn : (d.setAlert m ((d.alert m).occur detail)).alert n = d.alert n :=
    Delivery.setAlert_alert_other d m n _ (Ne.symm h)
  rw [recordEdge]
  split
  · exact ⟨by rw [Delivery.modPort_alert, hn], sourceTriggers_untold d m n⟩
  · refine ⟨hn, fun u hu => ?_⟩
    rcases List.mem_append.mp hu with hu | hu
    · exact sourceTriggers_untold d m n u hu
    · rw [List.mem_singleton] at hu; subst hu; exact id

theorem recordLevels_untold (reports : List LevelReport) (n : Fin 20) (d : Delivery) (h : ∀ r ∈ reports, r.number ≠ n) :
    (recordLevels reports d).1.alert n = d.alert n ∧ ∀ u ∈ (recordLevels reports d).2, ¬ u.tells n := by
  refine ⟨?_, fun u hu => ?_⟩
  · rw [recordLevels]
    induction reports generalizing d with
    | nil => rfl
    | cons r rs ih =>
      rw [List.foldl_cons, ih _ fun x hx => h x (List.mem_cons_of_mem _ hx)]
      exact Delivery.setAlert_alert_other d r.number n _ (Ne.symm (h r List.mem_cons_self))
  · rw [recordLevels] at hu
    rcases List.mem_append.mp hu with hu | hu
    · obtain ⟨r, -, hr⟩ := List.mem_flatMap.mp hu
      exact sourceTriggers_untold d r.number n u hr
    · obtain ⟨r, -, rfl⟩ := List.mem_map.mp hu
      exact id

theorem offerOne_sameReport (env : Env) (p : Port) (d : Delivery) (n : Fin 20) :
    SameReport (d.alert n) ((offerOne env p d).1.alert n) := by
  rw [offerOne]
  split
  · exact .refl _
  · rename_i m _
    dsimp only
    split
    · have h := Delivery.setAlert_sameReport (d.setPort p { d.port p with
        alertQ := insertAlert (buildAlert env m (d.alert m)) (d.port p).alertQ }) m n ((d.alert m).afterBuild m p)
        (by rw [Delivery.setPort_alert]; exact ⟨rfl, rfl, rfl, rfl⟩)
      rw [Delivery.setPort_alert] at h
      exact h
    · exact .refl _

theorem grantLocal_sameReport (env : Env) (p : Port) (win : EgressClass) (d : Delivery) (n : Fin 20) :
    SameReport (d.alert n) ((grantLocal env p win d).1.alert n) := by
  cases win with
  | alert =>
    simp only [grantLocal]
    split
    · exact .refl _
    · rename_i f rest _
      have h := Delivery.setAlert_sameReport (d.setPort p { afterLocalGrant env.priority (d.port p) .alert with
        alertQ := rest, tx := some (.alert f) }) f.number n ((d.alert f.number).afterHandOver f.number)
        (by rw [Delivery.setPort_alert]; exact AlertEntry.afterHandOver_sameReport _ _)
      rw [Delivery.setPort_alert] at h
      exact h
  | reply => simp only [grantLocal]; split <;> simp [SameReport]
  | report => simp only [grantLocal]; split <;> simp [SameReport]

theorem grant_sameReport (env : Env) (p : Port) (d : Delivery) (n : Fin 20) :
    SameReport (d.alert n) ((grant env p d).1.alert n) := by
  rw [grant]
  split
  · exact .refl _
  · split
    · split
      · exact .refl _
      · rw [Delivery.setPort_alert]; exact .refl _
    · split
      · exact .refl _
      · exact grantLocal_sameReport env p _ d n

/-- What an offer brings about: the grant of the port and the next offer. -/
theorem offerOne_tasks (env : Env) (p : Port) (d : Delivery) :
    (offerOne env p d).2 = [] ∨ (offerOne env p d).2 = [.grant p, .offers p] := by
  rw [offerOne]
  split
  · exact .inl rfl
  · dsimp only
    split
    · exact .inr rfl
    · exact .inl rfl

/-- What a grant brings about: nothing, offers to the place an ALERT frame has left, or a freed REPORT place. -/
theorem grant_tasks (env : Env) (p : Port) (d : Delivery) :
    (grant env p d).2 = [] ∨ (grant env p d).2 = [.offers p] ∨ (grant env p d).2 = [.freed p] := by
  rw [grant]
  split
  · exact .inl rfl
  · split
    · split <;> exact .inl rfl
    · split
      · exact .inl rfl
      · rename_i win _
        cases win with
        | alert => simp only [grantLocal]; split <;> simp
        | reply => simp only [grantLocal]; split <;> simp
        | report => simp only [grantLocal]; split <;> simp

theorem attemptSend_untold (env : Env) (c : Fin 4) (head : Bool) (d : Delivery) (n : Fin 20) :
    (attemptSend env c head d).1.alert n = d.alert n ∧ ∀ u ∈ (attemptSend env c head d).2, ¬ u.tells n := by
  simp only [attemptSend]
  split
  · simp
  · split
    · split
      · simp
      · rw [Delivery.setPort_alert]
        refine ⟨rfl, fun u hu => ?_⟩
        simp only [List.mem_cons, List.not_mem_nil, or_false] at hu
        rcases hu with rfl | rfl | rfl <;> exact id
    · refine ⟨?_, by simp⟩
      rw [joinWait]
      split
      · rfl
      · rw [Delivery.setWait_alert]

theorem takeTrigger_untold (c : Fin 4) (d : Delivery) (n : Fin 20) :
    ∀ u ∈ (takeTrigger c d).2, ¬ u.tells n := by
  have attempt : ∀ u ∈ [Task.attempt c false], ¬ u.tells n := fun u hu => by
    rw [List.mem_singleton] at hu; subst hu; exact id
  rw [takeTrigger]
  split
  · exact attempt
  · split
    · simp
    · split <;> simp
  · simp
  · simp

theorem continueSend_untold (c : Fin 4) (k : Nat) (d : Delivery) (n : Fin 20) (h : n.val ≠ 10 + c.val) :
    ∀ u ∈ (continueSend c k d).2, ¬ u.tells n := by
  have attempt : ∀ u ∈ [Task.attempt c false], ¬ u.tells n := fun u hu => by
    rw [List.mem_singleton] at hu; subst hu; exact id
  rw [continueSend]
  generalize (if (d.channel c).cfg.count ≠ 0 then (d.channel c).remaining - k else (d.channel c).remaining) = left
  split
  · intro u hu
    rw [List.mem_singleton] at hu
    subst hu
    intro e
    exact h (congrArg Fin.val e).symm
  · split
    · split
      · simp
      · exact attempt
    · split
      · exact attempt
      · simp

theorem serveWaitList_untold (p : Port) (d : Delivery) (n : Fin 20) :
    (serveWaitList p d).1.alert n = d.alert n ∧ ∀ u ∈ (serveWaitList p d).2, ¬ u.tells n := by
  rw [serveWaitList]
  split
  · simp
  · split
    · rw [Delivery.setWait_alert]
      refine ⟨rfl, fun u hu => ?_⟩
      simp only [List.mem_cons, List.not_mem_nil, or_false] at hu
      rcases hu with rfl | rfl <;> exact id
    · simp

/-- A task that does not tell of source n leaves the report of its entry, and brings about no task that does. -/
theorem perform_untold (env : Env) (n : Fin 20) (hn : OutsideCascade n) (t : Task) (d : Delivery) (ht : ¬ t.tells n) :
    SameReport (d.alert n) ((perform env t d).1.alert n) ∧ ∀ u ∈ (perform env t d).2, ¬ u.tells n := by
  have of_eq : ∀ x : AlertEntry, x = d.alert n → SameReport (d.alert n) x := fun x h => by rw [h]; exact .refl _
  cases t with
  | edge m detail => exact (recordEdge_untold m n detail d ht).imp_left (of_eq _)
  | levels reports => exact (recordLevels_untold reports n d fun r hr e => ht ⟨r, hr, e⟩).imp_left (of_eq _)
  | queueHigh =>
    refine ⟨.refl _, fun u hu => ?_⟩
    simp only [perform, List.mem_singleton] at hu
    subst hu
    rintro ⟨r, hr, e⟩
    rw [List.mem_singleton] at hr
    subst hr
    exact hn.1 e.symm
  | trigger c => exact ⟨of_eq _ (by rw [perform, takeTrigger_eq]; rfl), takeTrigger_untold c d n⟩
  | attempt c head => exact (attemptSend_untold env c head d n).imp_left (of_eq _)
  | sent c k => exact ⟨of_eq _ (by rw [perform, continueSend_eq]; rfl), continueSend_untold c k d n (hn.2 c)⟩
  | waitList p => exact (serveWaitList_untold p d n).imp_left (of_eq _)
  | offers p =>
    refine ⟨offerOne_sameReport env p d n, fun u hu => ?_⟩
    rcases offerOne_tasks env p d with h | h <;> rw [perform, h] at hu <;> simp only [List.mem_cons, List.not_mem_nil, or_false] at hu
    rcases hu with rfl | rfl <;> exact id
  | grant p =>
    refine ⟨grant_sameReport env p d n, fun u hu => ?_⟩
    rcases grant_tasks env p d with h | h | h <;> rw [perform, h] at hu <;>
      simp only [List.mem_cons, List.not_mem_nil, or_false] at hu <;> subst hu <;> exact id
  | freed p =>
    refine ⟨.refl _, fun u hu => ?_⟩
    simp only [perform, List.mem_singleton] at hu
    subst hu; exact id

/-- Through a cascade that does not tell of source n its entry keeps its report. -/
theorem settle_untold (env : Env) (n : Fin 20) (hn : OutsideCascade n) (m : Nat) (ts : List Task) (d : Delivery)
    (ht : ∀ t ∈ ts, ¬ t.tells n) : SameReport (d.alert n) ((settle env m ts d).alert n) :=
  settle_keeps env (fun x => SameReport (d.alert n) (x.alert n)) (fun t => ¬ t.tells n)
    (fun t x ht hx => (perform_untold env n hn t x ht).imp_left hx.trans) m ts d ht (.refl _)

/-- An occurrence raised by another block is counted once, and its entry keeps condition and detail (R154). -/
theorem raise_alert (s : State) (n : Fin 20) (hn : OutsideCascade n) (detail : Nat) :
    ((s.raise n detail).dlv.alert n).occurrences = (s.dlv.alert n).occurrences + 1 := by
  have hnew : ∀ u ∈ follow (recordEdge n (BitVec.ofNat 32 detail) s.dlv).2 [], ¬ u.tells n := by
    intro u hu
    rw [mem_follow] at hu
    rcases hu with hu | hu
    · rw [recordEdge] at hu
      split at hu
      · exact sourceTriggers_untold s.dlv n n u hu
      · rcases List.mem_append.mp hu with hu | hu
        · exact sourceTriggers_untold s.dlv n n u hu
        · rw [List.mem_singleton] at hu; subst hu; exact id
    · simp at hu
  have hfirst : ((recordEdge n (BitVec.ofNat 32 detail) s.dlv).1.alert n).occurrences = (s.dlv.alert n).occurrences + 1 := by
    rw [recordEdge]
    split <;> simp [AlertEntry.occur]
  rw [State.raise, run_cons]
  exact (settle_untold s.env n hn 4095 _ _ hnew).2.2.2.trans hfirst

/-- Reports taken as the first task of a cascade that tells of the source no more stand when it is done (R155). -/
theorem settle_reported (env : Env) (r : LevelReport) (hn : OutsideCascade r.number) (m : Nat) (ts : List Task)
    (d : Delivery) (ht : ∀ t ∈ ts, ¬ t.tells r.number) :
    ((settle env (m + 1) (.levels [r] :: ts) d).alert r.number).active = r.active ∧
      ((settle env (m + 1) (.levels [r] :: ts) d).alert r.number).detail = r.detail := by
  have hnew : ∀ u ∈ follow (recordLevels [r] d).2 ts, ¬ u.tells r.number := by
    intro u hu
    rw [mem_follow] at hu
    rcases hu with hu | hu
    · rw [recordLevels] at hu
      rcases List.mem_append.mp hu with hu | hu
      · obtain ⟨x, -, hx⟩ := List.mem_flatMap.mp hu
        exact sourceTriggers_untold d x.number r.number u hx
      · obtain ⟨x, -, rfl⟩ := List.mem_map.mp hu
        exact id
    · exact ht u hu
  have hfirst : (recordLevels [r] d).1.alert r.number = (d.alert r.number).level r := by
    simp [recordLevels]
  have hlevel : ((d.alert r.number).level r).active = r.active ∧ ((d.alert r.number).level r).detail = r.detail := by
    rw [AlertEntry.level]
    split
    · rename_i h
      simp only [Bool.and_eq_true] at h
      exact ⟨h.1.symm, rfl⟩
    · exact ⟨rfl, rfl⟩
  rw [settle_cons, perform]
  obtain ⟨-, hact, hdet, -⟩ := settle_untold env r.number hn m _ (recordLevels [r] d).1 hnew
  rw [hact, hdet, hfirst]
  exact hlevel

/-! ## The entry offered first (R156) -/

/-- The search keeps an entry for each entry ready so far, so what it finds is ready and names the port. -/
theorem bestReady_eq_argmax (floor : Nat) (p : Port) (d : Delivery) :
    bestReady floor p d =
      ((List.finRange 20).filter fun n => (d.alert n).ready floor n && decide ((d.alert n).cfg.port = p)).argmax
        fun n => (d.alert n).cfg.level := by
  rw [bestReady, List.argmax, List.foldl_filter]
  congr 1
  funext best n
  cases best <;> rfl

theorem bestReady_ready (floor : Nat) (p : Port) (d : Delivery) (n : Fin 20) (h : bestReady floor p d = some n) :
    (d.alert n).ready floor n = true := by
  rw [bestReady_eq_argmax] at h
  have hmem := List.mem_filter.mp (List.argmax_mem h)
  simp only [Bool.and_eq_true] at hmem
  exact hmem.2.1

/-! ## Offers and grants come to an end -/

/-- The task offers frames to a port or grants its transmitter. -/
def Task.quiet : Task → Bool
  | .offers _ => true
  | .grant _ => true
  | .edge _ _ => false
  | .levels _ => false
  | .queueHigh => false
  | .trigger _ => false
  | .attempt _ _ => false
  | .sent _ _ => false
  | .waitList _ => false
  | .freed _ => false

/-- The entries that are ready (R156). -/
def readySet (floor : Nat) (d : Delivery) : Finset (Fin 20) := Finset.univ.filter fun n => (d.alert n).ready floor n = true

/-- 1 for a port whose transmitter is free. -/
def freeCount (q : PortState) : Nat := if q.free then 1 else 0

/-- How many frames offers can still build, and how many grants the ports can still make. -/
def slack (floor : Nat) (d : Delivery) : Nat := (readySet floor d).card + freeCount d.portA + freeCount d.portB

theorem mem_readySet (floor : Nat) (d : Delivery) (n : Fin 20) : n ∈ readySet floor d ↔ (d.alert n).ready floor n = true := by
  simp [readySet]

theorem freeCount_le_one (q : PortState) : freeCount q ≤ 1 := by rw [freeCount]; split <;> omega

theorem slack_le (floor : Nat) (d : Delivery) : slack floor d ≤ 22 := by
  have hcard : (readySet floor d).card ≤ 20 := (Finset.card_le_univ _).trans (by simp)
  have ha := freeCount_le_one d.portA
  have hb := freeCount_le_one d.portB
  unfold slack
  omega

/-- No move frees a transmitter. -/
theorem PortMove.freeCount_le {v : PerClass Nat} {q r : PortState} (h : PortMove v q r) : freeCount r ≤ freeCount q := by
  cases hq : q.free with
  | true => rw [freeCount, freeCount, hq, if_pos rfl]; split <;> omega
  | false =>
    have hr : r.free = false := by rw [(h.of_busy hq).1]; exact hq
    rw [freeCount, freeCount, hq, hr]

/-- An entry whose frame has been built is not ready. -/
theorem AlertEntry.ready_afterBuild (floor : Nat) (n m : Fin 20) (p : Port) (e : AlertEntry) :
    (e.afterBuild m p).ready floor n = false := by
  simp [AlertEntry.ready, AlertEntry.afterBuild]

/-- An entry whose frame has been handed over is not ready (R159). -/
theorem AlertEntry.ready_afterHandOver (floor : Nat) (n : Fin 20) (e : AlertEntry) : (e.afterHandOver n).ready floor n = false := by
  rw [AlertEntry.afterHandOver]
  split
  · rename_i h; simp [AlertEntry.ready, h]
  · rename_i h; simp [AlertEntry.ready, h]

/-- An entry that is not ready replaces another: the ready entries are those of before without it. -/
theorem readySet_setAlert (floor : Nat) (d : Delivery) (n : Fin 20) (x : AlertEntry) (h : x.ready floor n = false) :
    readySet floor (d.setAlert n x) = (readySet floor d).erase n := by
  ext m
  rw [Finset.mem_erase, mem_readySet, mem_readySet]
  by_cases e : m = n
  · subst e; simp [h]
  · rw [Delivery.setAlert_alert_other d n m x e]; simp [e]

theorem readySet_setPort (floor : Nat) (d : Delivery) (p : Port) (q : PortState) :
    readySet floor (d.setPort p q) = readySet floor d := by
  ext m; rw [mem_readySet, mem_readySet, Delivery.setPort_alert]

theorem grant_readySet_subset (env : Env) (floor : Nat) (p : Port) (d : Delivery) :
    readySet floor (grant env p d).1 ⊆ readySet floor d := by
  rw [grant]
  split
  · exact Finset.Subset.refl _
  · split
    · split
      · exact Finset.Subset.refl _
      · rw [readySet_setPort]
    · split
      · exact Finset.Subset.refl _
      · rename_i win _
        cases win with
        | alert =>
          simp only [grantLocal]
          split
          · exact Finset.Subset.refl _
          · rw [readySet_setAlert _ _ _ _ (AlertEntry.ready_afterHandOver _ _ _), readySet_setPort]
            exact Finset.erase_subset _ _
        | reply =>
          simp only [grantLocal]
          split
          · exact Finset.Subset.refl _
          · rw [readySet_setPort]
        | report =>
          simp only [grantLocal]
          split
          · exact Finset.Subset.refl _
          · rw [readySet_setPort]

/-- A grant that brings something about has started an ALERT or a RECORD frame on a free transmitter. -/
theorem grant_takes (env : Env) (p : Port) (d : Delivery) (h : (grant env p d).2 ≠ []) :
    (d.port p).free = true ∧ ((∃ f, ((grant env p d).1.port p).tx = some (.alert f)) ∨
      ∃ f, ((grant env p d).1.port p).tx = some (.report f)) := by
  cases hf : (d.port p).free with
  | false => rw [grant_busy env p d hf] at h; exact absurd rfl h
  | true =>
    refine ⟨rfl, ?_⟩
    revert h
    rw [grant, hf]
    simp only [Bool.not_true, Bool.false_eq_true, if_false]
    split
    · split
      · exact fun h => absurd rfl h
      · exact fun h => absurd rfl h
    · split
      · exact fun h => absurd rfl h
      · rename_i win _
        cases win with
        | alert =>
          simp only [grantLocal]
          split
          · exact fun h => absurd rfl h
          · intro _; rw [Delivery.setAlert_port, Delivery.setPort_port_same]; exact .inl ⟨_, rfl⟩
        | reply =>
          simp only [grantLocal]
          split
          · exact fun h => absurd rfl h
          · exact fun h => absurd rfl h
        | report =>
          simp only [grantLocal]
          split
          · exact fun h => absurd rfl h
          · intro _; rw [Delivery.setPort_port_same]; exact .inr ⟨_, rfl⟩

/-- An offer that is accepted uses up a ready entry. -/
theorem offerOne_slack (env : Env) (p : Port) (d : Delivery) :
    2 * slack env.floor (offerOne env p d).1 + (offerOne env p d).2.length ≤ 2 * slack env.floor d := by
  have hmove := offerOne_portMove env p d
  have ha : freeCount (offerOne env p d).1.portA ≤ freeCount d.portA := (hmove .a).freeCount_le
  have hb : freeCount (offerOne env p d).1.portB ≤ freeCount d.portB := (hmove .b).freeCount_le
  by_cases hr : bestReady env.floor p d = none ∨ (d.port p).up = false ∨ Config.alertRoom ≤ (d.port p).alertQ.length
  · rw [offerOne_none env p d hr]; simp
  · simp only [not_or, Bool.not_eq_false, Nat.not_le] at hr
    obtain ⟨n, hn⟩ := Option.ne_none_iff_exists'.mp hr.1
    have hready : n ∈ readySet env.floor d := (mem_readySet _ _ _).mpr (bestReady_ready _ _ _ _ hn)
    have hset : readySet env.floor (offerOne env p d).1 = (readySet env.floor d).erase n := by
      rw [offerOne_built env p d n hn hr.2.1 hr.2.2, readySet_setAlert _ _ _ _ (AlertEntry.ready_afterBuild _ _ _ _ _),
        readySet_setPort]
    have hcard : (readySet env.floor (offerOne env p d).1).card + 1 = (readySet env.floor d).card := by
      rw [hset]; exact Finset.card_erase_add_one hready
    have hlen : (offerOne env p d).2.length ≤ 2 := by rcases offerOne_tasks env p d with h | h <;> simp [h]
    unfold slack
    omega

/-- A grant that brings something about uses up a free transmitter. -/
theorem grant_slack (env : Env) (p : Port) (d : Delivery) :
    2 * slack env.floor (grant env p d).1 + (grant env p d).2.length ≤ 2 * slack env.floor d := by
  have hmove := grant_portMove env p d
  have ha : freeCount (grant env p d).1.portA ≤ freeCount d.portA := (hmove .a).freeCount_le
  have hb : freeCount (grant env p d).1.portB ≤ freeCount d.portB := (hmove .b).freeCount_le
  have hcard := Finset.card_le_card (grant_readySet_subset env env.floor p d)
  by_cases he : (grant env p d).2 = []
  · rw [he, List.length_nil]
    unfold slack
    omega
  · have hlen : (grant env p d).2.length ≤ 1 := by rcases grant_tasks env p d with h | h | h <;> simp [h]
    obtain ⟨hbefore, htx⟩ := grant_takes env p d he
    have hafter : ((grant env p d).1.port p).free = false :=
      not_free_of_tx _ (by rcases htx with ⟨f, h⟩ | ⟨f, h⟩ <;> rw [h] <;> rfl)
    have hp : freeCount ((grant env p d).1.port p) + 1 = freeCount (d.port p) := by simp [freeCount, hbefore, hafter]
    unfold slack
    cases p
    · change freeCount (grant env .a d).1.portA + 1 = freeCount d.portA at hp
      omega
    · change freeCount (grant env .b d).1.portB + 1 = freeCount d.portB at hp
      omega

/-- An offer and a grant bring about offers and grants, and beside them only a freed place, which stands back. -/
theorem quiet_step (env : Env) (t : Task) (d : Delivery) (ht : t.quiet = true) :
    2 * slack env.floor (perform env t d).1 + (perform env t d).2.length ≤ 2 * slack env.floor d ∧
      (∀ u ∈ (perform env t d).2, u.deferred = false → u.quiet = true) ∧
        ∀ u ∈ (perform env t d).2, u.deferred = true → ∃ p, u = .freed p := by
  have hnew : 2 * slack env.floor (perform env t d).1 + (perform env t d).2.length ≤ 2 * slack env.floor d ∧
      ∀ u ∈ (perform env t d).2, u.quiet = true ∨ ∃ p, u = .freed p := by
    cases t with
    | offers p =>
      refine ⟨offerOne_slack env p d, fun u hu => .inl ?_⟩
      rcases offerOne_tasks env p d with h | h <;> rw [perform, h] at hu <;>
        simp only [List.mem_cons, List.not_mem_nil, or_false] at hu
      rcases hu with rfl | rfl <;> rfl
    | grant p =>
      refine ⟨grant_slack env p d, fun u hu => ?_⟩
      rcases grant_tasks env p d with h | h | h <;> rw [perform, h] at hu <;>
        simp only [List.mem_cons, List.not_mem_nil, or_false] at hu
      · exact .inl (by rw [hu]; rfl)
      · exact .inr ⟨p, hu⟩
    | _ => simp [Task.quiet] at ht
  refine ⟨hnew.1, fun u hu hd => (hnew.2 u hu).resolve_right ?_, fun u hu hd => (hnew.2 u hu).resolve_left ?_⟩
  · rintro ⟨p, rfl⟩; simp [Task.deferred] at hd
  · intro hq; cases u <;> simp [Task.deferred, Task.quiet] at hd hq

/-- Offers and grants at the head of a cascade are done after a few tasks: 2 for each frame an offer can still build and
each grant a port can still make, and 1 for each that stands there. What has been freed stands behind the rest. -/
theorem settle_drain (env : Env) (w : Nat) : ∀ (ts rest : List Task) (d : Delivery) (n : Nat), (∀ t ∈ ts, t.quiet = true) →
    2 * slack env.floor d + ts.length ≤ w →
      ∃ (x : Delivery) (late : List Task) (k : Nat), settle env (n + w) (ts ++ rest) d = settle env (n + k) (rest ++ late) x ∧
        ∀ t ∈ late, ∃ p, t = .freed p := by
  induction w with
  | zero =>
    intro ts rest d n _ hw
    have : ts = [] := List.eq_nil_of_length_eq_zero (by omega)
    subst this
    exact ⟨d, [], 0, by simp, by simp⟩
  | succ w ih =>
    intro ts rest d n hts hw
    cases ts with
    | nil => exact ⟨d, [], w + 1, by simp, by simp⟩
    | cons t ts =>
      obtain ⟨hslack, hquiet, hlate⟩ := quiet_step env t d (hts t List.mem_cons_self)
      rw [List.length_cons] at hw
      have hlen := List.length_filter_le (fun u : Task => !u.deferred) (perform env t d).2
      obtain ⟨x, late, k, heq, hall⟩ := ih ((perform env t d).2.filter (fun u => !u.deferred) ++ ts)
        (rest ++ (perform env t d).2.filter Task.deferred) (perform env t d).1 n
        (fun u hu => by
          rcases List.mem_append.mp hu with hu | hu
          · rw [List.mem_filter] at hu
            exact hquiet u hu.1 (by simpa using hu.2)
          · exact hts u (List.mem_cons_of_mem _ hu))
        (by rw [List.length_append]; omega)
      refine ⟨x, (perform env t d).2.filter Task.deferred ++ late, k, ?_, fun u hu => ?_⟩
      · rw [List.cons_append, ← Nat.add_assoc, settle_cons, follow, ← List.append_assoc rest, ← heq]
        simp only [List.append_assoc]
      · rcases List.mem_append.mp hu with hu | hu
        · rw [List.mem_filter] at hu
          exact hlate u hu.1 hu.2
        · exact hall u hu

end Sys2Proof.Machine
end

section
/-! SUPPORT. The arbiter: the class a local grant picks, and what each grant leaves (R11 to R13, R156). -/

namespace Sys2Proof.Machine

/-- A filter keeps the order of the elements that pass it. -/
theorem idxOf_filter_le_iff {α : Type} [DecidableEq α] (f : α → Bool) {a b : α} (ha : f a = true) (hb : f b = true)
    (l : List α) : (l.filter f).idxOf a ≤ (l.filter f).idxOf b ↔ l.idxOf a ≤ l.idxOf b := by
  induction l with
  | nil => simp
  | cons x l ih =>
    by_cases hxa : x = a
    · subst hxa; simp [List.filter_cons_of_pos ha]
    · by_cases hxb : x = b
      · subst hxb
        rw [List.filter_cons_of_pos hb, List.idxOf_cons_ne _ hxa, List.idxOf_cons_self, List.idxOf_cons_ne _ hxa,
          List.idxOf_cons_self]
        simp
      · rw [List.idxOf_cons_ne _ hxa, List.idxOf_cons_ne _ hxb]
        by_cases hx : f x = true
        · rw [List.filter_cons_of_pos hx, List.idxOf_cons_ne _ hxa, List.idxOf_cons_ne _ hxb]
          omega
        · rw [List.filter_cons_of_neg hx]
          omega

/-! ## The class picked (R13) -/

theorem mem_classOrder (last : Option EgressClass) (c : EgressClass) : c ∈ classOrder last := by
  rcases last with _ | last
  · cases c <;> decide
  · cases last <;> cases c <;> decide

theorem localWaiting_iff (q : PortState) : q.localWaiting = true ↔ ∃ c, q.classWaiting c = true := by
  constructor
  · intro h
    simp only [PortState.localWaiting, Bool.not_and, Bool.or_eq_true] at h
    rcases h with (h | h) | h
    · exact ⟨.alert, h⟩
    · exact ⟨.reply, h⟩
    · exact ⟨.report, h⟩
  · rintro ⟨c, hc⟩
    cases c <;> simp only [PortState.classWaiting] at hc <;> simp [PortState.localWaiting, hc]

theorem localWaiting_false_iff (q : PortState) :
    q.localWaiting = false ↔ q.alertQ = [] ∧ q.replyQ = [] ∧ q.reportQ = [] := by
  simp [PortState.localWaiting, and_assoc]

theorem pickClass_eq_argmin (q : PortState) :
    pickClass q = ((classOrder q.lastWinner).filter q.classWaiting).argmin q.current.get := by
  rw [pickClass, List.argmin]
  congr 1
  funext best c
  cases best <;> rfl

theorem pickClass_none_iff (q : PortState) : pickClass q = none ↔ q.localWaiting = false := by
  rw [pickClass_eq_argmin, List.argmin_eq_none, List.filter_eq_nil_iff, ← Bool.not_eq_true, localWaiting_iff, not_exists]
  exact ⟨fun h c => h c (mem_classOrder _ c), fun h c _ => h c⟩

theorem pickClass_waiting (q : PortState) (c : EgressClass) (h : pickClass q = some c) : q.classWaiting c = true := by
  rw [pickClass_eq_argmin] at h
  exact (List.mem_filter.mp (List.argmin_mem h)).2

/-- The class picked has the lowest current value, and is the first of these in the circular order. -/
theorem pickClass_lowest (q : PortState) (c b : EgressClass) (h : pickClass q = some c) (hb : q.classWaiting b = true) :
    q.current.get c ≤ q.current.get b ∧
      (q.current.get b = q.current.get c → (classOrder q.lastWinner).idxOf c ≤ (classOrder q.lastWinner).idxOf b) := by
  have hc := pickClass_waiting q c h
  rw [pickClass_eq_argmin] at h
  obtain ⟨-, hle, hfirst⟩ := List.mem_argmin_iff.mp (Option.mem_def.mpr h)
  have hmem : b ∈ (classOrder q.lastWinner).filter q.classWaiting := List.mem_filter.mpr ⟨mem_classOrder _ b, hb⟩
  exact ⟨hle b hmem, fun e => (idxOf_filter_le_iff q.classWaiting hc hb _).mp (hfirst b hmem e.le)⟩

/-! ## What a grant leaves -/

theorem grantsPass_false (q : PortState) (hl : q.localWaiting = true) (h : q.pass = [] ∨ q.passCount = 3) :
    grantsPass q = false := by
  rcases h with h | h <;> simp [grantsPass, hl, h]

theorem grantsPass_true (q : PortState) (hp : q.pass ≠ []) (h : q.localWaiting = false ∨ q.passCount < 3) :
    grantsPass q = true := by
  rcases h with h | h <;> simp [grantsPass, hp, h]

/-- With nothing waiting no grant is made. -/
theorem grant_nothing (env : Env) (p : Port) (d : Delivery) (hp : (d.port p).pass = [])
    (hl : (d.port p).localWaiting = false) : grant env p d = (d, []) := by
  rw [grant]
  split
  · rfl
  · simp [grantsPass, hp, (pickClass_none_iff _).mpr hl]

theorem grantLocal_alert (env : Env) (p : Port) (d : Delivery) (f : AlertFrame) (rest : List AlertFrame)
    (h : (d.port p).alertQ = f :: rest) :
    grantLocal env p .alert d =
      ((d.setPort p { afterLocalGrant env.priority (d.port p) .alert with alertQ := rest, tx := some (.alert f) }).setAlert
        f.number ((d.alert f.number).afterHandOver f.number), [.offers p]) := by
  simp [grantLocal, h]

theorem grantLocal_reply (env : Env) (p : Port) (d : Delivery) (f : ReplyFrame) (rest : List ReplyFrame)
    (h : (d.port p).replyQ = f :: rest) :
    grantLocal env p .reply d =
      (d.setPort p { afterLocalGrant env.priority (d.port p) .reply with replyQ := rest, tx := some (.reply f) }, []) := by
  simp [grantLocal, h]

theorem grantLocal_report (env : Env) (p : Port) (d : Delivery) (f : RecordFrame) (rest : List RecordFrame)
    (h : (d.port p).reportQ = f :: rest) :
    grantLocal env p .report d =
      (d.setPort p { afterLocalGrant env.priority (d.port p) .report with reportQ := rest, tx := some (.report f) }, [.freed p]) := by
  simp [grantLocal, h]

/-- The winner takes its initial value (R13, 2). -/
theorem afterLocalGrant_winner (v : PerClass Nat) (q : PortState) (c : EgressClass) :
    (afterLocalGrant v q c).current.get c = v.get c := by cases c <;> rfl

/-- Every other waiting class is lowered by 1 (R13, 3). -/
theorem afterLocalGrant_other (v : PerClass Nat) (q : PortState) (c b : EgressClass) (h : b ≠ c) :
    (afterLocalGrant v q c).current.get b = if q.classWaiting b = true then q.current.get b - 1 else q.current.get b := by
  have hb : (afterLocalGrant v q c).current.get b = currentAfter v q c b := by cases b <;> rfl
  rw [hb, currentAfter, if_neg h]

/-- An entry handed over, in a whole table of entries (R159). -/
theorem setAlert_afterHandOver_alerts (d : Delivery) (n : Fin 20) (e : AlertEntry) :
    (d.setAlert n (e.afterHandOver n)).alerts = d.alerts.set n (if isLevel n
      then { e with queuedOn := none, awaiting := true, frames := e.frames + 1 }
      else { e with queuedOn := none, pending := none, count := 0, frames := e.frames + 1 }) := by
  rw [Delivery.setAlert, AlertEntry.afterHandOver]

theorem exists_cons_of_isEmpty_false {α : Type} {l : List α} (h : (!l.isEmpty) = true) : ∃ a rest, l = a :: rest := by
  cases l with
  | nil => simp at h
  | cons a rest => exact ⟨a, rest, rfl⟩

/-- A free transmitter with a frame waiting is taken by the grant. -/
theorem grant_transmits (env : Env) (p : Port) (d : Delivery) (hf : (d.port p).free = true)
    (hw : ¬ NothingWaits (d.port p)) : ((grant env p d).1.port p).tx.isSome = true := by
  cases hg : grantsPass (d.port p) with
  | true =>
    obtain ⟨f, rest, hq⟩ := exists_cons_of_isEmpty_false (Bool.and_eq_true_iff.mp hg).1
    rw [grant_pass env p d f rest hf hg hq, Delivery.setPort_port_same]; rfl
  | false =>
    have hl : (d.port p).localWaiting = true := by
      rw [← Bool.not_eq_false, localWaiting_false_iff]
      intro hl
      refine hw ⟨?_, hl⟩
      by_contra hne
      rw [grantsPass_true _ hne (.inl ((localWaiting_false_iff _).mpr hl))] at hg
      simp at hg
    obtain ⟨c, hc⟩ := Option.ne_none_iff_exists'.mp fun hn => by
      rw [pickClass_none_iff, hl] at hn; simp at hn
    have hcw := pickClass_waiting _ c hc
    rw [grant_local env p d c hf hg hc]
    cases c with
    | alert =>
      obtain ⟨f, rest, hq⟩ := exists_cons_of_isEmpty_false hcw
      rw [grantLocal_alert env p d f rest hq, Delivery.setAlert_port, Delivery.setPort_port_same]; rfl
    | reply =>
      obtain ⟨f, rest, hq⟩ := exists_cons_of_isEmpty_false hcw
      rw [grantLocal_reply env p d f rest hq, Delivery.setPort_port_same]; rfl
    | report =>
      obtain ⟨f, rest, hq⟩ := exists_cons_of_isEmpty_false hcw
      rw [grantLocal_report env p d f rest hq, Delivery.setPort_port_same]; rfl

/-- Settles O13: the arbiter's choice is the least current value in the circular order, and each branch of a grant writes
the port once. -/
theorem grantsFollowCounterAndPriorities : Obligations.GrantsFollowCounterAndPriorities := by
  refine ⟨fun env p d => ⟨grant_busy env p d, fun hf hmax => ⟨?_, ?_, ?_, ?_, ?_⟩,
    (grant_frame env p d).2.2.2 _ (otherPort_ne p), (grant_frame env p d).2.1, (grant_frame env p d).1⟩,
    fun q => ⟨pickClass_none_iff q, fun c hc => ⟨pickClass_waiting q c hc, fun b hb => pickClass_lowest q c b hc hb⟩⟩⟩
  · intro f rest hq hl
    rw [grant_pass env p d f rest hf (grantsPass_true _ (by simp [hq]) (.inl hl)) hq, Delivery.setPort_port_same]
    simp [hl]
  · intro f rest hq hl hc
    rw [grant_pass env p d f rest hf (grantsPass_true _ (by simp [hq]) (.inr hc)) hq, Delivery.setPort_port_same]
    simp [hl]
  · intro hl hp
    have hg := grantsPass_false _ hl hp
    obtain ⟨c, hc⟩ := Option.ne_none_iff_exists'.mp fun hn => by
      rw [pickClass_none_iff, hl] at hn; simp at hn
    have hcw := pickClass_waiting _ c hc
    refine ⟨c, hc, ?_⟩
    rw [grant_local env p d c hf hg hc]
    have hwin := afterLocalGrant_winner env.priority (d.port p) c
    have hother := afterLocalGrant_other env.priority (d.port p) c
    cases c with
    | alert =>
      obtain ⟨f, rest, hq⟩ := exists_cons_of_isEmpty_false hcw
      rw [grantLocal_alert env p d f rest hq, Delivery.setAlert_port, Delivery.setPort_port_same]
      refine ⟨rfl, rfl, hwin, hother, fun _ => ⟨f, rest, hq, rfl, rfl, rfl, rfl, rfl, ?_⟩, fun h => absurd rfl h,
        fun h => by simp at h, fun h => by simp at h, rfl, rfl, rfl, rfl⟩
      rw [setAlert_afterHandOver_alerts, Delivery.setPort_alerts]
    | reply =>
      obtain ⟨f, rest, hq⟩ := exists_cons_of_isEmpty_false hcw
      rw [grantLocal_reply env p d f rest hq, Delivery.setPort_port_same]
      exact ⟨rfl, rfl, hwin, hother, fun h => by simp at h, fun _ => Delivery.setPort_alerts d p _,
        fun _ => ⟨f, rest, hq, rfl, rfl, rfl, rfl⟩, fun h => by simp at h, rfl, rfl, rfl, rfl⟩
    | report =>
      obtain ⟨f, rest, hq⟩ := exists_cons_of_isEmpty_false hcw
      rw [grantLocal_report env p d f rest hq, Delivery.setPort_port_same]
      exact ⟨rfl, rfl, hwin, hother, fun h => by simp at h, fun _ => Delivery.setPort_alerts d p _,
        fun h => by simp at h, fun _ => ⟨f, rest, hq, rfl, rfl, rfl, rfl⟩, rfl, rfl, rfl, rfl⟩
  · intro hp hl
    obtain ⟨f, rest, hq⟩ := List.exists_cons_of_ne_nil hp
    rw [grant_pass env p d f rest hf (grantsPass_true _ hp hl) hq, Delivery.setPort_alerts]
  · exact grant_nothing env p d

end Sys2Proof.Machine
end

section
/-! SUPPORT. The rows of the links, of the receive side and of the transmitter (chapter 1). -/

namespace Sys2Proof.Machine

/-! ## The agent's attempt, and the rows outside reset -/

theorem State.agentRun_nil (s : State) (h : s.agent.queue = []) : s.agentRun = s := by
  rw [State.agentRun, h]; rfl

/-- A head that must wait holds the agent (R170). -/
theorem State.agentRun_waits (s : State) (h : AgentWaits s) : s.agentRun = s := by
  rw [State.agentRun]
  cases hq : s.agent.queue with
  | nil => rfl
  | cons r rest =>
    have hc : canTake s r = false := h r (by rw [hq]; rfl)
    simp [State.agentLoop, hq, hc]

/-- Whether a request may be taken depends on the link and the REPLY queue of its port alone. -/
theorem canTake_congr {s t : State} (r : Request) (h : ∀ p, (t.dlv.port p).up = (s.dlv.port p).up ∧
    (t.dlv.port p).replyQ = (s.dlv.port p).replyQ) : canTake t r = canTake s r := by
  rw [canTake, canTake, (h r.port).1, (h r.port).2]

theorem State.event_out_of_reset (s : State) (f : State → State) (h : s.inReset = false) : s.event f = .next (f s) := by
  rw [State.event, h]; rfl

theorem exec_frameReceived (s : State) (p : Port) (f : List Byte) (h : s.inReset = false) (hu : (s.dlv.port p).up = true) :
    exec (.frameReceived p f) s = .next (s.receive p f).agentRun := by
  rw [exec, execFrameReceived, State.event_out_of_reset s _ h, if_pos hu]

/-! ## The link condition (R18) -/

/-- LINK_DOWN while a port is DOWN tells that port and, when it is DOWN too, the other. -/
theorem linkDownReport_down (d : Delivery) (p : Port) (h : (d.port p).up = false) :
    linkDownReport d =
      { number := 19, active := true
        detail := BitVec.ofNat 32 (2 ^ portCode p + if (d.port (otherPort p)).up then 0 else 2 ^ portCode (otherPort p)) } := by
  cases p
  · change d.portA.up = false at h
    change _ = ({ number := 19, active := true, detail := BitVec.ofNat 32 (1 + if d.portB.up then 0 else 2) } : LevelReport)
    cases hb : d.portB.up <;> simp [linkDownReport, bitAt, h, hb]
  · change d.portB.up = false at h
    change _ = ({ number := 19, active := true, detail := BitVec.ofNat 32 (2 + if d.portA.up then 0 else 1) } : LevelReport)
    cases ha : d.portA.up <;> simp [linkDownReport, bitAt, h, ha]

/-- LINK_DOWN while a port is UP tells the other port alone, when that is DOWN. -/
theorem linkDownReport_up (d : Delivery) (p : Port) (h : (d.port p).up = true) :
    linkDownReport d =
      { number := 19, active := !(d.port (otherPort p)).up
        detail := if (d.port (otherPort p)).up then 0 else BitVec.ofNat 32 (2 ^ portCode (otherPort p)) } := by
  cases p
  · change d.portA.up = true at h
    change _ = ({ number := 19, active := !d.portB.up, detail := if d.portB.up then 0 else BitVec.ofNat 32 2 } : LevelReport)
    cases hb : d.portB.up <;> simp [linkDownReport, bitAt, h, hb]
  · change d.portB.up = true at h
    change _ = ({ number := 19, active := !d.portA.up, detail := if d.portA.up then 0 else BitVec.ofNat 32 1 } : LevelReport)
    cases ha : d.portA.up <;> simp [linkDownReport, bitAt, h, ha]

theorem outsideCascade_linkDown : OutsideCascade 19 := by unfold OutsideCascade; decide

/-! ## LINK_UP (R17, R18) -/

/-- Settles O5: the LINK_DOWN report is the first task of the row's cascade, and nothing after it speaks of source 19 or
moves a link. -/
theorem linkUpRaisesThePort : Obligations.LinkUpRaisesThePort := by
  intro s p hr
  have hexec : exec (.linkUp p) s = .next (if (s.dlv.port p).up then s else s.linkUp p) := by
    rw [exec, execLinkUp, State.event_out_of_reset s _ hr]
  refine ⟨fun hu => by rw [hexec, if_pos hu], fun hd => ⟨s.linkUp p, by rw [hexec, if_neg (by simp [hd])], ?_⟩⟩
  have hother : ((s.dlv.modPort p fun q => { q with up := true }).port (otherPort p)) = s.dlv.port (otherPort p) :=
    Delivery.modPort_port_other _ _ _ _ (otherPort_ne p)
  have hreport := linkDownReport_up (s.dlv.modPort p fun q => { q with up := true }) p (by rw [Delivery.modPort_port_same])
  rw [hother] at hreport
  have hlater : ∀ t ∈ [Task.grant p, .offers p, .waitList p], ¬ t.tells 19 := by
    intro t ht
    simp only [List.mem_cons, List.not_mem_nil, or_false] at ht
    rcases ht with rfl | rfl | rfl <;> exact id
  have htold := settle_reported s.env (linkDownReport (s.dlv.modPort p fun q => { q with up := true }))
    outsideCascade_linkDown 4095 _ (s.dlv.modPort p fun q => { q with up := true }) hlater
  refine ⟨?_, ?_, htold.1.trans (congrArg (·.active) hreport), htold.2.trans (congrArg (·.detail) hreport), rfl⟩
  · rw [State.linkUp, run_up, Delivery.modPort_port_same]
  · rw [State.linkUp, run_up, hother]

/-! ## LINK_DOWN (R2, R15, R163) -/

theorem Delivery.restoreAlerts_alert_other (l : List AlertFrame) (n : Fin 20) (d : Delivery) (h : ∀ f ∈ l, f.number ≠ n) :
    (d.restoreAlerts l).alert n = d.alert n := by
  induction l generalizing d with
  | nil => rfl
  | cons f l ih =>
    rw [Delivery.restoreAlerts, List.foldl_cons, ← Delivery.restoreAlerts, ih _ fun g hg => h g (List.mem_cons_of_mem _ hg)]
    exact Delivery.setAlert_alert_other d f.number n _ (Ne.symm (h f List.mem_cons_self))

/-- The one frame of its entry among those returned gives the entry back what R163 says. -/
theorem Delivery.restoreAlerts_alert_same (before behind : List AlertFrame) (f : AlertFrame) (d : Delivery)
    (h : ∀ g ∈ before ++ behind, g.number ≠ f.number) :
    (d.restoreAlerts (before ++ f :: behind)).alert f.number = (d.alert f.number).restore f := by
  have hsplit : d.restoreAlerts (before ++ f :: behind) =
      ((d.restoreAlerts before).setAlert f.number (((d.restoreAlerts before).alert f.number).restore f)).restoreAlerts behind := by
    simp only [Delivery.restoreAlerts, List.foldl_append, List.foldl_cons]
  rw [hsplit, Delivery.restoreAlerts_alert_other behind _ _ fun g hg => h g (List.mem_append_right _ hg),
    Delivery.setAlert_alert_same,
    Delivery.restoreAlerts_alert_other before _ _ fun g hg => h g (List.mem_append_left _ hg)]

theorem AlertEntry.restore_eq (f : AlertFrame) (e : AlertEntry) :
    e.restore f = { e with
      queuedOn := none, restored := e.restored + 1
      pending := if isLevel f.number then e.pending else some f.detail
      count := if isLevel f.number then min (f.count + e.count) 255 else f.count
      awaiting := if isLevel f.number then false else e.awaiting } := by
  rw [AlertEntry.restore]
  cases isLevel f.number <;> rfl

/-- What a port has lost at its link down, and that it stands as at power-on otherwise (R15). -/
theorem PortState.down_spec (v : PerClass Nat) (receiving : Bool) (q : PortState) :
    (let r := q.down v receiving
     r.up = false ∧ r.tx = none ∧ NothingWaits r ∧ r.passCount = 0 ∧ r.current = v ∧ r.lastWinner = none ∧
     r.ctr.linkdownDrop = q.ctr.linkdownDrop +
       BitVec.ofNat 32 ((if q.tx.isSome then 1 else 0) + q.pass.length + q.alertQ.length + q.replyQ.length + q.reportQ.length) ∧
     r.ctr.recordsLost = q.ctr.recordsLost +
       BitVec.ofNat 32 ((q.tx.map TxFrame.recordCount).getD 0 + (q.reportQ.map fun f => f.records.length).sum) ∧
     r.rx = [] ∧ r.ctr.lengthErr = (if receiving = true ∨ q.rx ≠ [] then q.ctr.lengthErr + 1 else q.ctr.lengthErr) ∧
     r.ctr.txFrames = q.ctr.txFrames) := by
  refine ⟨rfl, rfl, ⟨rfl, rfl, rfl, rfl⟩, rfl, rfl, rfl, rfl, rfl, rfl, ?_, rfl⟩
  have hrx : (receiving || !q.rx.isEmpty) = true ↔ receiving = true ∨ q.rx ≠ [] := by simp
  simp only [PortState.down, PortCounters.linkDown, hrx]

/-- The LINK_DOWN report that a cascade of offers leads to is taken within the bound of a cascade, and stands at its end. -/
theorem run_offers_reported (s : State) (r : LevelReport) (hn : OutsideCascade r.number) :
    ((s.run [.offers .a, .offers .b, .levels [r]]).dlv.alert r.number).active = r.active ∧
      ((s.run [.offers .a, .offers .b, .levels [r]]).dlv.alert r.number).detail = r.detail := by
  have hquiet : ∀ t ∈ [Task.offers .a, .offers .b], t.quiet = true := by decide
  have hslack := slack_le s.env.floor s.dlv
  obtain ⟨x, late, k, heq, hlate⟩ := settle_drain s.env 46 [.offers .a, .offers .b] [.levels [r]] s.dlv 4050 hquiet
    (by simp only [List.length_cons, List.length_nil]; omega)
  have hrun : (s.run [.offers .a, .offers .b, .levels [r]]).dlv = settle s.env (4049 + k + 1) (.levels [r] :: late) x := by
    rw [show 4049 + k + 1 = 4050 + k by omega]; exact heq
  rw [hrun]
  refine settle_reported s.env r hn _ late x fun t ht => ?_
  obtain ⟨p, rfl⟩ := hlate t ht
  exact id

/-- Settles O6: the cascade that follows the link down finds the port empty and DOWN, so it moves nothing there, and its
offers are done long before the bound of a cascade, so the LINK_DOWN report is reached. -/
theorem linkDownEmptiesThePort : Obligations.LinkDownEmptiesThePort := by
  intro s p receiving hr
  have hexec : exec (.linkDown p receiving) s = .next (if (s.dlv.port p).up then s.linkDown p receiving else s) := by
    rw [exec, execLinkDown, State.event_out_of_reset s _ hr]
  refine ⟨fun hd => by rw [hexec, if_neg (by simp [hd])], fun hu => ?_⟩
  rw [hexec, if_pos hu]
  set d := s.dlv.linkDown s.device.priority p receiving with hd
  have hport : d.port p = (s.dlv.port p).down s.device.priority receiving := Delivery.linkDown_port_same _ _ _ _
  have hother : d.port (otherPort p) = s.dlv.port (otherPort p) := Delivery.linkDown_port_other _ _ _ _ _ (otherPort_ne p)
  have hreport : linkDownReport d = {
      number := 19, active := true
      detail := BitVec.ofNat 32 (2 ^ portCode p + if (s.dlv.port (otherPort p)).up then 0 else 2 ^ portCode (otherPort p)) } := by
    rw [linkDownReport_down d p (by rw [hport]; rfl), hother]
  have hrun : s.linkDown p receiving =
      (State.run { s with dlv := d } [.offers .a, .offers .b, .levels [linkDownReport d]]).agentRun := rfl
  rw [hreport] at hrun
  refine ⟨d, _, rfl, congrArg _ hrun, fun hq => ?_, ?_, ?_, ?_, hother, ?_, ?_, ?_, ?_, ?_, ?_, ?_, rfl⟩
  · rw [hrun]
    exact congrArg _ (State.agentRun_nil _ hq)
  · have hspec := PortState.down_spec s.device.priority receiving (s.dlv.port p)
    rw [← hport] at hspec
    rintro r (rfl | rfl)
    · exact hspec
    · rw [run_down_port { s with dlv := d } _ p hspec.1 hspec.2.2.1.2.1]
      exact hspec
  · intro n hn
    rw [hd, Delivery.linkDown, Delivery.restoreAlerts_alert_other _ n _ hn, Delivery.modPort_alert]
  · intro before f behind hq hne
    rw [hd, Delivery.linkDown, hq, Delivery.restoreAlerts_alert_same before behind f _ hne, Delivery.modPort_alert]
    exact AlertEntry.restore_eq f _
  · rw [hd, Delivery.linkDown_eq]; exact Delivery.setPort_channels _ _ _
  · rw [hd, Delivery.linkDown_eq]; exact Delivery.setPort_waitA _ _ _
  · rw [hd, Delivery.linkDown_eq]; exact Delivery.setPort_waitB _ _ _
  · exact Delivery.linkDown_recq _ _ _ _
  · exact (run_offers_reported { s with dlv := d } _ outsideCascade_linkDown).1
  · exact (run_offers_reported { s with dlv := d } _ outsideCascade_linkDown).2
  · exact (run_recq { s with dlv := d } _).2.trans (congrArg _ (Delivery.linkDown_recq _ _ _ _))

/-! ## FRAME_RECEIVED (R2 to R8) -/

/-- A frame leaving the receive buffer moves no link and no reply. -/
theorem received_agentWaits (s : State) (p : Port) (f : PortCounters → PortCounters) (h : AgentWaits s) :
    AgentWaits { s with dlv := s.dlv.received p f } := by
  intro r hr
  rw [canTake_congr (s := s) r fun o => ?_]
  · exact h r hr
  · by_cases e : o = p
    · subst e; simp [Delivery.received]
    · simp only [Delivery.received, Delivery.modPort_port_other _ _ _ _ e, and_self]

theorem verdict_lengthErr_iff (node : Node) (f : List Byte) : verdict node f = .lengthErr ↔ lengthOk f = false := by
  rw [verdict]
  cases lengthOk f with
  | false => simp
  | true =>
    simp only [Bool.not_true, Bool.false_eq_true, if_false, Bool.true_eq_false, iff_false]
    split
    · simp
    · split <;> simp

theorem lengthOk_iff (f : List Byte) : lengthOk f = true ↔ 12 ≤ f.length ∧ f.length ≤ 1512 ∧ frameLength f = f.length - 12 := by
  simp only [lengthOk, Bool.and_eq_true, decide_eq_true_eq, beq_iff_eq, and_assoc]
  exact Iff.rfl

theorem verdict_crcErr (node : Node) (f : List Byte) (hl : lengthOk f = true) (hc : crc32 (frameBody f) ≠ frameTrailer f) :
    verdict node f = .crcErr := by
  simp [verdict, hl, crcOk, hc]

theorem verdict_sound (node : Node) (f : List Byte) (hl : lengthOk f = true) (hc : crc32 (frameBody f) = frameTrailer f) :
    verdict node f = if frameSource f = node then .looped else .accepted := by
  simp [verdict, hl, crcOk, hc]

/-- Settles O7: a frame that fails the length check leaves the receive buffer with its count, and the agent's head, which
waits for a place, still waits. -/
theorem lengthCheckDropsAndCounts : Obligations.LengthCheckDropsAndCounts := by
  refine ⟨fun s p f hr hu hw hl => ?_, fun node f h1 h2 h3 => ?_, fun node f h => ?_⟩
  · have hv : verdict s.device.node f = .lengthErr := by
      rw [verdict_lengthErr_iff, ← Bool.not_eq_true, lengthOk_iff]; exact hl
    rw [exec_frameReceived s p f hr hu, State.receive, hv]
    exact congrArg _ (State.agentRun_waits _ (received_agentWaits s p _ hw))
  · rw [ne_eq, verdict_lengthErr_iff, Bool.not_eq_false, lengthOk_iff]; exact ⟨h1, h2, h3⟩
  · rw [verdict_lengthErr_iff, ← Bool.not_eq_true, lengthOk_iff]; omega

/-- Settles O8: RX_FRAME_ERR is raised after the count, and its cascade takes forwarded frames from the buffers alone. -/
theorem crcAndLoopedFramesAreDropped : Obligations.CrcAndLoopedFramesAreDropped := by
  refine ⟨fun s p f hr hu hq hl hc => ?_, fun s p f hr hu hw hl hc hn => ?_, fun node f hl hc hn => ?_⟩
  · have hv := verdict_crcErr s.device.node f hl hc
    set d := s.dlv.received p (PortCounters.verdict .crcErr) with hd
    have hport : ∀ o, (d.port o).pass = (s.dlv.port o).pass ∧ (d.port o).tx = (s.dlv.port o).tx ∧
        (d.port o).free = (s.dlv.port o).free := by
      intro o
      by_cases e : o = p
      · subst e; simp [hd, Delivery.received, PortState.free]
      · rw [hd, Delivery.received, Delivery.modPort_port_other _ _ _ _ e]; exact ⟨rfl, rfl, rfl⟩
    refine ⟨State.raise { s with dlv := d } 14 (portCode p), ?_, ?_, ?_, ?_, fun o => ?_, rfl⟩
    · rw [exec_frameReceived s p f hr hu, State.receive, hv]
      exact congrArg _ (State.agentRun_nil _ hq)
    · rw [State.raise, run_ctr]; simp [hd, Delivery.received, PortCounters.verdict]
    · rw [State.raise, run_ctr]; simp [hd, Delivery.received, PortCounters.verdict]
    · rw [raise_alert _ 14 (by unfold OutsideCascade; decide)]
      simp [hd, Delivery.received]
    · obtain ⟨hpass, htx, hfree⟩ := hport o
      have hfrom := run_pass_from_buffer { s with dlv := d } [.edge 14 (BitVec.ofNat 32 (portCode p))] o
      rw [State.raise]
      dsimp only at hfrom
      rw [hpass, htx] at hfrom
      obtain ⟨hsuffix, htaken⟩ := hfrom
      refine ⟨hsuffix, htaken, fun hb => ?_⟩
      have hbusy := (run_busy_port { s with dlv := d } [.edge 14 (BitVec.ofNat 32 (portCode p))] o (hfree.trans hb)).1
      rw [hbusy]
      exact ⟨hpass, htx⟩
  · have hv := verdict_sound s.device.node f hl hc
    rw [if_pos hn] at hv
    rw [exec_frameReceived s p f hr hu, State.receive, hv]
    exact congrArg _ (State.agentRun_waits _ (received_agentWaits s p _ hw))
  · rw [verdict_sound node f hl hc, if_neg hn]

/-- A cascade changes the delivery side alone. -/
theorem State.run_of_dlv (s : State) (ts : List Task) (d : Delivery) (h : (s.run ts).dlv = d) : s.run ts = { s with dlv := d } := by
  subst h; rfl

/-- A cascade whose one task does nothing does nothing. -/
theorem run_noop (s : State) (t : Task) (h : perform s.env t s.dlv = (s.dlv, [])) : s.run [t] = s := by
  refine State.run_of_dlv s _ s.dlv ?_
  rw [run_cons, h, follow_nil, settle_nil]

theorem run_grant_busy (s : State) (o : Port) (h : (s.dlv.port o).free = false) : s.run [.grant o] = s :=
  run_noop s _ (grant_busy s.env o s.dlv h)

theorem PortBusy.not_free {s : State} {o : Port} (h : PortBusy s o) : (s.dlv.port o).free = false := not_free_of_tx _ h.2

theorem State.offerPass_down (o : Port) (f : List Byte) (s : State) (h : (s.dlv.port o).up = false) :
    s.offerPass o f = { s with dlv := s.dlv.count o fun c => { c with linkdownDrop := c.linkdownDrop + 1 } } := by
  simp [State.offerPass, h]

/-- On a transmitting port a frame with room is appended to the buffer, and no grant is made (R7). -/
theorem State.offerPass_busy (o : Port) (f : List Byte) (s : State) (hb : PortBusy s o)
    (hroom : passRoom f (s.dlv.port o).pass = true) :
    s.offerPass o f = { s with dlv := s.dlv.modPort o fun q => { q with pass := q.pass ++ [f] } } := by
  rw [State.offerPass, if_neg (by simp [hb.1]), if_pos hroom]
  refine run_grant_busy _ o ?_
  rw [Delivery.setPort_port_same]; exact hb.not_free

/-- Without room the frame is dropped and PASS_OVERFLOW raised (R7). -/
theorem State.offerPass_full (o : Port) (f : List Byte) (s : State) (hu : (s.dlv.port o).up = true)
    (hroom : passRoom f (s.dlv.port o).pass = false) :
    s.offerPass o f = State.raise { s with dlv := s.dlv.count o fun c => { c with passOverflow := c.passOverflow + 1 } } 15
      (portCode o) := by
  simp [State.offerPass, hu, hroom]

/-- Settles O9: the classifier offers the frame to the buffer toward the other port, whose three answers are the model's. -/
theorem opaqueFrameIsOfferedOnce : Obligations.OpaqueFrameIsOfferedOnce := by
  intro s p f hr hu hq hv h1 h2
  set d := s.dlv.received p (fun c => { c with rxFrames := c.rxFrames + 1 }) with hd
  have hport : d.port (otherPort p) = s.dlv.port (otherPort p) := Delivery.modPort_port_other _ _ _ _ (otherPort_ne p)
  have hexec : exec (.frameReceived p f) s = .next (State.offerPass (otherPort p) f { s with dlv := d }).agentRun := by
    rw [exec_frameReceived s p f hr hu, State.receive, hv]
    simp only [State.classify, h1, h2, if_false]
    rfl
  have hbusy : PortBusy s (otherPort p) → PortBusy { s with dlv := d } (otherPort p) := fun hb => by
    unfold PortBusy; rw [hport]; exact hb
  refine ⟨fun ho => ?_, fun hb hroom => ?_, fun hb hroom => ?_⟩
  · rw [hexec, State.offerPass_down _ f _ (by rw [hport]; exact ho)]
    exact congrArg _ (State.agentRun_nil _ hq)
  · rw [hexec, State.offerPass_busy _ f _ (hbusy hb) (by rw [hport]; exact hroom)]
    exact congrArg _ (State.agentRun_nil _ hq)
  · have hfull := State.offerPass_full (otherPort p) f { s with dlv := d } (by rw [hport]; exact hb.1)
      (by rw [hport]; exact hroom)
    refine ⟨State.offerPass (otherPort p) f { s with dlv := d }, ?_, ?_, ?_, ?_, ?_⟩
    · rw [hexec, State.agentRun_nil _ (by rw [hfull]; exact hq)]
    · rw [hfull, State.raise, (run_busy_port _ _ (otherPort p) ?_).1]
      · simp [Delivery.count, hport]
      · simpa [Delivery.count, hport, PortState.free] using hb.not_free
    · rw [hfull, State.raise, run_ctr]; simp [Delivery.count, hport]
    · rw [hfull, raise_alert _ 15 (by unfold OutsideCascade; decide)]
      simp [hd, Delivery.count, Delivery.received]
    · rw [hfull]; rfl

/-! ## TRANSMISSION_END (R11) -/

/-- A grant of a forwarded frame or of a reply brings nothing about. -/
theorem grant_silent (env : Env) (p : Port) (d : Delivery)
    (h : (∃ f, ((grant env p d).1.port p).tx = some (.pass f)) ∨ ∃ f, ((grant env p d).1.port p).tx = some (.reply f)) :
    (grant env p d).2 = [] := by
  by_contra hne
  rcases (grant_takes env p d hne).2 with ⟨g, hg⟩ | ⟨g, hg⟩ <;> rcases h with ⟨f, hf⟩ | ⟨f, hf⟩ <;> rw [hg] at hf <;> simp at hf

/-- Settles O12: the row frees the transmitter and runs one grant; the frame it starts keeps the port busy through what the
grant brings about. -/
theorem transmissionEndFreesThePort : Obligations.TransmissionEndFreesThePort := by
  intro s p hr
  have hexec : exec (.transmissionEnd p) s = .next (if (s.dlv.port p).tx.isSome then s.transmissionEnd p else s) := by
    rw [exec, execTransmissionEnd, State.event_out_of_reset s _ hr]
  set freed := s.dlv.modPort p (fun q => { q with tx := none, ctr := { q.ctr with txFrames := q.ctr.txFrames + 1 } }) with hfreed
  have hport : freed.port p =
      { s.dlv.port p with tx := none, ctr := { (s.dlv.port p).ctr with txFrames := (s.dlv.port p).ctr.txFrames + 1 } } := by
    rw [hfreed, Delivery.modPort_port_same]
  have hend : s.transmissionEnd p = (State.run { s with dlv := freed } [.grant p]).agentRun := rfl
  refine ⟨fun htx => by rw [hexec, htx]; rfl, fun htx hw hq => ?_, fun htx hu hw => ?_⟩
  · have hnone : grant s.env p freed = (freed, []) := by
      rw [NothingWaits, ← localWaiting_false_iff] at hw
      exact grant_nothing s.env p freed (by rw [hport]; exact hw.1) (by rw [hport]; exact hw.2)
    have hrun : State.run { s with dlv := freed } [.grant p] = { s with dlv := freed } := run_noop _ _ hnone
    rw [hexec, if_pos htx, hend, hrun]
    exact congrArg _ (State.agentRun_nil _ hq)
  · have hfree : (freed.port p).free = true := by rw [hport]; simp [PortState.free, hu]
    have htaken : ((grant s.env p freed).1.port p).tx.isSome = true :=
      grant_transmits s.env p freed hfree (by rw [hport]; exact hw)
    obtain ⟨hup, -, hctr⟩ := (grant_portMove s.env p freed p).frame
    have hdlv : (State.run { s with dlv := freed } [.grant p]).dlv =
        settle s.env 4095 (follow (grant s.env p freed).2 []) (grant s.env p freed).1 := run_cons _ _ _
    have hsilent : (grant s.env p freed).2 = [] →
        State.run { s with dlv := freed } [.grant p] = { s with dlv := (grant s.env p freed).1 } := by
      intro h
      rw [h, follow_nil, settle_nil] at hdlv
      exact State.run_of_dlv _ _ _ hdlv
    refine ⟨htaken, by rw [hctr, hport], State.run { s with dlv := freed } [.grant p], by rw [hexec, if_pos htx, hend], ?_,
      ⟨fun f hf => hsilent (grant_silent _ _ _ (.inl ⟨f, hf⟩)), fun f hf => hsilent (grant_silent _ _ _ (.inr ⟨f, hf⟩))⟩, ?_, rfl⟩
    · intro hq
      rw [hexec, if_pos htx, hend]
      exact congrArg _ (State.agentRun_nil _ hq)
    · obtain ⟨heq, hreport, halert⟩ := settle_busy_port s.env 4095 (follow (grant s.env p freed).2 [])
        (grant s.env p freed).1 p (not_free_of_tx _ htaken)
      rw [← hdlv] at heq hreport halert
      refine ⟨?_, ?_, ?_, ?_, ?_, ?_, ?_, ?_, hreport, halert⟩
      · rw [heq, hup, hport]; exact hu
      all_goals rw [heq]

end Sys2Proof.Machine
end

section
/-! SUPPORT. The Alert Unit: which entry is offered, the offers of a port until one is refused, recording, and ALERT_CLEAR
(chapter 8). -/

namespace Sys2Proof.Machine

/-! ## Ready entries (R152, R156) -/

theorem AlertEntry.ready_iff (floor : Nat) (n : Fin 20) (e : AlertEntry) :
    e.ready floor n = true ↔
      (e.cfg.masked = false ∧ e.cfg.deliverFrame = true ∧ floor ≤ e.cfg.level) ∧ e.queuedOn = none ∧
        (isLevel n = true → e.active = true ∧ e.awaiting = false) ∧ (isLevel n = false → e.pending.isSome = true) := by
  cases h : isLevel n <;> simp [AlertEntry.ready, AlertEntry.deliverable, h, and_assoc]

/-- The entry offered first has the highest level of the ready ones that name the port, and of those the lowest number. -/
theorem bestReady_eq_some_iff (floor : Nat) (p : Port) (d : Delivery) (n : Fin 20) :
    bestReady floor p d = some n ↔
      ((d.alert n).ready floor n = true ∧ (d.alert n).cfg.port = p) ∧
        ∀ m : Fin 20, (d.alert m).ready floor m = true → (d.alert m).cfg.port = p →
          (d.alert m).cfg.level < (d.alert n).cfg.level ∨ (d.alert m).cfg.level = (d.alert n).cfg.level ∧ n ≤ m := by
  set f : Fin 20 → Bool := fun n => (d.alert n).ready floor n && decide ((d.alert n).cfg.port = p) with hf
  have hmem : ∀ m : Fin 20, m ∈ (List.finRange 20).filter f ↔ (d.alert m).ready floor m = true ∧ (d.alert m).cfg.port = p := by
    intro m; simp [hf]
  have hfirst : f n = true → ∀ m, f m = true →
      (((List.finRange 20).filter f).idxOf n ≤ ((List.finRange 20).filter f).idxOf m ↔ n ≤ m) := by
    intro hn m hm
    rw [idxOf_filter_le_iff f hn hm, List.idxOf_finRange, List.idxOf_finRange]
    exact Iff.rfl
  have hpass : ∀ m : Fin 20, f m = true ↔ (d.alert m).ready floor m = true ∧ (d.alert m).cfg.port = p := by
    intro m; simp [hf]
  rw [bestReady_eq_argmax, ← Option.mem_def, List.mem_argmax_iff, hmem]
  constructor
  · rintro ⟨hn, hle, hidx⟩
    refine ⟨hn, fun m hr hp => ?_⟩
    have hm := (hmem m).mpr ⟨hr, hp⟩
    rcases Nat.lt_or_eq_of_le (hle m hm) with hlt | heq
    · exact .inl hlt
    · exact .inr ⟨heq, (hfirst ((hpass n).mpr hn) m ((hpass m).mpr ⟨hr, hp⟩)).mp (hidx m hm heq.ge)⟩
  · rintro ⟨hn, hbest⟩
    refine ⟨hn, fun m hm => ?_, fun m hm hge => ?_⟩
    · obtain ⟨hr, hp⟩ := (hmem m).mp hm
      rcases hbest m hr hp with hlt | ⟨heq, -⟩
      · exact hlt.le
      · exact heq.le
    · obtain ⟨hr, hp⟩ := (hmem m).mp hm
      refine (hfirst ((hpass n).mpr hn) m ((hpass m).mpr ⟨hr, hp⟩)).mpr ?_
      rcases hbest m hr hp with hlt | ⟨-, hle⟩
      · exact absurd hge (Nat.not_le.mpr hlt)
      · exact hle

/-- With every entry masked none is ready. -/
theorem bestReady_masked (floor : Nat) (p : Port) (d : Delivery) (h : ∀ m, (d.alert m).cfg.masked = true) :
    bestReady floor p d = none := by
  cases hb : bestReady floor p d with
  | none => rfl
  | some n =>
    have hr := (AlertEntry.ready_iff _ _ _).mp (bestReady_ready floor p d n hb)
    rw [h n] at hr
    simp at hr

/-! ## The offers of a port (R156) -/

/-- An offer is refused: the queue is full, or no entry naming the port is ready. -/
def OfferRefused (floor : Nat) (p : Port) (d : Delivery) : Prop :=
  8 ≤ (d.port p).alertQ.length ∨ bestReady floor p d = none

/-- Nothing but the port's ALERT queue and the entries has changed. -/
def OffersAlone (p : Port) (d x : Delivery) : Prop :=
  x.port p = { d.port p with alertQ := (x.port p).alertQ } ∧ x.port (otherPort p) = d.port (otherPort p) ∧
    x.recq = d.recq ∧ x.channels = d.channels

theorem OffersAlone.refl (p : Port) (d : Delivery) : OffersAlone p d d := ⟨rfl, rfl, rfl, rfl⟩

theorem OffersAlone.trans {p : Port} {d x y : Delivery} (h : OffersAlone p d x) (k : OffersAlone p x y) :
    OffersAlone p d y := by
  obtain ⟨hport, hother, hrecq, hchan⟩ := h
  obtain ⟨kport, kother, krecq, kchan⟩ := k
  exact ⟨by rw [kport, hport], kother.trans hother, krecq.trans hrecq, kchan.trans hchan⟩

theorem OffersAlone.not_free {p : Port} {d x : Delivery} (h : OffersAlone p d x) (hb : (d.port p).free = false) :
    (x.port p).free = false := by rw [h.1]; exact hb

theorem offerOne_alone (env : Env) (p : Port) (d : Delivery) : OffersAlone p d (offerOne env p d).1 := by
  obtain ⟨hrecq, hchan, -, hother⟩ := offerOne_frame env p d
  refine ⟨?_, hother _ (otherPort_ne p), hrecq, hchan⟩
  rw [offerOne]
  split
  · rfl
  · dsimp only
    split
    · rw [Delivery.setAlert_port, Delivery.setPort_port_same]
    · rfl

/-- An offer that brings nothing about has been refused. -/
theorem offerOne_refused (env : Env) (p : Port) (d : Delivery) (hu : (d.port p).up = true) :
    (offerOne env p d = (d, []) ∧ OfferRefused env.floor p d) ∨
      ((offerOne env p d).2 = [.grant p, .offers p] ∧
        (readySet env.floor (offerOne env p d).1).card + 1 = (readySet env.floor d).card) := by
  cases hb : bestReady env.floor p d with
  | none => exact .inl ⟨offerOne_none env p d (.inl hb), .inr hb⟩
  | some n =>
    rcases Nat.lt_or_ge (d.port p).alertQ.length Config.alertRoom with hr | hr
    · refine .inr ⟨by rw [offerOne_built env p d n hb hu hr], ?_⟩
      rw [offerOne_built env p d n hb hu hr, readySet_setAlert _ _ _ _ (AlertEntry.ready_afterBuild _ _ _ _ _),
        readySet_setPort]
      exact Finset.card_erase_add_one ((mem_readySet _ _ _).mpr (bestReady_ready _ _ _ _ hb))
    · exact .inl ⟨offerOne_none env p d (.inr (.inr hr)), .inl hr⟩

/-- On a transmitting port the offers run until one is refused, 2 tasks for each frame built. -/
theorem settle_offers_busy (env : Env) (p : Port) (k : Nat) : ∀ (d : Delivery) (n : Nat), (d.port p).up = true →
    (d.port p).free = false → (readySet env.floor d).card ≤ k →
      OffersAlone p d (settle env (n + 2 * k + 1) [.offers p] d) ∧
        OfferRefused env.floor p (settle env (n + 2 * k + 1) [.offers p] d) := by
  induction k with
  | zero =>
    intro d n hu hb hcard
    rcases offerOne_refused env p d hu with ⟨heq, href⟩ | ⟨-, hready⟩
    · rw [settle_cons, perform, heq, follow_nil, settle_nil]
      exact ⟨.refl p d, href⟩
    · omega
  | succ k ih =>
    intro d n hu hb hcard
    rcases offerOne_refused env p d hu with ⟨heq, href⟩ | ⟨htasks, hready⟩
    · rw [settle_cons, perform, heq, follow_nil, settle_nil]
      exact ⟨.refl p d, href⟩
    · have halone := offerOne_alone env p d
      have hup : ((offerOne env p d).1.port p).up = true := by rw [halone.1]; exact hu
      have hbusy := halone.not_free hb
      have hfollow : follow [Task.grant p, .offers p] [] = [.grant p, .offers p] := rfl
      rw [show n + 2 * (k + 1) + 1 = n + 2 * k + 1 + 1 + 1 by omega, settle_cons, perform, htasks, hfollow, settle_cons,
        perform, grant_busy env p _ hbusy, follow_nil]
      obtain ⟨hal, href⟩ := ih (offerOne env p d).1 n hup hbusy (by omega)
      exact ⟨halone.trans hal, href⟩

theorem run_offers_busy (s : State) (p : Port) (hb : PortBusy s p) :
    OffersAlone p s.dlv (s.run [.offers p]).dlv ∧ OfferRefused s.device.floor p (s.run [.offers p]).dlv := by
  have hcard : (readySet s.env.floor s.dlv).card ≤ 20 := (Finset.card_le_univ _).trans (by simp)
  exact settle_offers_busy s.env p 20 s.dlv 4055 hb.1 hb.not_free hcard

/-- An offer after which the next is refused is the whole of the offers. -/
theorem run_one_offer (s : State) (p : Port) (hb : PortBusy s p)
    (href : bestReady s.device.floor p (offerOne s.env p s.dlv).1 = none ∨ 8 ≤ ((offerOne s.env p s.dlv).1.port p).alertQ.length) :
    s.run [.offers p] = { s with dlv := (offerOne s.env p s.dlv).1 } := by
  refine State.run_of_dlv s _ _ ?_
  rw [run_cons, perform]
  rcases offerOne_tasks s.env p s.dlv with h | h
  · rw [h, follow_nil, settle_nil]
  · have hfollow : follow [Task.grant p, .offers p] [] = [.grant p, .offers p] := rfl
    have hgrant := grant_busy s.env p _ ((offerOne_alone s.env p s.dlv).not_free hb.not_free)
    have hoffer : offerOne s.env p (offerOne s.env p s.dlv).1 = ((offerOne s.env p s.dlv).1, []) :=
      offerOne_none s.env p _ (href.imp_right .inr)
    rw [h, hfollow, settle_cons _ 4094, perform, hgrant, follow_nil, settle_cons _ 4093, perform, hoffer, follow_nil,
      settle_nil]

/-! ## The frame built and its place (R10, R157) -/

theorem insertAlert_place (f : AlertFrame) (q : List AlertFrame) :
    ∃ before behind, q = before ++ behind ∧ (∀ g ∈ before, f.level ≤ g.level) ∧ (∀ g ∈ behind.head?, g.level < f.level) ∧
      insertAlert f q = before ++ f :: behind := by
  refine ⟨q.takeWhile (fun g => f.level ≤ g.level), q.dropWhile (fun g => f.level ≤ g.level),
    List.takeWhile_append_dropWhile.symm, fun g hg => ?_, fun g hg => ?_, rfl⟩
  · simpa using List.mem_takeWhile_imp hg
  · have h := List.head?_dropWhile_not (fun g : AlertFrame => decide (f.level ≤ g.level)) q
    rw [Option.mem_def] at hg
    rw [hg] at h
    simpa using h

/-! ## Recording (R154, R155, R158) -/

theorem AlertEntry.occur_eq (detail : BitVec 32) (e : AlertEntry) :
    e.occur detail = { e with
      pending := some (e.pending.getD detail), count := if e.pending = none then 1 else min (e.count + 1) 255
      occurrences := e.occurrences + 1 } := by
  rw [AlertEntry.occur]
  cases e.pending <;> rfl

theorem AlertEntry.level_eq (r : LevelReport) (e : AlertEntry) :
    e.level r = { e with
      active := r.active, detail := r.detail
      count := if r.active = true ∧ e.active = false then min (e.count + 1) 255 else e.count
      occurrences := if r.active = true ∧ e.active = false then e.occurrences + 1 else e.occurrences } := by
  rw [AlertEntry.level]
  cases hr : r.active <;> cases he : e.active <;> simp [sat255]

/-- An occurrence configures nothing. -/
theorem recordEdge_cfg (n m : Fin 20) (detail : BitVec 32) (d : Delivery) :
    ((recordEdge n detail d).1.alert m).cfg = (d.alert m).cfg := by
  have hset : ((d.setAlert n ((d.alert n).occur detail)).alert m).cfg = (d.alert m).cfg := by
    by_cases e : m = n
    · subst e; rw [Delivery.setAlert_alert_same]; rfl
    · rw [Delivery.setAlert_alert_other d n m _ e]
  rw [recordEdge]
  split
  · rw [Delivery.modPort_alert]; exact hset
  · exact hset

theorem sourceTriggers_none (n : Fin 20) (d : Delivery) (h : ∀ c : Fin 4, (d.channel c).cfg.source ≠ n) :
    sourceTriggers d n = [] := by
  simp [sourceTriggers, h]

/-- Without a channel of the source and with every entry masked an occurrence is recorded and no more. -/
theorem raise_recorded (s : State) (n : Fin 20) (detail : Nat) (hc : ∀ c : Fin 4, (s.dlv.channel c).cfg.source ≠ n)
    (hm : ∀ m : Fin 20, (s.dlv.alert m).cfg.masked = true) :
    s.raise n detail = { s with dlv := (recordEdge n (BitVec.ofNat 32 detail) s.dlv).1 } := by
  have hmasked : ∀ m, ((recordEdge n (BitVec.ofNat 32 detail) s.dlv).1.alert m).cfg.masked = true := fun m => by
    rw [recordEdge_cfg]; exact hm m
  have htasks : (recordEdge n (BitVec.ofNat 32 detail) s.dlv).2 = [] ∨
      ∃ p, (recordEdge n (BitVec.ofNat 32 detail) s.dlv).2 = [.offers p] := by
    rw [recordEdge, sourceTriggers_none n s.dlv hc]
    split
    · exact .inl rfl
    · exact .inr ⟨_, rfl⟩
  refine State.run_of_dlv s _ _ ?_
  rw [run_cons, perform]
  rcases htasks with h | ⟨p, h⟩
  · rw [h, follow_nil, settle_nil]
  · have hfollow : follow [Task.offers p] [] = [.offers p] := rfl
    rw [h, hfollow, settle_cons, perform, offerOne_none _ _ _ (.inl (bestReady_masked _ p _ hmasked)), follow_nil, settle_nil]

/-- Settles O30: each offer uses up a ready entry, so the offers of a busy port end in a refusal within the bound; the rest
is what one offer and one recording do. -/
theorem offersRunUntilRefused : Obligations.OffersRunUntilRefused := by
  have hexec : ∀ (s : State) (p : Port), s.inReset = false → exec (.alertOffer p) s = .next (s.run [.offers p]) :=
    fun s p hr => by rw [exec, execAlertOffer, State.event_out_of_reset s _ hr]
  refine ⟨fun s p hr => ⟨fun hd => ?_, fun hb => ?_⟩, AlertEntry.ready_iff, bestReady_eq_some_iff,
    fun env p d => ⟨fun h => offerOne_none env p d h, fun n hn hu hroom => ?_⟩, fun s p hr hb href => ?_,
    fun n detail d => ⟨fun hq => ?_, fun p hq => ?_⟩, fun r d => ?_, fun n d => ?_, raise_recorded⟩
  · rw [hexec s p hr, run_noop s (.offers p) (offerOne_none s.env p s.dlv (.inr (.inl hd)))]
  · obtain ⟨⟨hport, hother, hrecq, hchan⟩, href⟩ := run_offers_busy s p hb
    exact ⟨s.run [.offers p], hexec s p hr, href, by rw [hport], by rw [hport], by rw [hport], hother, hrecq, hchan, rfl⟩
  · obtain ⟨before, behind, hq, hbefore, hbehind, hins⟩ := insertAlert_place (buildAlert env n (d.alert n)) (d.port p).alertQ
    refine ⟨before, behind, hq, hbefore, hbehind, ?_⟩
    rw [offerOne_built env p d n hn hu hroom, hins]
    rfl
  · rw [hexec s p hr, run_one_offer s p hb href]
  · rw [recordEdge, ← AlertEntry.occur_eq]
    simp only [AlertEntry.occur, hq]
  · rw [recordEdge, ← AlertEntry.occur_eq]
    simp only [AlertEntry.occur_eq, hq]
    rfl
  · dsimp only
    rw [← AlertEntry.level_eq, recordLevels]
    cases hr : r.active <;> cases he : (d.alert r.number).active <;> simp [hr, he]
  · rw [sourceTriggers]
    simp only [Bool.decide_and]

/-! ## ALERT_CLEAR (R10, R161, R182) -/

@[simp] theorem Delivery.mapAlerts_alert (f : Fin 20 → AlertEntry → AlertEntry) (d : Delivery) (n : Fin 20) :
    (d.mapAlerts f).alert n = f n (d.alert n) := by
  simp [Delivery.mapAlerts, Delivery.alert]

theorem Delivery.clearAlerts_alert (v : Nat) (d : Delivery) (n : Fin 20) :
    (d.clearAlerts v).alert n =
      if selected false v n (d.alert n) then { d.alert n with queuedOn := none, pending := none, count := 0 } else d.alert n := by
  rw [Delivery.clearAlerts, Delivery.mapAlerts_alert, Delivery.modPort_alert, Delivery.modPort_alert]

/-- A vector that ALERT-ACK and ALERT-CLEAR may name (R182). -/
theorem validVector_iff (v : Nat) : validVector v = true ↔ 0x10 ≤ v ∧ v ≤ 0xFE := by simp [validVector]

theorem selected_false (v : Nat) (n : Fin 20) (e : AlertEntry) :
    selected false v n e = (!isLevel n && e.cfg.vector.toNat == v) := by
  rw [selected]; cases isLevel n <;> rfl

/-- Settles O41: the request is served with what `serveClear` leaves, whose two branches are the two clauses. -/
theorem alertClearRemovesUnsentFrames : Obligations.AlertClearRemovesUnsentFrames := by
  intro s h v h0 hm
  have hserve : ∀ x, serveClear v.toNat (joined s) = x → exec (.alertClear h v) s =
      .next (answered h .alertClear x.status x.count x.data x.state) := fun x hx => by
    rw [exec, execAlertClear]
    exact request_served s h .alertClear 0 v 0 [] h0 hm (by decide) x hx
  refine ⟨fun hv => ?_, fun hlo hhi => ⟨s.dlv.clearAlerts v.toNat, fun n => ?_, fun p => ?_, rfl, ?_⟩⟩
  · have hbad : validVector v.toNat = false := by rw [← Bool.not_eq_true, validVector_iff]; omega
    exact hserve _ (by rw [serveClear, hbad])
  · rw [Delivery.clearAlerts_alert, selected_false]
  · rw [Delivery.clearAlerts_port, PortState.removeAlerts_eq]
    simp only [selected_false]
  · have hok : validVector v.toNat = true := (validVector_iff _).mpr ⟨hlo, hhi⟩
    rw [Answers, hserve _ rfl, serveClear, hok]
    simp only [← selected_false]
    rfl

end Sys2Proof.Machine
end

section
/-! SUPPORT. The agent and its request queue: a service neither reads nor changes the requests that wait, where its reply goes,
and when the head is served (R9, R169 to R171). -/

namespace Sys2Proof.Machine

/-- A DEVICE entry stored, with the current values of both ports after a change of priorities (R14). -/
def State.deviceStored (d : Device) (s : State) : State :=
  { s with device := d, dlv := if s.device.priority = d.priority then s.dlv else s.dlv.setPriorities d.priority }

/-- After the entry is stored, a changed watermark is evaluated (R133). -/
theorem State.writeDevice_eq (d : Device) (s : State) :
    s.writeDevice d = (s.deviceStored d).run (if s.device.watermark = d.watermark then [] else [.queueHigh]) := by
  simp only [State.writeDevice, State.deviceStored]
  by_cases hwater : s.device.watermark = d.watermark <;> by_cases hprio : s.device.priority = d.priority <;>
    simp only [hwater, hprio, if_true, if_false]
  all_goals rw [State.run, settle_nil]

/-- What RESTART_ACCOUNTING leaves every block as, before the entries still ready are offered (R184). -/
def State.blocksRestarted (s : State) : State :=
  { s with
    slots := s.slots.map Slot.restarted
    points := Vector.ofFn fun i => (s.point i).restarted (s.finisher.keptBank i)
    finisher := s.finisher.restarted
    dlv := s.dlv.restarted
    agent := { s.agent with tickets := Vector.replicate 4 .free } }

theorem State.restartAccounting_eq (s : State) : s.restartAccounting = s.blocksRestarted.run [.offers .a, .offers .b] := by
  rw [State.restartAccounting, State.blocksRestarted]

/-! ## A service and the requests that wait

What an effect leaves, with other requests waiting: the same, with those requests waiting (`setRequests` goes through). -/

section
variable (w : List Request) (s : State)

@[simp] theorem State.setRequests_point (k : Fin 24) : (s.setRequests w).point k = s.point k := rfl
@[simp] theorem State.setRequests_slot (k : Fin 32) : (s.setRequests w).slot k = s.slot k := rfl
@[simp] theorem State.setRequests_ctx : (s.setRequests w).ctx = s.ctx := rfl
@[simp] theorem State.setRequests_timebase : timebase (s.setRequests w) = timebase s := rfl
@[simp] theorem State.setRequests_load : (s.setRequests w).agent.load = s.agent.load := rfl
@[simp] theorem State.setRequests_tickets : (s.setRequests w).agent.tickets = s.agent.tickets := rfl
@[simp] theorem State.setRequests_freeTicket : (s.setRequests w).agent.freeTicket = s.agent.freeTicket := rfl

@[simp] theorem State.setPoint_setRequests (k : Fin 24) (x : Point) :
    (s.setRequests w).setPoint k x = (s.setPoint k x).setRequests w := rfl

@[simp] theorem State.setSlot_setRequests (k : Fin 32) (x : Slot) :
    (s.setRequests w).setSlot k x = (s.setSlot k x).setRequests w := rfl

@[simp] theorem State.onTickets_setRequests (f : Ticket → Ticket) :
    (s.setRequests w).onTickets f = (s.onTickets f).setRequests w := rfl

@[simp] theorem State.run_setRequests (ts : List Task) : (s.setRequests w).run ts = (s.run ts).setRequests w := by
  rw [State.run, State.run]; rfl

@[simp] theorem State.raise_setRequests (n : Fin 20) (detail : Nat) :
    (s.setRequests w).raise n detail = (s.raise n detail).setRequests w := s.run_setRequests w _

@[simp] theorem State.appendRecord_setRequests (i : Fin 24) (r : IntervalRecord) :
    (s.setRequests w).appendRecord i r = (s.appendRecord i r).setRequests w :=
  State.run_setRequests w { s with dlv := { s.dlv with recq := s.dlv.recq.append r } } _

/-- Effects that go through one by one go through in turn. -/
theorem foldl_setRequests {α : Type} {f : State → α → State} (h : ∀ s a, f (s.setRequests w) a = (f s a).setRequests w)
    (l : List α) : l.foldl f (s.setRequests w) = (l.foldl f s).setRequests w := by
  induction l generalizing s with
  | nil => rfl
  | cons a l ih => rw [List.foldl_cons, h, ih]; rfl

@[simp] theorem State.beginFinish_setRequests : (s.setRequests w).beginFinish = s.beginFinish.setRequests w := by
  simp only [State.beginFinish, State.setRequests_finisher]
  split <;> rfl

@[simp] theorem State.appendFinish_setRequests (e : FinishEntry) :
    (s.setRequests w).appendFinish e = (s.appendFinish e).setRequests w :=
  State.beginFinish_setRequests w { s with finisher := { s.finisher with
    queue := s.finisher.queue ++ [e], peak := max s.finisher.peak (s.finisher.queue ++ [e]).length } }

@[simp] theorem State.dropFinish_setRequests (i : Fin 24) : (s.setRequests w).dropFinish i = (s.dropFinish i).setRequests w := by
  simp only [State.dropFinish, State.setRequests_finisher]
  split
  · split
    · rfl
    · split <;> rfl
  · split <;> rfl
  · rfl

@[simp] theorem State.pointEvent_setRequests (i : Fin 24) (e : PointEvent) :
    (s.setRequests w).pointEvent i e = (s.pointEvent i e).setRequests w := by
  cases e <;> simp [State.pointEvent]

@[simp] theorem State.onPoint_setRequests (i : Fin 24) (f : PointCtx → Point → PointStep) :
    (s.setRequests w).onPoint i f = (s.onPoint i f).setRequests w := by
  simp only [State.onPoint, State.setRequests_ctx, State.setRequests_point, State.setPoint_setRequests]
  exact foldl_setRequests w _ (fun s e => s.pointEvent_setRequests w i e) _

@[simp] theorem State.onPoints_setRequests (f : PointCtx → Point → PointStep) :
    (s.setRequests w).onPoints f = (s.onPoints f).setRequests w :=
  foldl_setRequests w s (fun s i => State.onPoint_setRequests w s i f) _

/-- A report made on a condition that does not read the requests. -/
theorem ite_setRequests (b : Bool) {f : State → State} (h : f (s.setRequests w) = (f s).setRequests w) :
    (if b then f (s.setRequests w) else s.setRequests w) = (if b then f s else s).setRequests w := by
  cases b
  · rfl
  · exact h

@[simp] theorem State.slotReports_setRequests (k : Fin 32) (x : SlotStep) :
    (s.setRequests w).slotReports k x = (s.slotReports k x).setRequests w := by
  rw [State.slotReports, State.slotReports]
  rw [ite_setRequests w s x.left (f := fun s => s.onPoints fun ctx => Point.slotLeft ctx k) (State.onPoints_setRequests w s _)]
  generalize (if x.left then _ else s) = s1
  rw [ite_setRequests w s1 x.lostChanged (f := fun s => s.run [.levels [streamLostReport s.slots]])
    (s1.run_setRequests w _)]
  generalize (if x.lostChanged then _ else s1) = s2
  rw [ite_setRequests w s2 x.entered (f := fun s => s.onPoints fun ctx => Point.slotEntered ctx k)
    (State.onPoints_setRequests w s2 _)]
  exact ite_setRequests w _ x.reacquired (f := fun s => s.raise 1 k.val) (State.raise_setRequests w _ _ _)

@[simp] theorem State.applySlot_setRequests (k : Fin 32) (x : SlotStep) :
    (s.setRequests w).applySlot k x = (s.applySlot k x).setRequests w := by
  simp only [State.applySlot, State.setSlot_setRequests, State.slotReports_setRequests]
  exact foldl_setRequests w _ (fun s _ => State.onPoints_setRequests w s _) _

@[simp] theorem State.closeInterval_setRequests (i : Fin 24) (cut : Bool) :
    (s.setRequests w).closeInterval i cut = (s.closeInterval i cut).setRequests w := by
  simp only [State.closeInterval, State.setRequests_point, State.setRequests_dlv, State.setPoint_setRequests]
  generalize ((s.point i).closeNow i cut s.dlv.recq.freeWords).2 = o
  cases o with
  | none => rfl
  | some r => exact State.appendRecord_setRequests w _ i r

@[simp] theorem State.updateConditions_setRequests :
    (s.setRequests w).updateConditions = s.updateConditions.setRequests w := s.run_setRequests w _

@[simp] theorem State.writeSlot_setRequests (i : Nat) (c : SlotCfg) :
    (s.setRequests w).writeSlot i c = (s.writeSlot i c).setRequests w := by
  rw [State.writeSlot, State.writeSlot]
  split
  · rfl
  · simp

@[simp] theorem State.disablePoint_setRequests (k : Fin 24) (c : PointCfg) :
    (s.setRequests w).disablePoint k c = (s.disablePoint k c).setRequests w := by
  simp [State.disablePoint]

@[simp] theorem State.writePoint_setRequests (i : Nat) (c : PointCfg) :
    (s.setRequests w).writePoint i c = (s.writePoint i c).setRequests w := by
  rw [State.writePoint, State.writePoint]
  split
  · rfl
  · simp only [State.setRequests_point]
    split <;> simp

@[simp] theorem State.storeAlert_setRequests (i : Nat) (c : AlertCfg) :
    (s.setRequests w).storeAlert i c = (s.storeAlert i c).setRequests w := by
  rw [State.storeAlert, State.storeAlert]
  split <;> rfl

@[simp] theorem State.writePush_setRequests (i : Nat) (c : PushCfg) :
    (s.setRequests w).writePush i c = (s.writePush i c).setRequests w := by
  rw [State.writePush, State.writePush]
  split <;> rfl

@[simp] theorem State.writeDevice_setRequests (d : Device) :
    (s.setRequests w).writeDevice d = (s.writeDevice d).setRequests w := by
  rw [State.writeDevice_eq, State.writeDevice_eq, ← State.run_setRequests]
  rfl

@[simp] theorem State.writeEntry_setRequests (i : Nat) (e : Entry) :
    (s.setRequests w).writeEntry i e = (s.writeEntry i e).setRequests w := by
  cases e with
  | window x => rfl
  | slot c => exact s.writeSlot_setRequests w i c
  | point c => exact s.writePoint_setRequests w i c
  | hset l => rfl
  | limit l => rfl
  | alert c => exact s.storeAlert_setRequests w i c
  | push c => exact s.writePush_setRequests w i c
  | device d => exact s.writeDevice_setRequests w d

@[simp] theorem State.writeRun_setRequests (i : Nat) (es : List Entry) :
    (s.setRequests w).writeRun i es = (s.writeRun i es).setRequests w := by
  induction es generalizing i s with
  | nil => rfl
  | cons e es ih => rw [State.writeRun, State.writeRun, State.writeEntry_setRequests, ih]

@[simp] theorem State.offersAfter_setRequests (sp : Space) :
    (s.setRequests w).offersAfter sp = (s.offersAfter sp).setRequests w := by
  rw [State.offersAfter, State.offersAfter]
  split
  · exact s.run_setRequests w _
  · rfl

@[simp] theorem State.applyWrite_setRequests (sp : Space) (first count : Nat) (data : List Byte) :
    (s.setRequests w).applyWrite sp first count data = (s.applyWrite sp first count data).setRequests w := by
  simp only [State.applyWrite, State.setRequests_device]
  split
  · rfl
  · simp

@[simp] theorem State.resetPoint_setRequests (k : Fin 24) : (s.setRequests w).resetPoint k = (s.resetPoint k).setRequests w := by
  simp [State.resetPoint]

@[simp] theorem State.blocksRestarted_setRequests :
    (s.setRequests w).blocksRestarted = s.blocksRestarted.setRequests w := rfl

@[simp] theorem State.restartAccounting_setRequests :
    (s.setRequests w).restartAccounting = s.restartAccounting.setRequests w := by
  rw [State.restartAccounting_eq, State.restartAccounting_eq, State.blocksRestarted_setRequests, State.run_setRequests]

/-! ### The services -/

/-- What a service answers, with other requests waiting. -/
def Served.setRequests (x : Served) : Served := { x with state := x.state.setRequests w }

@[simp] theorem refuse_setRequests (st : Status) : refuse st (s.setRequests w) = (refuse st s).setRequests w := rfl

@[simp] theorem refuseAt_setRequests (st : Status) (i : Nat) :
    refuseAt st i (s.setRequests w) = (refuseAt st i s).setRequests w := rfl

@[simp] theorem answerOk_setRequests (n : Nat) : answerOk n (s.setRequests w) = (answerOk n s).setRequests w := rfl

@[simp] theorem checkWrite_setRequests (sp : Space) (first count : Nat) (data : List Byte) :
    checkWrite (s.setRequests w) sp first count data = checkWrite s sp first count data := rfl

@[simp] theorem checkStaged_setRequests (l : Load) : checkStaged (s.setRequests w) l = checkStaged s l := rfl

theorem serveRead_setRequests (code first count : Nat) :
    serveRead code first count (s.setRequests w) = (serveRead code first count s).setRequests w := by
  rw [serveRead, serveRead]
  split
  · rfl
  · split <;> rfl

theorem serveWrite_setRequests (code first count : Nat) (data : List Byte) :
    serveWrite code first count data (s.setRequests w) = (serveWrite code first count data s).setRequests w := by
  simp only [serveWrite, checkWrite_setRequests]
  split
  · rfl
  · split <;> simp

theorem serveFetch_setRequests (p : Port) (count : Nat) :
    serveFetch p count (s.setRequests w) = (serveFetch p count s).setRequests w := by
  have htaken : (s.setRequests w).removeFetched count =
      ((s.removeFetched count).1, (s.removeFetched count).2.setRequests w) := by
    rw [State.removeFetched, State.removeFetched]
    exact congrArg (Prod.mk _) (State.run_setRequests w { s with dlv := { s.dlv with recq := _ } } _)
  rw [serveFetch, serveFetch, htaken, apply_ite (Served.setRequests w)]
  rfl

theorem serveAck_setRequests (v : Nat) : serveAck v (s.setRequests w) = (serveAck v s).setRequests w := by
  rw [serveAck, serveAck]
  split
  · rfl
  · exact congrArg (answerOk _) (State.run_setRequests w { s with dlv := s.dlv.acknowledge v } _)

theorem serveClear_setRequests (v : Nat) : serveClear v (s.setRequests w) = (serveClear v s).setRequests w := by
  rw [serveClear, serveClear]
  split
  · rfl
  · exact congrArg (answerOk _) (State.run_setRequests w { s with dlv := s.dlv.clearAlerts v } _)

theorem servePushStart_setRequests (i : Nat) :
    servePushStart i (s.setRequests w) = (servePushStart i s).setRequests w := by
  rw [servePushStart, servePushStart]
  cases toIndex 4 i with
  | none => rfl
  | some c =>
    simp only [apply_ite (Served.setRequests w), State.run_setRequests, answerOk_setRequests]
    rfl

theorem serveResetPoint_setRequests (i : Nat) :
    serveResetPoint i (s.setRequests w) = (serveResetPoint i s).setRequests w := by
  rw [serveResetPoint, serveResetPoint]
  split <;> simp

theorem serveLock_setRequests : serveLock (s.setRequests w) = (serveLock s).setRequests w := by
  rw [serveLock, serveLock, apply_ite (Served.setRequests w)]
  rfl

theorem serveLoadOpen_setRequests (source : Node) (code first count : Nat) :
    serveLoadOpen source code first count (s.setRequests w) = (serveLoadOpen source code first count s).setRequests w := by
  rw [serveLoadOpen, serveLoadOpen]
  split
  · rfl
  · simp only [apply_ite (Served.setRequests w)]
    rfl

theorem serveLoadData_setRequests (source : Node) (offset count : Nat) (data : List Byte) :
    serveLoadData source offset count data (s.setRequests w) = (serveLoadData source offset count data s).setRequests w := by
  rw [serveLoadData, serveLoadData, State.setRequests_load]
  split
  · rfl
  · simp only [apply_ite (Served.setRequests w)]
    rfl

theorem serveLoadClose_setRequests (source : Node) (data : List Byte) :
    serveLoadClose source data (s.setRequests w) = (serveLoadClose source data s).setRequests w := by
  rw [serveLoadClose, serveLoadClose, State.setRequests_load]
  split
  · rfl
  · rename_i l _
    have happly := State.applyWrite_setRequests w
      { s.setLoad none with agent := { (s.setLoad none).agent with loadsApplied := s.agent.loadsApplied + 1 } }
      l.space l.first l.count l.staged
    simp only [apply_ite (Served.setRequests w), checkStaged_setRequests]
    cases checkStaged s l with
    | none => simp only [← answerOk_setRequests, ← happly]; rfl
    | some e => rfl

theorem serveLoadAbort_setRequests (source : Node) :
    serveLoadAbort source (s.setRequests w) = (serveLoadAbort source s).setRequests w := by
  rw [serveLoadAbort, serveLoadAbort, State.setRequests_load]
  split
  · rfl
  · rw [apply_ite (Served.setRequests w)]
    rfl

theorem serveIssue_setRequests (i : Nat) : serveIssue i (s.setRequests w) = (serveIssue i s).setRequests w := by
  rw [serveIssue, serveIssue, State.setRequests_freeTicket]
  split
  · rfl
  · split
    · rfl
    · rw [apply_ite (Served.setRequests w)]
      rfl

theorem serveRetrieve_setRequests (i ticket : Nat) :
    serveRetrieve i ticket (s.setRequests w) = (serveRetrieve i ticket s).setRequests w := by
  rw [serveRetrieve, serveRetrieve, State.setRequests_tickets]
  split
  · split
    · rfl
    · split <;> rfl
    · split <;> rfl
  · rfl

theorem serveSnapshot_setRequests (i ticket : Nat) :
    serveSnapshot i ticket (s.setRequests w) = (serveSnapshot i ticket s).setRequests w := by
  rw [serveSnapshot, serveSnapshot]
  split
  · exact serveIssue_setRequests w s i
  · exact serveRetrieve_setRequests w s i ticket

theorem serveKind_setRequests (k : ReqKind) (p : Port) (source : Node) (code index count : Nat) (data : List Byte) :
    serveKind k p source code index count data (s.setRequests w) =
      (serveKind k p source code index count data s).setRequests w := by
  cases k with
  | read => exact serveRead_setRequests w s _ _ _
  | write => exact serveWrite_setRequests w s _ _ _ _
  | writePosted => exact serveWrite_setRequests w s _ _ _ _
  | fetchRecords => exact serveFetch_setRequests w s _ _
  | alertAck => exact serveAck_setRequests w s _
  | alertClear => exact serveClear_setRequests w s _
  | pushStart => exact servePushStart_setRequests w s _
  | resetPoint => exact serveResetPoint_setRequests w s _
  | restartAccounting => exact congrArg (answerOk 0) (s.restartAccounting_setRequests w)
  | lockMetrology => exact serveLock_setRequests w s
  | loadOpen => exact serveLoadOpen_setRequests w s _ _ _ _
  | loadData => exact serveLoadData_setRequests w s _ _ _ _
  | loadClose => exact serveLoadClose_setRequests w s _ _
  | loadAbort => exact serveLoadAbort_setRequests w s _
  | snapshot => exact serveSnapshot_setRequests w s _ _

theorem serve_setRequests (r : Request) : serve r (s.setRequests w) = (serve r s).setRequests w := by
  rw [serve, serve, apply_ite (Served.setRequests w)]
  cases kindOf (reqKind r.payload) with
  | none => rfl
  | some k =>
    simp only [apply_ite (Served.setRequests w), ← serveKind_setRequests]
    rfl

theorem State.placeReply_setRequests (p : Port) (f : ReplyFrame) :
    (s.setRequests w).placeReply p f = (s.placeReply p f).setRequests w := by
  rw [State.placeReply, State.placeReply, apply_ite (State.setRequests w)]
  simp only [← State.run_setRequests]
  rfl

theorem State.endPosted_setRequests (r : Request) (x : Served) :
    State.endPosted r (x.setRequests w) = (State.endPosted r x).setRequests w := by
  rw [State.endPosted, State.endPosted, apply_ite (State.setRequests w)]
  simp only [← State.raise_setRequests]
  rfl

/-- The service of a request neither reads nor changes the requests that wait. -/
theorem State.serveRequest_setRequests (r : Request) :
    (s.setRequests w).serveRequest r = (s.serveRequest r).setRequests w := by
  rw [State.serveRequest, State.serveRequest, serve_setRequests]
  split
  · exact State.endPosted_setRequests w r _
  · exact State.placeReply_setRequests w _ r.port (replyOf r (serve r s))

end

theorem State.serveRequest_queue (r : Request) (s : State) : (s.serveRequest r).agent.queue = s.agent.queue := by
  have h := s.serveRequest_setRequests s.agent.queue r
  have hself : s.setRequests s.agent.queue = s := rfl
  rw [hself] at h
  rw [h]; rfl

/-! ## Where a reply goes (R9, R11 to R13, R16) -/

theorem Delivery.setPort_setPort (d : Delivery) (p : Port) (q r : PortState) : (d.setPort p q).setPort p r = d.setPort p r := by
  cases p <;> rfl

theorem State.placeReply_down (p : Port) (f : ReplyFrame) (s : State) (h : (s.dlv.port p).up = false) :
    s.placeReply p f = { s with dlv := s.dlv.count p fun c => { c with linkdownDrop := c.linkdownDrop + 1 } } := by
  rw [State.placeReply, if_neg (by simp [h])]

theorem State.placeReply_busy (p : Port) (f : ReplyFrame) (s : State) (h : PortBusy s p) :
    s.placeReply p f = { s with dlv := s.dlv.modPort p fun q => { q with replyQ := q.replyQ ++ [f] } } := by
  rw [State.placeReply, if_pos h.1]
  refine run_grant_busy _ p ?_
  rw [Delivery.setPort_port_same]; exact h.not_free

/-- A reply alone on its port is the frame a grant starts. -/
theorem pickClass_reply_alone (q : PortState) (f : ReplyFrame) (ha : q.alertQ = []) (hr : q.reportQ = []) (hq : q.replyQ = [f]) :
    pickClass q = some .reply := by
  have hl : q.localWaiting = true := (localWaiting_iff q).mpr ⟨.reply, by simp [PortState.classWaiting, hq]⟩
  obtain ⟨c, hc⟩ := Option.ne_none_iff_exists'.mp fun hn => by
    rw [pickClass_none_iff, hl] at hn; simp at hn
  have hw := pickClass_waiting q c hc
  cases c with
  | alert => simp [PortState.classWaiting, ha] at hw
  | reply => exact hc
  | report => simp [PortState.classWaiting, hr] at hw

/-- On an idle port with nothing waiting the reply starts at once. -/
theorem State.placeReply_idle (p : Port) (f : ReplyFrame) (s : State) (hf : (s.dlv.port p).free = true)
    (hw : NothingWaits (s.dlv.port p)) :
    s.placeReply p f = { s with dlv := s.dlv.modPort p fun q =>
      { q with tx := some (.reply f), passCount := 0, lastWinner := some .reply
               current := { q.current with reply := s.device.priority.reply } } } := by
  obtain ⟨hpass, hal, hrep, hrec⟩ := hw
  have hu : (s.dlv.port p).up = true := (Bool.and_eq_true_iff.mp hf).1
  set q : PortState := { s.dlv.port p with replyQ := (s.dlv.port p).replyQ ++ [f] } with hq
  have hport : (s.dlv.setPort p q).port p = q := Delivery.setPort_port_same _ _ _
  have hreply : q.replyQ = [f] := by rw [hq, hrep]; rfl
  have hpick := pickClass_reply_alone q f hal hrec hreply
  have hg : grantsPass q = false := by simp [grantsPass, hq, hpass]
  have hgrant : grant s.env p (s.dlv.setPort p q) =
      (s.dlv.setPort p { afterLocalGrant s.env.priority q .reply with replyQ := [], tx := some (.reply f) }, []) := by
    rw [grant_local s.env p _ .reply (by rw [hport]; exact hf) (by rw [hport]; exact hg) (by rw [hport]; exact hpick),
      grantLocal_reply s.env p _ f [] (by rw [hport]; exact hreply), hport, Delivery.setPort_setPort]
  have hafter : ({ afterLocalGrant s.env.priority q .reply with replyQ := [], tx := some (.reply f) } : PortState) =
      { s.dlv.port p with
        tx := some (.reply f), passCount := 0, lastWinner := some .reply
        current := { (s.dlv.port p).current with reply := s.device.priority.reply } } := by
    rw [← hrep]
    simp [afterLocalGrant, currentAfter, PortState.classWaiting, hq, hal, hrec, PerClass.get, State.env]
  rw [State.placeReply, if_pos hu]
  refine State.run_of_dlv _ _ _ ?_
  rw [run_cons, perform]
  change settle _ _ (follow (grant s.env p (s.dlv.setPort p q)).2 []) (grant s.env p (s.dlv.setPort p q)).1 = _
  rw [hgrant, follow_nil, settle_nil, hafter]
  rfl

/-! ## When the head is served (R170) -/

theorem canTake_iff (s : State) (r : Request) :
    canTake s r = true ↔ reqKind r.payload = 0x03 ∨ (s.dlv.port r.port).up = false ∨ (s.dlv.port r.port).replyQ.length < 8 := by
  simp only [canTake, Request.posted, Bool.or_eq_true, beq_iff_eq, Bool.not_eq_true', decide_eq_true_eq, or_assoc]
  exact Iff.rfl

/-- The agent serves a head it may take, and goes on with the next. -/
theorem State.agentRun_takes (s : State) (r : Request) (rest : List Request) (hq : s.agent.queue = r :: rest)
    (hc : canTake s r = true) : s.agentRun = (State.serveRequest r (s.setRequests rest)).agentRun := by
  have hlen : (State.serveRequest r (s.setRequests rest)).agent.queue.length = rest.length := by
    rw [State.serveRequest_queue]; rfl
  rw [State.agentRun, State.agentRun, hlen, hq, List.length_cons, State.agentLoop, hq]
  simp only [hc, if_true]

/-- A request that arrives at an agent with nothing waiting is served at once when it may be taken. -/
theorem State.requestArrives_served (s : State) (r : Request) (hq : s.agent.queue = []) (hc : canTake s r = true) :
    s.requestArrives r = State.serveRequest r (joined s) := by
  have hjoin : State.setRequests [] { s with agent := { s.agent with queue := [r], received := s.agent.received + 1 } } =
      joined s := by rw [joined, ← hq]; rfl
  have hrun := State.agentRun_takes { s with agent := { s.agent with queue := [r], received := s.agent.received + 1 } } r []
    rfl hc
  rw [State.requestArrives]
  simp only [hq, List.length_nil, List.nil_append, List.isEmpty_nil, if_true]
  rw [if_pos (by decide)]
  refine hrun.trans ?_
  rw [hjoin]
  exact State.agentRun_nil _ (by rw [State.serveRequest_queue]; exact hq)

/-- A service reads the port, the source and the payload of a request alone (notes/assumptions/36.md). -/
theorem serveRequest_congr (a b : Request) (s : State) (hp : a.port = b.port) (hs : a.source = b.source)
    (hy : a.payload = b.payload) : s.serveRequest a = s.serveRequest b := by
  cases a; cases b
  simp only at hp hs hy
  subst hp; subst hs; subst hy
  rfl

/-- A row that is a request is the arrival of the request its operands spell. -/
theorem exec_requestRow (c : Instr) (s : State) (h : ReqHeader) (k : ReqKind) (space : Byte) (index count : BitVec 16)
    (data : List Byte) (hrow : rowFields c = some (h, k, space, index, count, data)) :
    exec c s = s.request h k space index count data := by
  cases c <;> simp only [rowFields, Option.some.injEq, Prod.mk.injEq, reduceCtorEq] at hrow <;>
    obtain ⟨rfl, rfl, rfl, rfl, rfl, rfl⟩ := hrow <;> rfl

/-- Settles O32: the port's state says where the reply goes, and the agent's loop serves a head that has its place. -/
theorem replyIsPlacedOrLost : Obligations.ReplyIsPlacedOrLost := by
  refine ⟨fun s p f => ⟨State.placeReply_down p f s, State.placeReply_busy p f s, State.placeReply_idle p f s⟩,
    fun s => ⟨State.agentRun_nil s, fun r rest hq => ⟨canTake_iff s r, fun hn => ?_, fun hm => ?_⟩⟩,
    fun s r waiting => State.serveRequest_setRequests waiting s r, ?_⟩
  · refine State.agentRun_waits s fun x hx => ?_
    rw [hq, List.head?_cons, Option.mem_some_iff] at hx
    subst hx
    rw [← Bool.not_eq_true, canTake_iff]; exact hn
  · exact State.agentRun_takes s r rest hq ((canTake_iff s r).mpr hm)
  · intro s c r h k space index count data hrow hr hq hc hport hsource hpayload
    have hmade : canTake s (madeRequest s h k space index count data) = true := by
      rw [canTake, Request.posted, hport, hpayload] at hc
      exact hc
    rw [exec_requestRow c s h k space index count data hrow, State.request, State.event_out_of_reset s _ hr,
      State.requestArrives_served s _ hq hmade]
    exact congrArg _ (serveRequest_congr _ _ _ hport.symm hsource.symm hpayload.symm)

end Sys2Proof.Machine
end

section
/-! SUPPORT. A write of the DEVICE entry (R14, R178, R179). -/

namespace Sys2Proof.Machine

theorem State.deviceStored_port (d : Device) (s : State) (p : Port) :
    ((s.deviceStored d).dlv.port p) =
      { s.dlv.port p with current := if s.device.priority = d.priority then (s.dlv.port p).current else d.priority } := by
  rw [State.deviceStored]
  split <;> cases p <;> rfl

/-- A port that makes no grant keeps its arbiter and its replies over a write of DEVICE and the offers after it; its current
values are those of the stored entry. -/
theorem writeDevice_busy_port (s : State) (d : Device) (ts : List Task) (p : Port) (hf : (s.dlv.port p).free = false) :
    let q := ((s.writeDevice d).run ts).dlv.port p
    q.up = (s.dlv.port p).up ∧ q.tx = (s.dlv.port p).tx ∧ q.replyQ = (s.dlv.port p).replyQ ∧
      q.current = if s.device.priority = d.priority then (s.dlv.port p).current else d.priority := by
  have hstored := s.deviceStored_port d p
  have hf1 : ((s.deviceStored d).dlv.port p).free = false := by rw [hstored]; exact hf
  obtain ⟨hwritten, -, -⟩ := run_busy_port (s.deviceStored d) (if s.device.watermark = d.watermark then [] else [.queueHigh]) p hf1
  rw [← State.writeDevice_eq, hstored] at hwritten
  have hf2 : ((s.writeDevice d).dlv.port p).free = false := by rw [hwritten]; exact hf
  obtain ⟨hrun, -, -⟩ := run_busy_port (s.writeDevice d) ts p hf2
  rw [hwritten] at hrun
  rw [hrun]
  exact ⟨rfl, rfl, rfl, rfl⟩

/-- A write of the DEVICE entry that passes its checks. -/
theorem serveWrite_device (s : State) (data : List Byte) (d : Device) (hcheck : checkWrite s .device 0 1 data = none)
    (hd : decodeDevice s.device.metrologyLock data = some d) :
    serveWrite 1 0 1 data s = answerOk 1 ((s.writeDevice d).run [.offers .a, .offers .b]) := by
  have hlen : data.length = 20 := by
    by_contra hne
    have hshort : checkValues s .device 0 1 data ≠ none := by simp [checkValues, writeSize, hne]
    revert hcheck
    rw [checkWrite]
    repeat' split
    all_goals simp [hshort]
  have hbytes : entryBytes .device data 0 = data := by
    simp [entryBytes, writeSize, List.take_of_length_le, hlen]
  have hrun : decodeRun s.device.metrologyLock .device 1 data = some [.device d] := by
    simp [decodeRun, decodeEntry, hbytes, hd]
  rw [serveWrite, spaceOf]
  simp only [hcheck, State.applyWrite, hrun]
  rfl

/-- Settles O37: the entry is stored before the reply is built, and no task of the event grants on a port that is not free. -/
theorem deviceWriteActsAtOnce : Obligations.DeviceWriteActsAtOnce := by
  intro s h data d h0 hm hb hcheck hd
  set x := ((joined s).writeDevice d).run [.offers .a, .offers .b] with hx
  have hport (p : Port) (hf : (s.dlv.port p).free = false) := writeDevice_busy_port (joined s) d [.offers .a, .offers .b] p hf
  obtain ⟨hup, htx, hreply, -⟩ := hport h.port hb.not_free
  have hbx : PortBusy x h.port := ⟨hup.trans hb.1, by rw [hx, htx]; exact hb.2⟩
  have hexec : exec (.deviceWrite h 0 1 data) s = .next (answered h .write .ok 1 [] x) := by
    rw [exec, execDeviceWrite]
    exact request_served s h .write 0x01 0 1 data h0 hm (by decide) _ (serveWrite_device (joined s) data d hcheck hd)
  have hdev : x.device = d := by rw [hx, State.writeDevice_eq]; rfl
  rw [answered, State.placeReply_busy _ _ _ hbx, hdev] at hexec
  refine ⟨_, hexec, rfl, ?_, fun p hf => ?_, ?_⟩
  · rw [Delivery.modPort_port_same]
    exact congrArg (· ++ _) hreply
  · obtain ⟨-, -, -, hcurrent⟩ := hport p hf
    have hkept : ((x.dlv.modPort h.port fun q => { q with replyQ := q.replyQ ++ [replyTo h d.node .write .ok 1 []] }).port p).current =
        (x.dlv.port p).current := by
      by_cases hp : p = h.port
      · rw [hp, Delivery.modPort_port_same]
      · rw [Delivery.modPort_port_other _ _ _ _ hp]
    rw [hkept, hcurrent]
    exact ⟨fun hne => if_neg (Ne.symm hne), fun he => if_pos he.symm⟩
  · rw [hx, State.writeDevice_eq]
    exact ⟨rfl, rfl, rfl, rfl⟩

end Sys2Proof.Machine
end

section
/-! SUPPORT. RESTART_ACCOUNTING: what each block is left as (R41, R61, R83, R95, R103, R106, R127, R135, R147, R166, R184, R202). -/

namespace Sys2Proof.Machine

/-! ## The metering blocks -/

/-- The bank the Finisher goes on with is the one of its head under way. -/
theorem keptBank_iff (f : Finisher) (i : Fin 24) (ix : BankIx) :
    f.keptBank i = some ix ↔ ∃ e rest, f.queue = e :: rest ∧ f.active.isSome = true ∧ e.point = i ∧ e.bank = ix := by
  rw [Finisher.keptBank]
  cases hq : f.queue with
  | nil => simp
  | cons e rest => cases ha : f.active with
    | none => simp
    | some a =>
      by_cases he : e.point = i <;> simp [he]

theorem Point.restarted_bank (keep : Option BankIx) (p : Point) (ix : BankIx) :
    (p.restarted keep).framer.bank ix = if keep = some ix then p.framer.bank ix else .free := by
  cases ix <;> simp [Point.restarted, Framer.bank, Bank.restarted]

theorem State.blocksRestarted_point (s : State) (i : Fin 24) :
    s.blocksRestarted.point i = (s.point i).restarted (s.finisher.keptBank i) := by
  simp [State.blocksRestarted, State.point]

theorem State.blocksRestarted_slot (s : State) (k : Fin 32) : s.blocksRestarted.slot k = (s.slot k).restarted := by
  simp [State.blocksRestarted, State.slot]

/-! ## The delivery side -/

theorem Delivery.restarted_channel (d : Delivery) (c : Fin 4) : d.restarted.channel c = (d.channel c).restarted := by
  simp [Delivery.restarted, Delivery.channel]

theorem Delivery.restarted_alert (d : Delivery) (n : Fin 20) : d.restarted.alert n = (d.alert n).restarted n := by
  simp [Delivery.restarted, Delivery.alert]

/-- The removal that takes every frame. -/
theorem PortState.removeAlerts_all (q : PortState) : (q.removeAlerts fun _ => false) =
    { q with
      alertQ := []
      passCount := if q.alertQ ≠ [] ∧ q.replyQ = [] ∧ q.reportQ = [] then 0 else q.passCount } := by
  rw [PortState.removeAlerts_eq]
  simp [List.length_pos_iff]

/-- What an offer and its consequences are made of. -/
def Task.offering : Task → Prop
  | .offers _ | .grant _ | .freed _ | .waitList _ => True
  | _ => False

/-- Nothing of the push side is under way. -/
def PushIdle (channels : Vector Channel 4) (d : Delivery) : Prop :=
  d.recq = .init ∧ d.channels = channels ∧ ∀ o, d.wait o = []

theorem perform_offering (env : Env) (channels : Vector Channel 4) (t : Task) (d : Delivery) (ht : t.offering)
    (hd : PushIdle channels d) : PushIdle channels (perform env t d).1 ∧ ∀ u ∈ (perform env t d).2, u.offering := by
  obtain ⟨hrecq, hchannels, hwait⟩ := hd
  cases t with
  | offers p =>
    obtain ⟨hr, hc, hw, -⟩ := offerOne_frame env p d
    refine ⟨⟨hr.trans hrecq, hc.trans hchannels, fun o => (hw o).trans (hwait o)⟩, fun u hu => ?_⟩
    rw [perform] at hu
    rcases offerOne_tasks env p d with h | h <;> rw [h] at hu <;> simp at hu
    rcases hu with rfl | rfl <;> trivial
  | grant p =>
    obtain ⟨hr, hc, hw, -⟩ := grant_frame env p d
    refine ⟨⟨hr.trans hrecq, hc.trans hchannels, fun o => (hw o).trans (hwait o)⟩, fun u hu => ?_⟩
    rw [perform] at hu
    rcases grant_tasks env p d with h | h | h <;> rw [h] at hu <;> simp at hu <;> subst hu <;> trivial
  | freed p =>
    refine ⟨⟨hrecq, hchannels, hwait⟩, fun u hu => ?_⟩
    rw [perform, List.mem_singleton] at hu
    subst hu; trivial
  | waitList p =>
    rw [perform, serveWaitList, hwait p]
    exact ⟨⟨hrecq, hchannels, hwait⟩, by simp⟩
  | edge _ _ => exact ht.elim
  | levels _ => exact ht.elim
  | queueHigh => exact ht.elim
  | trigger _ => exact ht.elim
  | attempt _ _ => exact ht.elim
  | sent _ _ => exact ht.elim

/-- Offers made while nothing of the push side is under way leave it so. -/
theorem run_offers_pushIdle (s : State) (ts : List Task) (ht : ∀ t ∈ ts, t.offering) (channels : Vector Channel 4)
    (hd : PushIdle channels s.dlv) : PushIdle channels (s.run ts).dlv :=
  settle_keeps s.env (PushIdle channels) Task.offering (perform_offering s.env channels) cascadeBound ts s.dlv ht hd

theorem clearedByRestart_iff (n : Fin 20) : clearedByRestart n = true ↔ isLevel n = true ∧ n ≠ 19 := by
  simp [clearedByRestart, Fin.ext_iff]

/-- Settles O44: every block is left as its own `restarted` says, and the offers after it touch none but the ports and the
alert entries. -/
theorem restartClearsTheAccounting : Obligations.RestartClearsTheAccounting := by
  intro s h h0 hm
  have ht := State.restartAccounting_eq (joined s)
  obtain ⟨hrecq, hchannels, hwait⟩ := run_offers_pushIdle (joined s).blocksRestarted [.offers .a, .offers .b]
    (by simp [Task.offering]) s.dlv.restarted.channels ⟨rfl, rfl, fun o => by cases o <;> rfl⟩
  refine ⟨(joined s).restartAccounting, s.dlv.restarted, ?_, ?_, fun k => ?_, fun i => ?_, ?_, rfl, rfl, rfl, fun c => ?_,
    ?_, ?_, ?_, ?_, fun n => ?_, fun p => ?_⟩
  · exact request_served s h .restartAccounting 0 0 0 [] h0 hm (by decide) (answerOk 0 (joined s).restartAccounting) rfl
  · rw [ht, State.run_slots, State.run_points, State.run_finisher]
    rfl
  · rw [ht, State.slot, State.run_slots]
    exact (joined s).blocksRestarted_slot k
  · have hpoint : (joined s).restartAccounting.point i = (s.point i).restarted (s.finisher.keptBank i) := by
      rw [ht, State.point, State.run_points]
      exact (joined s).blocksRestarted_point i
    rw [hpoint]
    refine ⟨rfl, rfl, rfl, fun he => ?_, rfl, rfl, rfl, rfl, rfl, rfl, rfl, rfl, fun ix => ?_, rfl, rfl, rfl, rfl, rfl, rfl, rfl⟩
    · exact ⟨by simp_all [Point.restarted], by simp_all [Point.restarted]⟩
    · rw [Point.restarted_bank]
      exact ⟨fun hu => if_pos ((keptBank_iff _ _ _).mpr hu), fun hn => if_neg (mt (keptBank_iff _ _ _).mp hn)⟩
  · rw [ht]; rfl
  · rw [Delivery.restarted_channel]; rfl
  · rw [ht]; exact hrecq
  · rw [ht]; exact hwait .a
  · rw [ht]; exact hwait .b
  · rw [ht]; exact hchannels
  · rw [Delivery.restarted_alert, AlertEntry.restarted]
    simp only [clearedByRestart_iff]
  · rw [Delivery.restarted_port, PortState.removeAlerts_all]

end Sys2Proof.Machine
end

section
/-! SUPPORT. The frames the part seals: fields laid side by side, and what the checks read of a sealed frame (R3 to R5, R206, 11.2). -/

namespace Sys2Proof.Machine

/-! ## Fields laid side by side -/

/-- Big-endian fields of some widths and values, one behind the other. -/
def fieldRow (l : List (Nat × Nat)) : List Byte := l.flatMap fun x => beNat x.1 x.2

/-- Where the fields of a row stand, from an offset on. -/
def rowPlaces : Nat → List (Nat × Nat) → List (Nat × Nat × Nat)
  | _, [] => []
  | off, x :: l => (off, x.1, x.2) :: rowPlaces (off + x.1) l

theorem fieldRow_cons (x : Nat × Nat) (l : List (Nat × Nat)) : fieldRow (x :: l) = beNat x.1 x.2 ++ fieldRow l := rfl

theorem length_fieldRow (l : List (Nat × Nat)) : (fieldRow l).length = (l.map Prod.fst).sum := by
  simp [fieldRow, List.length_flatMap]

/-- Each field of a row is read back, whatever stands before and behind the row. -/
theorem field_fieldRow (l : List (Nat × Nat)) (pre post : List Byte) :
    ∀ x ∈ rowPlaces pre.length l, field x.1 x.2.1 (pre ++ (fieldRow l ++ post)) = x.2.2 % 256 ^ x.2.1 := by
  induction l generalizing pre with
  | nil => exact fun _ hx => absurd hx List.not_mem_nil
  | cons y l ih =>
    intro x hx
    rw [fieldRow_cons, List.append_assoc]
    rcases List.mem_cons.mp hx with rfl | hx
    · have here := field_append_here (beNat y.1 y.2) (fieldRow l ++ post)
      rw [length_beNat] at here
      rw [field_append_skip _ _ _ _ le_rfl, Nat.sub_self, here, beToNat_beNat]
    · rw [← List.append_assoc]
      exact ih (pre ++ beNat y.1 y.2) x (by rwa [List.length_append, length_beNat])

theorem laid_fieldRow (l : List (Nat × Nat)) : Laid (fieldRow l) (l.map Prod.fst).sum (rowPlaces 0 l) :=
  ⟨length_fieldRow l, fun x hx => by simpa using field_fieldRow l [] [] x hx⟩

/-- A byte is a field of width 1. -/
theorem singleton_eq_beNat (b : Byte) : [b] = beNat 1 b.toNat := by simp [beNat]

/-! ## A sealed frame -/

/-- The header of a sealed frame. -/
def sealHeader (dest source : Node) (kind : Nat) (payload : List Byte) : List Byte :=
  fieldRow [(2, dest.toNat), (2, source.toNat), (1, kind), (1, 0), (2, payload.length)]

theorem length_sealHeader (dest source : Node) (kind : Nat) (payload : List Byte) :
    (sealHeader dest source kind payload).length = 8 := length_fieldRow _

section
variable (dest source : Node) (kind : Nat) (payload : List Byte)

theorem sealFrame_eq : sealFrame dest source kind payload =
    (sealHeader dest source kind payload ++ payload) ++
      beNat 4 (crc32 (sealHeader dest source kind payload ++ payload)).toNat := by
  simp [sealFrame, sealHeader, fieldRow]

theorem length_sealFrame : (sealFrame dest source kind payload).length = payload.length + 12 := by
  rw [sealFrame_eq, List.length_append, List.length_append, length_sealHeader, length_beNat]
  omega

theorem sealFrame_cut : (sealFrame dest source kind payload).length - 4 =
    (sealHeader dest source kind payload ++ payload).length := by
  rw [length_sealFrame, List.length_append, length_sealHeader]
  omega

theorem frameBody_sealFrame : frameBody (sealFrame dest source kind payload) = sealHeader dest source kind payload ++ payload := by
  rw [frameBody, sealFrame_cut, sealFrame_eq, List.take_left]

theorem frameTrailer_sealFrame :
    frameTrailer (sealFrame dest source kind payload) = crc32 (frameBody (sealFrame dest source kind payload)) := by
  rw [frameBody_sealFrame, frameTrailer, sealFrame_cut, sealFrame_eq, List.drop_left, beToNat_beNat]
  refine BitVec.eq_of_toNat_eq ?_
  rw [BitVec.toNat_ofNat]
  have := (crc32 (sealHeader dest source kind payload ++ payload)).isLt
  omega

theorem framePayload_sealFrame : framePayload (sealFrame dest source kind payload) = payload := by
  rw [framePayload, frameBody_sealFrame, ← length_sealHeader dest source kind payload, List.drop_left]

/-- The fields of the header, read from the whole frame. -/
theorem field_sealFrame : ∀ x ∈ rowPlaces 0 [(2, dest.toNat), (2, source.toNat), (1, kind), (1, 0), (2, payload.length)],
    field x.1 x.2.1 (sealFrame dest source kind payload) = x.2.2 % 256 ^ x.2.1 := by
  rw [sealFrame_eq, List.append_assoc]
  exact field_fieldRow _ [] _

theorem frameDest_sealFrame : frameDest (sealFrame dest source kind payload) = dest := by
  rw [frameDest, field_sealFrame dest source kind payload (0, 2, dest.toNat) (by simp [rowPlaces])]
  exact BitVec.eq_of_toNat_eq (by simpa using dest.isLt)

theorem frameSource_sealFrame : frameSource (sealFrame dest source kind payload) = source := by
  rw [frameSource, field_sealFrame dest source kind payload (2, 2, source.toNat) (by simp [rowPlaces])]
  exact BitVec.eq_of_toNat_eq (by simpa using source.isLt)

theorem frameKind_sealFrame (hk : kind < 256) : frameKind (sealFrame dest source kind payload) = kind := by
  rw [frameKind, field_sealFrame dest source kind payload (4, 1, kind) (by simp [rowPlaces])]
  exact Nat.mod_eq_of_lt hk

theorem frameFlags_sealFrame : frameFlags (sealFrame dest source kind payload) = 0 := by
  rw [frameFlags, field_sealFrame dest source kind payload (5, 1, 0) (by simp [rowPlaces])]
  rfl

theorem frameLength_sealFrame (hl : payload.length ≤ 1500) :
    frameLength (sealFrame dest source kind payload) = payload.length := by
  rw [frameLength, field_sealFrame dest source kind payload (6, 2, payload.length) (by simp [rowPlaces])]
  exact Nat.mod_eq_of_lt (show payload.length < 65536 by omega)

theorem lengthOk_sealFrame (hl : payload.length ≤ 1500) : lengthOk (sealFrame dest source kind payload) = true := by
  rw [lengthOk_iff, length_sealFrame, frameLength_sealFrame dest source kind payload hl]
  omega

end

/-! ## The payloads the part builds (11.2) -/

/-- The fields of an ALERT frame's payload (R157). -/
def alertRow (f : AlertFrame) : List (Nat × Nat) :=
  [(1, f.vector.toNat), (1, f.number.val), (1, f.level), (1, if f.edge then 0 else 0x81), (1, f.count), (3, 0),
    (4, f.detail.toNat), (4, f.timebase.toNat)]

/-- The fields before the data of a reply (R171). -/
def replyRow (f : ReplyFrame) : List (Nat × Nat) :=
  [(2, f.tag.toNat), (1, statusCode f.status), (1, f.kind.toNat), (2, f.count.toNat)]

/-- The fields before the records of a RECORD frame (R142). -/
def recordRow (f : RecordFrame) : List (Nat × Nat) := [(1, f.channel.val), (1, f.records.length), (4, f.seq.toNat)]

theorem alertPayload_eq (f : AlertFrame) : alertPayload f = fieldRow (alertRow f) := by
  have hpad : pad 3 = beNat 3 0 := by decide
  simp [alertPayload, alertRow, fieldRow, hpad, singleton_eq_beNat f.vector]

theorem replyPayload_eq (f : ReplyFrame) : replyPayload f = fieldRow (replyRow f) ++ f.data := by
  simp [replyPayload, replyRow, fieldRow, singleton_eq_beNat f.kind]

theorem recordPayload_eq (f : RecordFrame) :
    recordPayload f = fieldRow (recordRow f) ++ f.records.flatMap encodeRecord := by
  simp [recordPayload, recordRow, fieldRow]

/-- Settles O53: a sealed frame is its header's fields, its payload and its CRC, and each payload is a row of fields. -/
theorem sealedFramesPassTheChecks : Obligations.SealedFramesPassTheChecks := by
  refine ⟨fun node dest source kind payload hk hl => ⟨?_, length_sealFrame dest source kind payload,
      frameDest_sealFrame dest source kind payload, frameSource_sealFrame dest source kind payload,
      frameKind_sealFrame dest source kind payload hk, frameFlags_sealFrame dest source kind payload,
      framePayload_sealFrame dest source kind payload⟩,
    fun f => rfl, fun f => ⟨_, ?_, laid_fieldRow (alertRow f)⟩, fun f => ⟨_, ?_, laid_fieldRow (replyRow f)⟩,
    fun f => ⟨_, ?_, laid_fieldRow (recordRow f)⟩⟩
  · rw [verdict_sound node _ (lengthOk_sealFrame dest source kind payload hl) (frameTrailer_sealFrame dest source kind payload).symm,
      frameSource_sealFrame]
  · exact congrArg (sealFrame f.dest f.source 0x04) (alertPayload_eq f)
  · exact congrArg (sealFrame f.dest f.source 0x03) (replyPayload_eq f)
  · exact congrArg (sealFrame f.dest f.source 0x05) (recordPayload_eq f)

end Sys2Proof.Machine
end

section
/-! SUPPORT. The stream window table and the slots: which window a search ends at, and what a slot does with a frame (R24, R29 to R37). -/

namespace Sys2Proof.Machine

/-! ## The window search (R24) -/

theorem StreamWindow.hit_iff (w : StreamWindow) (tag : BitVec 32) :
    w.hit tag = true ↔ w.enabled = true ∧ tag &&& w.mask = w.base &&& w.mask := by
  simp [StreamWindow.hit]

/-- One pass of the search ends at the lowest window of the pass that the tag hits. -/
theorem firstHit_eq_some_iff (c : Classifier) (tag : BitVec 32) (sink : Bool) (i : Fin 16) :
    firstHit c tag sink = some i ↔
      ((c.windows[i].kind = .sink ↔ sink = true) ∧ c.windows[i].hit tag = true) ∧
        ∀ j < i, (c.windows[j].kind = .sink ↔ sink = true) → c.windows[j].hit tag = false := by
  rw [firstHit, ← Fin.find?_eq_find?_finRange, Fin.find?_eq_some_iff]
  cases sink <;> simp

theorem firstHit_eq_none_iff (c : Classifier) (tag : BitVec 32) (sink : Bool) :
    firstHit c tag sink = none ↔
      ∀ j : Fin 16, (c.windows[j].kind = .sink ↔ sink = true) → c.windows[j].hit tag = false := by
  cases sink <;> simp [firstHit]

/-- Settles O10: the SINK pass decides when it hits, and the pass of TAP and PASS windows otherwise. -/
theorem windowSearchOrder : Obligations.WindowSearchOrder := by
  refine ⟨StreamWindow.hit_iff, fun c tag i => ?_⟩
  rw [searchWindows]
  have hnone := firstHit_eq_none_iff c tag true
  have hother := firstHit_eq_some_iff c tag false i
  simp only [iff_true, Bool.false_eq_true, iff_false] at hnone hother
  cases hsink : firstHit c tag true with
  | some k =>
    have hk := (firstHit_eq_some_iff c tag true k).mp hsink
    simp only [iff_true] at hk
    obtain ⟨⟨hkind, hhit⟩, hlow⟩ := hk
    simp only [Option.some.injEq]
    constructor
    · rintro rfl
      exact ⟨hhit, .inl ⟨hkind, hlow⟩⟩
    · rintro ⟨hi, ⟨hik, hil⟩ | ⟨-, hno, -⟩⟩
      · rcases lt_trichotomy k i with hlt | heq | hgt
        · exact absurd (hhit.symm.trans (hil k hlt hkind)) (by decide)
        · exact heq
        · exact absurd (hi.symm.trans (hlow i hgt hik)) (by decide)
      · exact absurd (hhit.symm.trans (hno k hkind)) (by decide)
  | none =>
    have hno := hnone.mp hsink
    dsimp only
    rw [hother]
    constructor
    · rintro ⟨⟨hkind, hhit⟩, hlow⟩
      refine ⟨hhit, .inr ⟨hkind, hno, fun j hj => ?_⟩⟩
      by_cases hs : c.windows[j].kind = .sink
      · exact hno j hs
      · exact hlow j hj hs
    · rintro ⟨hhit, ⟨hkind, -⟩ | ⟨hkind, -, hlow⟩⟩
      · exact absurd (hhit.symm.trans (hno i hkind)) (by decide)
      · exact ⟨⟨hkind, hhit⟩, fun j hj _ => hlow j hj⟩

/-! ## A frame at a slot (R29 to R35) -/

theorem malformed_iff (x : List Byte) :
    malformed x = true ↔
      x.length < 14 ∨ 12800 ≤ field 8 2 x ∨ field 10 1 x = 0 ∨ 4 < field 10 1 x ∨ x.length ≠ 14 + 24 * field 10 1 x := by
  simp [malformed, or_assoc]

theorem Slot.take_malformed (now : Nat) (x : List Byte) (s : Slot) (h : malformed x = true) :
    s.take now x =
      { slot := { s with ctr := { s.ctr with frames := s.ctr.frames + 1, malformed := s.ctr.malformed + 1 } } } := by
  simp [Slot.take, h]

/-- Settles O14: the five conditions are those of `malformed`, and the slot takes nothing else of the frame. -/
theorem malformedFrameChangesNothingElse : Obligations.MalformedFrameChangesNothingElse :=
  fun now x s => ⟨malformed_iff x, s.take_malformed now x⟩

/-- The slot with a frame counted FRAMES. -/
def Slot.counted (s : Slot) : Slot := { s with ctr := { s.ctr with frames := s.ctr.frames + 1 } }

/-- A frame that is not usable is counted UNUSABLE (R30). -/
theorem Slot.take_unusable (now : Nat) (x : List Byte) (s : Slot) (hm : malformed x = false)
    (hu : ¬ ((sampleView x).sync = true ∧ ((sampleView x).test = true → s.cfg.acceptTest = true))) :
    s.take now x =
      { slot := { s with ctr := { s.ctr with frames := s.ctr.frames + 1, unusable := s.ctr.unusable + 1 } } } := by
  have hc : (!(sampleView x).sync || ((sampleView x).test && !s.cfg.acceptTest)) = true := by
    revert hu
    cases (sampleView x).sync <;> cases (sampleView x).test <;> cases s.cfg.acceptTest <;> simp
  simp [Slot.take, hm, hc]

/-- A usable frame is taken by the state of the slot (R30 to R32). -/
theorem Slot.take_usable (now : Nat) (x : List Byte) (s : Slot) (hm : malformed x = false)
    (hs : (sampleView x).sync = true) (ht : (sampleView x).test = true → s.cfg.acceptTest = true) :
    s.take now x = s.counted.usable now (sampleView x) := by
  have hc : (!(sampleView x).sync || ((sampleView x).test && !s.cfg.acceptTest)) = false := by
    revert ht
    cases (sampleView x).test <;> cases s.cfg.acceptTest <;> simp [hs]
  simp [Slot.take, hm, hc, Slot.counted]

/-- Settles O15: a usable frame is adopted in both states, and only LOST changes STREAM_LOST. -/
theorem idleAndLostSlotsAdopt : Obligations.IdleAndLostSlotsAdopt := by
  intro now x s hst hm hsync htest
  have htake := s.take_usable now x hm hsync htest
  have hcounted : s.counted.st = s.st := rfl
  rcases hst with h | h <;> rw [htake, Slot.usable, hcounted, h] <;>
    exact ⟨rfl, rfl, rfl, rfl, by simp⟩

/-! ### Delivered sets (R33, R34, R37) -/

theorem sampleView_sets_length (x : List Byte) : (sampleView x).sets.length = (sampleView x).setCount := by
  simp [sampleView]

theorem sampleView_sets_index (x : List Byte) :
    (sampleView x).sets.map (·.index) = (List.range (sampleView x).setCount).map ((sampleView x).first + ·) := by
  simp [sampleView, rawSet]

@[simp] theorem Slot.readopt_delivered (now : Nat) (v : SampleView) (s : Slot) : (s.readopt now v).delivered = [] := by
  rw [Slot.readopt]
  split <;> rfl

@[simp] theorem Slot.lateFrame_delivered (now : Nat) (v : SampleView) (back : Nat) (s : Slot) :
    (s.lateFrame now v back).delivered = [] := by
  rw [Slot.lateFrame]
  split
  · exact Slot.readopt_delivered now v s
  · dsimp only
    split
    · exact Slot.readopt_delivered now v _
    · rfl

/-- What a slot that delivers the sets of a frame is left as: LOCKED past them. -/
def Slot.Delivers (v : SampleView) (s : Slot) (y : SlotStep) : Prop :=
  y.slot.st = .locked ∧ y.delivered = v.sets ∧ s.expected.getD 0 ≤ v.first ∧
    y.slot.expected = some (v.first + v.setCount) ∧ y.slot.ctr.sets = s.ctr.sets + BitVec.ofNat 32 v.sets.length

theorem Slot.inSequence_delivers (now : Nat) (v : SampleView) (s : Slot) (he : v.first = s.expected.getD 0)
    (h : (s.inSequence now v).delivered ≠ []) : s.Delivers v (s.inSequence now v) := by
  revert h
  rw [Slot.inSequence]
  split
  · rename_i hl
    exact fun _ => ⟨hl, rfl, he.ge, rfl, rfl⟩
  · split
    · exact fun _ => ⟨rfl, rfl, he.ge, rfl, rfl⟩
    · exact fun h => absurd rfl h

theorem Slot.forwardGap_delivers (now : Nat) (v : SampleView) (g : Nat) (s : Slot) (he : s.expected.getD 0 < v.first)
    (h : (s.forwardGap now v g).delivered ≠ []) : s.Delivers v (s.forwardGap now v g) := by
  revert h
  rw [Slot.forwardGap]
  split
  · rename_i hl
    simp only [Bool.and_eq_true, decide_eq_true_eq] at hl
    exact fun _ => ⟨hl.1, rfl, he.le, rfl, rfl⟩
  · exact fun h => absurd (Slot.readopt_delivered now v s) h

theorem Slot.follow_delivers (now : Nat) (v : SampleView) (s : Slot) (h : (s.follow now v).delivered ≠ []) :
    s.Delivers v (s.follow now v) := by
  revert h
  rw [Slot.follow]
  split
  · rename_i he
    exact s.inSequence_delivers now v he
  · split
    · rename_i he
      exact s.forwardGap_delivers now v _ he
    · exact fun h => absurd (Slot.lateFrame_delivered now v _ s) h

/-- In ACQUIRING and LOCKED the latched tag decides (R32). -/
theorem Slot.usable_tracked (now : Nat) (v : SampleView) (s : Slot) (h : s.st = .acquiring ∨ s.st = .locked) :
    s.usable now v = if s.tag = some v.tag then s.follow now v
      else { slot := { s with ctr := { s.ctr with tagConflict := s.ctr.tagConflict + 1 } } } := by
  unfold Slot.usable
  rcases h with h | h <;> split <;> simp_all

theorem Slot.usable_delivers (now : Nat) (v : SampleView) (s : Slot) (h : (s.usable now v).delivered ≠ []) :
    s.Delivers v (s.usable now v) := by
  have htracked (hst : s.st = .acquiring ∨ s.st = .locked) : s.Delivers v (s.usable now v) := by
    revert h
    rw [s.usable_tracked now v hst]
    split
    · exact s.follow_delivers now v
    · exact fun h => absurd rfl h
  revert h
  cases hst : s.st with
  | disabled => rw [Slot.usable, hst]; exact fun h => absurd rfl h
  | idle => rw [Slot.usable, hst]; exact fun h => absurd rfl h
  | lost => rw [Slot.usable, hst]; exact fun h => absurd rfl h
  | acquiring => exact fun _ => htracked (.inl hst)
  | locked => exact fun _ => htracked (.inr hst)

/-- A frame from which a slot delivers is usable, and delivered as a usable frame is. -/
theorem Slot.take_delivers (now : Nat) (x : List Byte) (s : Slot) (h : (s.take now x).delivered ≠ []) :
    s.Delivers (sampleView x) (s.take now x) := by
  cases hm : malformed x with
  | true => rw [s.take_malformed now x hm] at h; exact absurd rfl h
  | false =>
    by_cases hu : (sampleView x).sync = true ∧ ((sampleView x).test = true → s.cfg.acceptTest = true)
    · rw [s.take_usable now x hm hu.1 hu.2] at h ⊢
      exact s.counted.usable_delivers now _ h
    · rw [s.take_unusable now x hm hu] at h; exact absurd rfl h

/-- A re-adopted slot, from LOCKED or not (R31). -/
theorem Slot.readopt_eq (now : Nat) (v : SampleView) (s : Slot) :
    s.readopt now v =
      { slot := { s.adopt now v with
          ctr := { s.ctr with reacquire := if s.st = .locked then s.ctr.reacquire + 1 else s.ctr.reacquire } }
        left := decide (s.st = .locked) } := by
  rw [Slot.readopt]
  split
  · rename_i h; simp [h]
  · rename_i h; simp [h, Slot.adopt]

/-- Settles O16: what is delivered comes from `follow` alone, and each clause is one of its branches. -/
theorem deliveredSetsRise : Obligations.DeliveredSetsRise := by
  refine ⟨fun now x s h => ?_, fun now e x s hm hsync htest hst he => ?_⟩
  · obtain ⟨hst, hdel, hle, hexp, hsets⟩ := s.take_delivers now x h
    refine ⟨hst, hdel, ?_, hle, hexp, ?_⟩
    · rw [hdel]; exact sampleView_sets_index x
    · rw [hsets, sampleView_sets_length]
  · have hgetD : s.counted.expected.getD 0 = e := by change s.expected.getD 0 = e; rw [he]; rfl
    have hlen := sampleView_sets_length x
    rw [s.take_usable now x hm hsync htest, s.counted.usable_tracked now _ hst]
    generalize sampleView x = v at hlen ⊢
    refine ⟨fun ht => if_neg ht, fun ht => ?_⟩
    rw [if_pos (show s.counted.tag = some v.tag from ht), Slot.follow, hgetD, ← hlen]
    have hreadopt : ∀ u : Slot, u.st = s.st → u.cfg = s.cfg → u.lostSeen = s.lostSeen → u.readopt now v =
        { slot := { s with
            lastUsable := some now, lateRun := 0, expected := some (v.first + v.sets.length), tag := some v.tag, good := 1
            st := .acquiring
            ctr := { u.ctr with reacquire := if s.st = .locked then u.ctr.reacquire + 1 else u.ctr.reacquire } }
          left := decide (s.st = .locked) } := by
      intro u hst hcfg hseen
      rw [Slot.readopt_eq, hlen, hst]
      simp [Slot.adopt, hcfg, hseen]
    refine ⟨fun hf hl => ?_, fun hf ha hg => ?_, fun hf ha hg => ?_, fun g hf hg hl hmax => ?_, fun g hf hg hr => ?_,
      fun hf => ?_, fun hf hle hrun => ?_, fun hf hle hrun => ?_⟩
    · rw [if_pos hf, Slot.inSequence, if_pos (show s.counted.st = .locked from hl), Slot.countSets, hlen, Slot.advance]
      rfl
    · rw [if_pos hf, Slot.inSequence, if_neg (show ¬ s.counted.st = .locked by change ¬ s.st = _; simp [ha]),
        if_pos (show s.counted.cfg.acquire ≤ s.counted.good + 1 from hg), Slot.countSets, hlen, Slot.advance]
      rfl
    · rw [if_pos hf, Slot.inSequence, if_neg (show ¬ s.counted.st = .locked by change ¬ s.st = _; simp [ha]),
        if_neg (show ¬ s.counted.cfg.acquire ≤ s.counted.good + 1 from Nat.not_le.mpr hg), hlen]
      rfl
    · have hgap : v.first - e = g := by omega
      rw [if_neg (by omega), if_pos (by omega), hgap, Slot.forwardGap, if_pos, Slot.countSets, hlen, Slot.advance]
      · rfl
      · simp only [Bool.and_eq_true, decide_eq_true_eq]; exact ⟨hl, hmax⟩
    · have hgap : v.first - e = g := by omega
      rw [if_neg (by omega), if_pos (by omega), hgap, Slot.forwardGap, if_neg]
      · exact hreadopt s.counted rfl rfl rfl
      · simp only [Bool.and_eq_true, decide_eq_true_eq, not_and, Nat.not_le]
        rintro (h : s.st = .locked)
        exact hr.resolve_left (by simp [h])
    · rw [if_neg (by omega), if_neg (by omega), Slot.lateFrame, if_pos (by omega)]
      exact hreadopt s.counted rfl rfl rfl
    · rw [if_neg (by omega), if_neg (by omega), Slot.lateFrame, if_neg (by omega)]
      refine (if_pos (show 8 ≤ s.lateRun + 1 from hrun)).trans ?_
      exact hreadopt { s.counted with
        lateRun := s.lateRun + 1, lastUsable := some now
        ctr := { s.counted.ctr with late := s.counted.ctr.late + 1 } } rfl rfl rfl
    · rw [if_neg (by omega), if_neg (by omega), Slot.lateFrame, if_neg (by omega)]
      exact if_neg (show ¬ 8 ≤ s.lateRun + 1 by omega)

end Sys2Proof.Machine
end

section
/-! SUPPORT. The tick of the timebase and the events that are due (R36, R94, R95, R194, R201). -/

namespace Sys2Proof.Machine

theorem dueFinish_eq_some_iff (s : State) (abandoned : Bool) (e : FinishEntry) (a : ActiveFinish) :
    s.dueFinish abandoned = some (e, a) ↔
      (∃ rest, s.finisher.queue = e :: rest) ∧ s.finisher.active = some a ∧ a.abandoned = abandoned ∧ a.due ≤ s.clock := by
  rw [State.dueFinish]
  cases hactive : s.finisher.active with
  | none => simp
  | some b =>
    cases hqueue : s.finisher.queue with
    | nil => simp
    | cons d rest =>
      simp only [Option.ite_none_right_eq_some, Bool.and_eq_true, decide_eq_true_eq, Option.some.injEq, Prod.mk.injEq,
        List.cons.injEq]
      constructor
      · rintro ⟨h, rfl, rfl⟩; exact ⟨⟨rest, rfl, rfl⟩, rfl, h⟩
      · rintro ⟨⟨_, rfl, -⟩, rfl, h⟩; exact ⟨h, rfl, rfl⟩

theorem lossDue_iff (now : Nat) (x : Slot) :
    x.lossDue now = true ↔ (x.st = .acquiring ∨ x.st = .locked) ∧ x.lastUsable.getD 0 + x.cfg.lossTimeout ≤ now := by
  simp [Slot.lossDue]

theorem dueLoad_isSome_iff (s : State) :
    s.dueLoad.isSome = true ↔ ∃ l, s.agent.load = some l ∧ l.lastActivity + 1000 ≤ s.clock / 1000 := by
  rw [State.dueLoad]
  cases s.agent.load with
  | none => simp
  | some l =>
    simp only [Option.some.injEq, exists_eq_left', Option.isSome_ite]
    exact Iff.rfl

theorem Ticket.due_iff (now : Nat) (k : Ticket) :
    k.due now = true ↔ (∃ i since, k = .waiting i since ∧ since + 5000 ≤ now) ∨
      ∃ i since copy, k = .ready i since copy ∧ since + 2000 ≤ now := by
  cases k with
  | free => simp [Ticket.due]
  | waiting i since => simp [Ticket.due]; exact Iff.rfl
  | ready i since copy => simp [Ticket.due]; exact Iff.rfl

/-- A finish due, abandoned or not, is the end of the finish under way. -/
theorem dueFinish_isSome_iff (s : State) (abandoned : Bool) :
    (s.dueFinish abandoned).isSome = true ↔
      ∃ e rest a, s.finisher.queue = e :: rest ∧ s.finisher.active = some a ∧ a.due ≤ s.clock ∧ a.abandoned = abandoned := by
  rw [Option.isSome_iff_exists]
  constructor
  · rintro ⟨⟨e, a⟩, h⟩
    obtain ⟨⟨rest, hq⟩, ha, hab, hdue⟩ := (dueFinish_eq_some_iff s abandoned e a).mp h
    exact ⟨e, rest, a, hq, ha, hdue, hab⟩
  · rintro ⟨e, rest, a, hq, ha, hdue, hab⟩
    exact ⟨(e, a), (dueFinish_eq_some_iff s abandoned e a).mpr ⟨⟨rest, hq⟩, ha, hab, hdue⟩⟩

theorem mem_dueEvents (s : State) (c : Instr) :
    c ∈ dueEvents s ↔
      ((s.dueFinish false).isSome = true ∧ c = .finishComplete ∨ (s.dueFinish true).isSome = true ∧ c = .abandonedFinish) ∨
      (∃ k : Fin 32, (s.slot k).lossDue (timebase s) = true ∧ c = .lossTimeout k) ∨
      (s.dueLoad.isSome = true ∧ c = .loadExpired) ∨
      ∃ q : Fin 4, s.agent.tickets[q].due (timebase s) = true ∧ c = .ticketExpired q := by
  simp only [dueEvents, List.mem_append, List.mem_ite_nil_right, List.mem_singleton, List.mem_map, List.mem_filter,
    List.mem_finRange, true_and, or_assoc, eq_comm (a := c)]

/-- The finish under way and due is completed, or ended when it is abandoned (R94, R95). -/
theorem finish_due_iff (s : State) (c : Instr) :
    ((s.dueFinish false).isSome = true ∧ c = .finishComplete ∨ (s.dueFinish true).isSome = true ∧ c = .abandonedFinish) ↔
      ∃ e rest a, s.finisher.queue = e :: rest ∧ s.finisher.active = some a ∧ a.due ≤ s.clock ∧
        c = if a.abandoned = true then .abandonedFinish else .finishComplete := by
  rw [dueFinish_isSome_iff, dueFinish_isSome_iff]
  constructor
  · rintro (⟨⟨e, rest, a, hq, ha, hdue, hab⟩, rfl⟩ | ⟨⟨e, rest, a, hq, ha, hdue, hab⟩, rfl⟩) <;>
      exact ⟨e, rest, a, hq, ha, hdue, by simp [hab]⟩
  · rintro ⟨e, rest, a, hq, ha, hdue, rfl⟩
    cases hab : a.abandoned with
    | false => exact .inl ⟨⟨e, rest, a, hq, ha, hdue, hab⟩, by simp⟩
    | true => exact .inr ⟨⟨e, rest, a, hq, ha, hdue, hab⟩, by simp⟩

theorem dueEvents_sublist (s : State) :
    (dueEvents s).Sublist ([.finishComplete, .abandonedFinish] ++ (List.finRange 32).map .lossTimeout ++ [.loadExpired] ++
      (List.finRange 4).map .ticketExpired) := by
  have hone : ∀ (b : Prop) [Decidable b] (c : Instr), (if b then [c] else []).Sublist [c] := by
    intro b _ c
    split
    · exact List.Sublist.refl _
    · exact List.nil_sublist _
  exact ((((hone _ _).append (hone _ _)).append (List.filter_sublist.map _)).append (hone _ _)).append
    (List.filter_sublist.map _)

/-- Settles O2: a step on an empty queue is the tick, and each kind of due event is a list of `dueEvents`. -/
theorem emptyQueueTicksTheClock : Obligations.EmptyQueueTicksTheClock := by
  refine ⟨fun s hp => ⟨fun hr => ?_, fun hr => ?_⟩, fun s c => ?_, dueEvents_sublist⟩
  · rw [step, hp, State.tick, hr]; rfl
  · rw [step, hp, State.tick, hr]; rfl
  · rw [mem_dueEvents, finish_due_iff, dueLoad_isSome_iff]
    simp only [lossDue_iff, Ticket.due_iff]
    refine or_congr Iff.rfl (or_congr (exists_congr fun k => and_comm.trans Iff.rfl) (or_congr and_comm (exists_congr fun q => ?_)))
    exact and_comm

end Sys2Proof.Machine
end

section
/-! SUPPORT. What a point's framer can do, as moves: every treatment of a paired set, of a lost or returned source and of a pending
configuration is a chain of them, so a law of a point that each move keeps is kept by them all (R49, R65 to R76). -/

namespace Sys2Proof.Machine

/-! ## What the laws of a point speak of -/

/-- The states of a bank without its sums (R69). -/
inductive BankState where
  | free | active | out
deriving DecidableEq

def Bank.state : Bank → BankState
  | .free => .free
  | .active _ => .active
  | .out _ => .out

/-- A point as its laws see it: no sums, counters, tracker or results, and of a window only that it is there and its bank. -/
structure PointOutline where
  cfg : PointCfg
  waitingCfg : Option PointCfg
  vLocked : Bool
  iLocked : Bool
  vQueue : List AlignEntry
  iQueue : List AlignEntry
  acc : Accumulators
  st : FramerState
  bank : BankIx → BankState
  windowIn : Option BankIx

def Point.outline (p : Point) : PointOutline :=
  { cfg := p.cfg, waitingCfg := p.waitingCfg, vLocked := p.vLocked, iLocked := p.iLocked, vQueue := p.vQueue
    iQueue := p.iQueue, acc := p.acc, st := p.framer.st, bank := fun ix => (p.framer.bank ix).state
    windowIn := p.framer.window.map (·.bank) }

@[simp] theorem Bank.fill_state (n : Nat) (x : Seven Int) (b : Bank) : (b.fill n x).state = b.state := by cases b <;> rfl

theorem Framer.bank_setBank (f : Framer) (ix jx : BankIx) (b : Bank) :
    (f.setBank ix b).bank jx = if jx = ix then b else f.bank jx := by
  cases ix <;> cases jx <;> rfl

/-- Positions filled leave every bank in its state. -/
theorem Framer.fill_state (f : Framer) (ix jx : BankIx) (n : Nat) (x : Seven Int) :
    ((f.setBank ix ((f.bank ix).fill n x)).bank jx).state = (f.bank jx).state := by
  rw [Framer.bank_setBank]
  split
  · rename_i h; rw [h, Bank.fill_state]
  · rfl

/-- No window is handed over. -/
def Quiet (es : List PointEvent) : Prop := ∀ e, .handOver e ∉ es

theorem Quiet.nil : Quiet [] := fun _ => List.not_mem_nil

theorem Quiet.append {a b : List PointEvent} (ha : Quiet a) (hb : Quiet b) : Quiet (a ++ b) :=
  fun e h => (List.mem_append.mp h).elim (ha e) (hb e)

theorem quiet_untrackedEvents (a b : Tracker) : Quiet (untrackedEvents a b) := by
  rw [untrackedEvents]
  split <;> simp [Quiet]

/-! ## Moves -/

/-- One move of a point's framer, with its events. -/
inductive Point.Move (ctx : PointCtx) : Point → PointStep → Prop
  | tallied {p q : Point} {es : List PointEvent} (h : q.outline = p.outline) (hes : Quiet es) : Move ctx p (q, es)
  | applied (p : Point) : Move ctx p (p.applyPending ctx)
  | entered {p : Point} (h : p.framer.st = .waiting) : Move ctx p (p.beginWindow ctx p.framer.freeIx, [])
  | begunAgain {p : Point} {w : Window} (hw : p.framer.window = some w) (h : p.framer.st = .collecting) :
      Move ctx p (p.beginWindow ctx w.bank, [])
  | handed {p : Point} {w v : Window} (hw : p.framer.window = some w) (h : p.framer.st = .collecting)
      (hv : v.bank = w.bank) (free : p.framer.bank (otherBank w.bank) = .free) :
      Move ctx p ((p.handOver v).andThen fun q =>
        (q.applyPending ctx).andThen fun r => (r.beginWindow ctx (otherBank w.bank), []))
  | held {p : Point} (h : p.framer.st = .collecting) : Move ctx p ({ p with framer := { p.framer with st := .held } }, [])
  | resumed {p : Point} (h : p.framer.st = .held) : Move ctx p ({ p with framer := { p.framer with st := .collecting } }, [])
  | givenUp {p : Point} (h : p.framer.st = .collecting) :
      Move ctx p ({ p.dropWindow with framer := { p.dropWindow.framer with st := .waiting } }, [])

/-- A chain of moves, with their events in order. -/
inductive Point.Moves (ctx : PointCtx) : Point → PointStep → Prop
  | none (p : Point) : Moves ctx p (p, [])
  | move {p : Point} {x : PointStep} (h : Point.Move ctx p x) : Moves ctx p x
  | append {p : Point} {x y : PointStep} (h : Moves ctx p x) (k : Moves ctx x.1 y) : Moves ctx p (y.1, x.2 ++ y.2)

/-- What each move keeps and what composes, a chain of moves keeps. -/
theorem Point.Moves.keeps {ctx : PointCtx} {Law : Point → PointStep → Prop} (hnone : ∀ p, Law p (p, []))
    (hmove : ∀ p x, Point.Move ctx p x → Law p x) (happend : ∀ p x y, Law p x → Law x.1 y → Law p (y.1, x.2 ++ y.2))
    {p : Point} {x : PointStep} (h : Point.Moves ctx p x) : Law p x := by
  induction h with
  | none p => exact hnone p
  | move h => exact hmove _ _ h
  | append _ _ ih₁ ih₂ => exact happend _ _ _ ih₁ ih₂

section Chains

variable {ctx : PointCtx} {p : Point}

theorem Point.Moves.andThen {x : PointStep} {f : Point → PointStep} (h : Point.Moves ctx p x)
    (k : Point.Moves ctx x.1 (f x.1)) : Point.Moves ctx p (x.andThen f) := .append h k

theorem Point.Moves.tally {q : Point} {es : List PointEvent} (h : q.outline = p.outline) (hes : Quiet es) :
    Point.Moves ctx p (q, es) := .move (.tallied h hes)

/-- A change the laws do not see, before a chain. -/
theorem Point.Moves.after {q : Point} {x : PointStep} (h : q.outline = p.outline) (k : Point.Moves ctx q x) :
    Point.Moves ctx p x := .append (.tally h Quiet.nil) k

/-- A quiet move before a chain that begins at its point. -/
theorem Point.Moves.before {q : Point} {x : PointStep} (h : Point.Move ctx p (q, [])) (k : Point.Moves ctx q x) :
    Point.Moves ctx p x := .append (.move h) k

end Chains

/-! ## What a pending configuration leaves of the framer (R49) -/

theorem Point.applyCfg_framer (ctx : PointCtx) (mark : Bool) (new : PointCfg) (p : Point) :
    (p.applyCfg ctx mark new).1.framer = { p.framer with trk := (p.applyCfg ctx mark new).1.framer.trk } := by
  simp only [Point.applyCfg]
  split <;> split <;> rfl

theorem Point.applyCfg_quiet (ctx : PointCtx) (mark : Bool) (new : PointCfg) (p : Point) :
    Quiet (p.applyCfg ctx mark new).2 := by
  simp only [Point.applyCfg]
  split
  · exact quiet_untrackedEvents _ _
  · exact Quiet.nil

theorem Point.applyPending_framer (ctx : PointCtx) (p : Point) :
    (p.applyPending ctx).1.framer = { p.framer with trk := (p.applyPending ctx).1.framer.trk } := by
  rw [Point.applyPending]
  split
  · rfl
  · exact Point.applyCfg_framer ctx true _ _

theorem Point.applyPending_quiet (ctx : PointCtx) (p : Point) : Quiet (p.applyPending ctx).2 := by
  rw [Point.applyPending]
  split
  · exact Quiet.nil
  · exact Point.applyCfg_quiet ctx true _ _

theorem Point.applyPending_st (ctx : PointCtx) (p : Point) : (p.applyPending ctx).1.framer.st = p.framer.st := by
  rw [Point.applyPending_framer]

theorem Point.applyPending_window (ctx : PointCtx) (p : Point) : (p.applyPending ctx).1.framer.window = p.framer.window := by
  rw [Point.applyPending_framer]

theorem Point.applyPending_bank (ctx : PointCtx) (p : Point) (ix : BankIx) :
    (p.applyPending ctx).1.framer.bank ix = p.framer.bank ix := by
  rw [Point.applyPending_framer]; cases ix <;> rfl

/-! ## The framer's treatments as chains -/

section Treatments

variable (ctx : PointCtx)

theorem Point.enterIfLocked_moves (p : Point) : Point.Moves ctx p (p.enterIfLocked ctx, []) := by
  rcases Point.enterIfLocked_cases ctx p with ⟨hst, -, h⟩ | ⟨-, h⟩
  · rw [h]; exact .move (.entered hst)
  · rw [h]; exact .none p

theorem Point.toWaiting_moves (p : Point) (h : p.framer.st = .collecting) : Point.Moves ctx p (p.toWaiting ctx) := by
  have happly : Point.Moves ctx p ({ p.dropWindow with framer := { p.dropWindow.framer with st := .waiting } }.applyPending ctx) :=
    .before (.givenUp h) (.move (.applied _))
  have := happly.append (Point.enterIfLocked_moves ctx _)
  rwa [List.append_nil] at this

theorem Point.discard_outline (r : DiscardReason) (n : Nat) (w : Window) (p : Point) :
    (p.discard r n w).1.outline = p.outline := rfl

theorem Point.discard_moves (r : DiscardReason) (n : Nat) (w : Window) (p : Point) : Point.Moves ctx p (p.discard r n w) :=
  .tally (Point.discard_outline r n w p) (by simp [Quiet])

theorem Point.sourceLost_moves (p : Point) (h : p.framer.st = .collecting) : Point.Moves ctx p (p.sourceLost ctx) := by
  rw [Point.sourceLost]
  split
  · exact Point.toWaiting_moves ctx p h
  · rename_i w _
    split
    · exact .after (q := { p with changeMark := p.changeMark || w.flags.firstAfterChange }) rfl
        (Point.toWaiting_moves ctx _ h)
    · split
      · exact (Point.discard_moves ctx _ _ _ p).andThen (Point.toWaiting_moves ctx _ h)
      · exact .move (.held h)

theorem Point.react_moves (p : Point) : Point.Moves ctx p (p.react ctx) := by
  rw [Point.react]
  split
  · rename_i h
    simp only [Bool.and_eq_true, decide_eq_true_eq] at h
    exact Point.sourceLost_moves ctx p h.1
  · exact Point.enterIfLocked_moves ctx p

/-- The window after a discard, in the bank of the one before. -/
theorem Point.nextWindow_moves (p : Point) (w : Window) (hw : p.framer.window = some w) (h : p.framer.st = .collecting) :
    Point.Moves ctx p (p.nextWindow ctx w.bank) := by
  refine (Point.Moves.move (.applied p)).andThen (.before (.begunAgain ?_ ?_) (Point.react_moves ctx _))
  · rw [Point.applyPending_window]; exact hw
  · rw [Point.applyPending_st]; exact h

theorem Point.restartWindow_moves (r : DiscardReason) (p : Point) (w v : Window) (hw : p.framer.window = some w)
    (hv : v.bank = w.bank) (h : p.framer.st = .collecting) : Point.Moves ctx p (p.restartWindow ctx r v) := by
  rw [Point.restartWindow, hv]
  exact (Point.discard_moves ctx _ _ _ p).andThen (Point.nextWindow_moves ctx _ w hw h)

theorem Point.trackerStep_moves (w : Window) (p : Point) : Point.Moves ctx p (p.trackerStep w) :=
  .tally rfl (quiet_untrackedEvents _ _)

/-- The end of a window after its hand-over: the rest of step 5 is one more reaction to the source states. -/
theorem Point.handOver_moves (p : Point) (w v : Window) (hw : p.framer.window = some w) (h : p.framer.st = .collecting)
    (hv : v.bank = w.bank) (free : p.framer.bank (otherBank w.bank) = .free) :
    Point.Moves ctx p ((p.handOver v).andThen (Point.nextWindow ctx (otherBank w.bank))) := by
  have hchain := (Point.Moves.move (.handed hw h hv free)).append (Point.react_moves ctx _)
  simp only [PointStep.andThen, List.append_nil, List.append_assoc] at hchain
  exact hchain

theorem Point.closeWindow_moves (p : Point) (w v : Window) (hw : p.framer.window = some w) (hv : v.bank = w.bank)
    (h : p.framer.st = .collecting) : Point.Moves ctx p (p.closeWindow ctx v) := by
  have discarded : ∀ r n, Point.Moves ctx p ((p.discard r n v).andThen (Point.nextWindow ctx w.bank)) :=
    fun r n => (Point.discard_moves ctx r n v p).andThen (Point.nextWindow_moves ctx _ w hw h)
  rw [Point.closeWindow, hv]
  split
  · exact discarded _ _
  · split
    · rename_i hfree
      exact Point.handOver_moves ctx p w v.ended hw h hv hfree
    · exact discarded _ _

theorem Point.windowEnd_moves (p : Point) (h : p.framer.st = .collecting) : Point.Moves ctx p (p.windowEnd ctx) := by
  rw [Point.windowEnd]
  split
  · exact .none p
  · rename_i w hw
    exact (Point.trackerStep_moves ctx w p).andThen (Point.closeWindow_moves ctx _ w w hw rfl h)

/-- A window of the same bank, with its positions filled: nothing the laws see. -/
theorem Point.filled_outline (p : Point) (w v : Window) (n : Nat) (x : Seven Int) (c : FramerCounters)
    (hw : p.framer.window = some w) (hv : v.bank = w.bank) :
    { p with framer := { p.framer.setBank w.bank ((p.framer.bank w.bank).fill n x) with
        window := some v, ctr := c } }.outline = p.outline := by
  have hbank : ∀ ix, (({ p.framer.setBank w.bank ((p.framer.bank w.bank).fill n x) with
      window := some v, ctr := c } : Framer).bank ix).state = (p.framer.bank ix).state := by
    intro ix
    rw [← Framer.fill_state p.framer w.bank ix n x]
    cases ix <;> rfl
  simp only [Point.outline, Framer.setBank_st, hw, Option.map_some, hv, PointOutline.mk.injEq, true_and, and_true]
  exact funext hbank

theorem Point.takeAt_moves (n : Nat) (x : PairedSet) (p : Point) (w v : Window) (hw : p.framer.window = some w)
    (hv : v.bank = w.bank) (h : p.framer.st = .collecting) : Point.Moves ctx p (p.takeAt ctx n x v) := by
  have hbank : (v.takeReal p.framer.trk.period n x).bank = w.bank := by
    rw [← hv, Window.takeReal, Window.examine_keeps]
  have hout := Point.filled_outline p w (v.takeReal p.framer.trk.period n x) n x.vals p.framer.ctr hw hbank
  have hctr : { p.framer.setBank w.bank ((p.framer.bank w.bank).fill n x.vals) with
      window := some (v.takeReal p.framer.trk.period n x), ctr := p.framer.ctr } =
      { p.framer.setBank w.bank ((p.framer.bank w.bank).fill n x.vals) with
        window := some (v.takeReal p.framer.trk.period n x) } := by cases w.bank <;> rfl
  rw [hctr] at hout
  rw [Point.takeAt, hv]
  split
  · exact .after hout (Point.windowEnd_moves ctx _ (by simpa using h))
  · exact .tally hout Quiet.nil

theorem Point.startWith_moves (x : PairedSet) (p : Point) : Point.Moves ctx p (p.startWith ctx x) := by
  rw [Point.startWith]
  split
  · rename_i w hst hw
    exact Point.takeAt_moves ctx 0 x p w _ hw rfl hst
  · exact .none p

theorem Point.bridge_outline (k : Nat) : ∀ p : Point, (p.bridge k).outline = p.outline := by
  induction k with
  | zero => intro p; rfl
  | succ k ih =>
    intro p
    rw [Point.bridge]
    split
    · rfl
    · rename_i w hw
      rw [ih]
      exact Point.filled_outline p w w.takeBridged _ _ _ hw rfl

/-- A set that starts a window after the end or the discard of the one before it (notes/assumptions/15.md). -/
theorem Point.Moves.startWith {p : Point} {y : PointStep} (h : Point.Moves ctx p y) (x : PairedSet) :
    Point.Moves ctx p (y.andThen (Point.startWith ctx x)) := h.andThen (Point.startWith_moves ctx x _)

theorem Point.bridge_st (k : Nat) (p : Point) : (p.bridge k).framer.st = p.framer.st :=
  congrArg PointOutline.st (Point.bridge_outline k p)

theorem Point.bridgeGap_moves (x : PairedSet) (g s : Nat) (w : Window) (p : Point) (h : p.framer.st = .collecting) :
    Point.Moves ctx p (p.bridgeGap ctx x g s w) := by
  rw [Point.bridgeGap]
  split
  · exact .startWith ctx (.after (Point.bridge_outline _ p) (Point.windowEnd_moves ctx _ ((Point.bridge_st _ p).trans h))) x
  · refine .after (Point.bridge_outline g p) ?_
    dsimp only
    split
    · exact .none _
    · rename_i v hv
      exact Point.takeAt_moves ctx _ x _ v v hv rfl ((Point.bridge_st _ p).trans h)

theorem Point.skipGap_moves (x : PairedSet) (s : Nat) (w : Window) (p : Point) (hw : p.framer.window = some w)
    (h : p.framer.st = .collecting) : Point.Moves ctx p (p.skipGap ctx x s w) := by
  rw [Point.skipGap]
  split
  · exact Point.takeAt_moves ctx _ x p w w hw rfl h
  · exact .startWith ctx (Point.windowEnd_moves ctx p h) x

theorem Point.gap_moves (x : PairedSet) (g s : Nat) (w : Window) (p : Point) (hw : p.framer.window = some w)
    (h : p.framer.st = .collecting) : Point.Moves ctx p (p.gap ctx x g s w) := by
  have restarted : Point.Moves ctx p ((p.restartWindow ctx .gap w).andThen (Point.startWith ctx x)) :=
    .startWith ctx (Point.restartWindow_moves ctx .gap p w w hw rfl h) x
  rw [Point.gap]
  split
  · exact Point.skipGap_moves ctx x s w p hw h
  · split
    · exact Point.bridgeGap_moves ctx x g s w p h
    · exact restarted
  · exact restarted

/-- A paired set reaching the framer is a chain of moves. -/
theorem Point.frame_moves (x : PairedSet) (p : Point) : Point.Moves ctx p (p.frame ctx x) := by
  rw [Point.frame]
  split
  · rename_i w hst hw
    split
    · exact Point.startWith_moves ctx x p
    · dsimp only
      split
      · exact Point.takeAt_moves ctx _ x p w w hw rfl hst
      · split
        · exact Point.gap_moves ctx x _ _ w p hw hst
        · exact .startWith ctx (Point.restartWindow_moves ctx .stepBack p w w hw rfl hst) x
  · exact .none p

end Treatments

end Sys2Proof.Machine
end

section
/-! SUPPORT. What every treatment of a point keeps: its configurations in range, its remainders, its agreement, the law of its banks
and the windows it hands over, and the law of its alignment queues (R45, R48, R55, R65, R69, R111). -/

namespace Sys2Proof.Machine

/-! ## Laws of one point -/

/-- The configurations of a point, in force and pending, are in their ranges (R45). -/
def Point.CfgsLegal (p : Point) : Prop := p.cfg.Legal ∧ ∀ c, p.waitingCfg = some c → c.Legal

/-- With one bank at most on the Finish Queue, it alone is OUT, and the bank of the current window alone is ACTIVE (R69). -/
def BankLaw (queued : Option BankIx) (p : Point) : Prop :=
  ∀ ix, ((p.framer.bank ix).state = .out ↔ queued = some ix) ∧
    ((p.framer.bank ix).state = .active ↔ p.framer.window.map (·.bank) = some ix)

/-- The events of a point take its bank on the Finish Queue from one value to another: a window is handed over only while no
bank of the point is queued, and its bank then is. -/
inductive Handed : Option BankIx → List PointEvent → Option BankIx → Prop
  | nil (o : Option BankIx) : Handed o [] o
  | quiet {o o' : Option BankIx} {v : PointEvent} {es : List PointEvent} (h : ∀ e, v ≠ .handOver e) (k : Handed o es o') :
      Handed o (v :: es) o'
  | hand {o' : Option BankIx} {es : List PointEvent} (e : FinishEntry) (k : Handed (some e.bank) es o') :
      Handed none (.handOver e :: es) o'

theorem Handed.append {o₁ o₂ o₃ : Option BankIx} {a b : List PointEvent} (h : Handed o₁ a o₂) (k : Handed o₂ b o₃) :
    Handed o₁ (a ++ b) o₃ := by
  induction h with
  | nil => exact k
  | quiet hv _ ih => exact .quiet hv (ih k)
  | hand e _ ih => exact .hand e (ih k)

theorem Handed.of_quiet {es : List PointEvent} (h : Quiet es) (o : Option BankIx) : Handed o es o := by
  induction es with
  | nil => exact .nil o
  | cons v es ih =>
    exact .quiet (fun e hv => h e (by rw [hv]; exact List.mem_cons_self)) (ih fun e he => h e (List.mem_cons_of_mem v he))

/-- What a treatment of a point keeps of its configurations, remainders, framer and banks. -/
structure Point.Kept (p : Point) (x : PointStep) : Prop where
  acc : x.1.acc = p.acc
  cfgs : p.CfgsLegal → x.1.CfgsLegal
  sound : p.Sound → x.1.Sound
  banks : p.Sound → ∀ o, BankLaw o p → ∃ o', Handed o x.2 o' ∧ BankLaw o' x.1

theorem Point.Kept.none (p : Point) : p.Kept (p, []) :=
  { acc := rfl, cfgs := id, sound := id, banks := fun _ o h => ⟨o, .nil o, h⟩ }

theorem Point.Kept.append {p : Point} {x y : PointStep} (h : p.Kept x) (k : x.1.Kept y) : p.Kept (y.1, x.2 ++ y.2) where
  acc := k.acc.trans h.acc
  cfgs hp := k.cfgs (h.cfgs hp)
  sound hp := k.sound (h.sound hp)
  banks hp o hb := by
    obtain ⟨o₁, h₁, b₁⟩ := h.banks hp o hb
    obtain ⟨o₂, h₂, b₂⟩ := k.banks (h.sound hp) o₁ b₁
    exact ⟨o₂, h₁.append h₂, b₂⟩

/-! ## The laws read the framer and the configurations alone -/

/-- The state, window and banks of the framer as the laws see them. -/
def SameFraming (f g : Framer) : Prop :=
  g.st = f.st ∧ g.window.map (·.bank) = f.window.map (·.bank) ∧ ∀ ix, (g.bank ix).state = (f.bank ix).state

theorem SameFraming.refl (f : Framer) : SameFraming f f := ⟨rfl, rfl, fun _ => rfl⟩

theorem SameFraming.window_isSome {f g : Framer} (h : SameFraming f g) : g.window.isSome = f.window.isSome := by
  rw [← Option.isSome_map (f := (·.bank)) (x := g.window), h.2.1, Option.isSome_map]

theorem BankLaw.congr {p q : Point} {o : Option BankIx} (hw : q.framer.window.map (·.bank) = p.framer.window.map (·.bank))
    (hb : ∀ ix, (q.framer.bank ix).state = (p.framer.bank ix).state) (hp : BankLaw o p) : BankLaw o q := by
  intro ix
  rw [hb, hw]
  exact hp ix

/-- A change beside the framer's state, the configurations and the accumulators keeps every law of this kind. -/
theorem Point.Kept.of_same {p q : Point} {es : List PointEvent} (hes : Quiet es) (hc : q.cfg = p.cfg)
    (hw : q.waitingCfg = p.waitingCfg) (ha : q.acc = p.acc) (hf : SameFraming p.framer q.framer) : p.Kept (q, es) where
  acc := ha
  cfgs h := by unfold Point.CfgsLegal; rw [hc, hw]; exact h
  sound h := by
    unfold Point.Sound
    rw [hc, hw, hf.window_isSome, hf.1]
    exact h
  banks _ o h := ⟨o, .of_quiet hes o, h.congr hf.2.1 hf.2.2⟩

/-! ## A configuration put in force (R49) -/

section Apply

variable (ctx : PointCtx) (mark : Bool) (new : PointCfg) (p : Point)

@[simp] theorem Point.applyCfg_cfg : (p.applyCfg ctx mark new).1.cfg = new := by
  simp only [Point.applyCfg]
  split <;> split <;> rfl

@[simp] theorem Point.applyCfg_waitingCfg : (p.applyCfg ctx mark new).1.waitingCfg = p.waitingCfg := by
  simp only [Point.applyCfg]
  split <;> split <;> rfl

@[simp] theorem Point.applyCfg_acc : (p.applyCfg ctx mark new).1.acc = p.acc := by
  simp only [Point.applyCfg]
  split <;> split <;> rfl

@[simp] theorem Point.applyCfg_st : (p.applyCfg ctx mark new).1.framer.st = p.framer.st := by rw [Point.applyCfg_framer]

@[simp] theorem Point.applyCfg_window : (p.applyCfg ctx mark new).1.framer.window = p.framer.window := by
  rw [Point.applyCfg_framer]

theorem Point.applyCfg_framing : SameFraming p.framer (p.applyCfg ctx mark new).1.framer := by
  rw [Point.applyCfg_framer]
  exact ⟨rfl, rfl, fun ix => by cases ix <;> rfl⟩

/-- A slot is LOCKED in what a point reads. -/
def PointCtx.locked (ctx : PointCtx) (k : Fin 32) : Bool := decide (ctx.slots[k].st = .locked)

/-- Another binding empties the queues and takes the source states afresh; the same binding keeps slots, source states and
queues (R49, 1). -/
theorem Point.applyCfg_pairing :
    (let q := (p.applyCfg ctx mark new).1
     (q.vQueue = [] ∧ q.iQueue = [] ∧ q.vLocked = ctx.locked new.vSlot ∧ q.iLocked = ctx.locked new.iSlot) ∨
       (new.vSlot = p.cfg.vSlot ∧ new.iSlot = p.cfg.iSlot ∧ q.vQueue = p.vQueue ∧ q.iQueue = p.iQueue ∧
         q.vLocked = p.vLocked ∧ q.iLocked = p.iLocked)) := by
  simp only [Point.applyCfg]
  by_cases hb : bindingDiffers p.cfg new = true
  · left
    rw [if_pos hb]
    split <;> exact ⟨rfl, rfl, rfl, rfl⟩
  · right
    have hslots : new.vSlot = p.cfg.vSlot ∧ new.iSlot = p.cfg.iSlot := by
      simp only [bindingDiffers, Bool.or_eq_true, decide_eq_true_eq, not_or, not_not] at hb
      exact ⟨hb.1.1.1.symm, hb.1.1.2.symm⟩
    rw [if_neg hb]
    refine ⟨hslots.1, hslots.2, ?_⟩
    split <;> exact ⟨rfl, rfl, rfl, rfl⟩

end Apply

/-- A pending configuration is put in force and is no longer pending; without one nothing happens. -/
theorem Point.applyPending_cases (ctx : PointCtx) (p : Point) :
    (p.waitingCfg = none ∧ p.applyPending ctx = (p, [])) ∨
      ∃ c, p.waitingCfg = some c ∧ p.applyPending ctx = { p with waitingCfg := none }.applyCfg ctx true c := by
  rw [Point.applyPending]
  split
  · rename_i h; exact .inl ⟨h, rfl⟩
  · rename_i c h; exact .inr ⟨c, h, rfl⟩

/-- A sound point that holds a pending configuration is enabled, before and after it is applied (R48). -/
theorem Point.Sound.pending {p : Point} (h : p.Sound) {c : PointCfg} (hc : p.waitingCfg = some c) :
    c.enabled = true ∧ p.framer.st ≠ .disabled ∧ p.cfg.enabled = true := by
  obtain ⟨-, hst, hpend⟩ := h
  obtain ⟨hon, hne⟩ := hpend c hc
  refine ⟨hon, hne, ?_⟩
  cases he : p.cfg.enabled with
  | false => exact absurd (hst.mpr he) hne
  | true => rfl

theorem Point.applyPending_kept (ctx : PointCtx) (p : Point) : p.Kept (p.applyPending ctx) := by
  rcases Point.applyPending_cases ctx p with ⟨-, h⟩ | ⟨c, hc, h⟩
  · rw [h]; exact .none p
  · have hf : SameFraming p.framer (p.applyPending ctx).1.framer := by
      rw [h]; exact Point.applyCfg_framing ctx true c { p with waitingCfg := none }
    refine ⟨?_, fun hl => ?_, fun hs => ?_, fun _ o hb => ⟨o, .of_quiet (Point.applyPending_quiet ctx p) o, hb.congr hf.2.1 hf.2.2⟩⟩
    · rw [h, Point.applyCfg_acc]
    · rw [h]
      unfold Point.CfgsLegal
      rw [Point.applyCfg_cfg, Point.applyCfg_waitingCfg]
      exact ⟨hl.2 c hc, fun d hd => by simp at hd⟩
    · obtain ⟨hon, hne, -⟩ := hs.pending hc
      unfold Point.Sound
      rw [hf.window_isSome, hf.1, h, Point.applyCfg_cfg, Point.applyCfg_waitingCfg]
      refine ⟨hs.1, ?_, fun d hd => by simp at hd⟩
      simp [hne, hon]

/-! ## Banks -/

theorem BankIx.eq_or_other (ix jx : BankIx) : jx = ix ∨ jx = otherBank ix := by cases ix <;> cases jx <;> simp [otherBank]

theorem otherBank_ne (ix : BankIx) : otherBank ix ≠ ix := by cases ix <;> simp [otherBank]

theorem otherBank_otherBank (ix : BankIx) : otherBank (otherBank ix) = ix := by cases ix <;> rfl

/-- A window begun: its bank is ACTIVE and it is current; the other bank is as it was. -/
theorem BankLaw.begun {p : Point} {o : Option BankIx} (ctx : PointCtx) (ix : BankIx) (hix : o ≠ some ix)
    (hother : (p.framer.bank (otherBank ix)).state = .out ↔ o = some (otherBank ix))
    (hidle : (p.framer.bank (otherBank ix)).state ≠ .active) : BankLaw o (p.beginWindow ctx ix) := by
  obtain ⟨-, hw, -, -, -⟩ := Point.beginWindow_framer ctx ix p
  have hbank : ∀ jx, ((p.beginWindow ctx ix).framer.bank jx).state =
      if jx = ix then .active else (p.framer.bank jx).state := by
    intro jx
    cases ix <;> cases jx <;> rfl
  intro jx
  rw [hbank, hw, Option.map_some, Option.some.injEq]
  change _ ∧ (_ ↔ ix = jx)
  rcases BankIx.eq_or_other ix jx with rfl | rfl
  · simp [hix]
  · rw [if_neg (otherBank_ne ix)]
    exact ⟨hother, by simp [hidle, (otherBank_ne ix).symm]⟩

/-- Without a current window no bank is ACTIVE. -/
theorem BankLaw.idle {p : Point} {o : Option BankIx} (h : BankLaw o p) (hw : p.framer.window = none) (ix : BankIx) :
    (p.framer.bank ix).state ≠ .active := fun ha => by
  have := (h ix).2.mp ha
  simp [hw] at this

/-- The window at entry from WAITING is begun in a bank that is not OUT (R66). -/
theorem BankLaw.freeIx {p : Point} {o : Option BankIx} (h : BankLaw o p) (hw : p.framer.window = none) :
    o ≠ some p.framer.freeIx := by
  have hidle := h.idle hw .first
  rw [Framer.freeIx]
  split
  · rename_i hfree
    intro ho
    have := (h .first).1.mpr ho
    rw [Framer.bank, hfree] at this
    cases this
  · rename_i hbusy
    intro ho
    have hne : (p.framer.bank .first).state ≠ .out := fun hout => by
      have := (h .first).1.mp hout
      rw [ho] at this
      cases this
    apply hbusy
    change p.framer.bank .first = .free
    cases hb : p.framer.bank .first with
    | free => rfl
    | active b => rw [hb] at hidle; exact absurd rfl hidle
    | out b => rw [hb] at hne; exact absurd rfl hne

theorem Bank.released_state (b : Bank) : b.released.state = if b.state = .out then .out else .free := by
  cases b <;> rfl

/-- The current window given up: no bank is ACTIVE, and an OUT bank stays (R74). -/
theorem BankLaw.dropped {p : Point} {o : Option BankIx} (h : BankLaw o p) : BankLaw o p.dropWindow := by
  intro ix
  have hbank : (p.dropWindow.framer.bank ix).state = if (p.framer.bank ix).state = .out then .out else .free := by
    rw [← Bank.released_state]; cases ix <;> rfl
  have hwindow : p.dropWindow.framer.window = none := rfl
  rw [hbank, hwindow, ← (h ix).1]
  split <;> simp_all

/-! ## Each move keeps them -/

/-- A window stands exactly in COLLECTING and HELD. -/
theorem Point.Sound.no_window {p : Point} (h : p.Sound) (hst : p.framer.st = .waiting ∨ p.framer.st = .disabled) :
    p.framer.window = none := by
  rw [← Option.not_isSome_iff_eq_none, h.1]
  rcases hst with hst | hst <;> simp [hst]

theorem Point.Sound.beginWindow {p : Point} (ctx : PointCtx) (ix : BankIx) (h : p.framer.st = .disabled ↔ p.cfg.enabled = false)
    (hst : p.framer.st ≠ .disabled) (hpend : ∀ c, p.waitingCfg = some c → c.enabled = true) : (p.beginWindow ctx ix).Sound := by
  obtain ⟨hcol, hw, -, -, -⟩ := Point.beginWindow_framer ctx ix p
  refine ⟨by simp [hcol, hw], ?_, fun c hc => ⟨hpend c hc, by simp [hcol]⟩⟩
  change _ ↔ p.cfg.enabled = false
  rw [← h]
  simp [hcol, hst]

theorem Point.Sound.pending_enabled {p : Point} (h : p.Sound) (c : PointCfg) (hc : p.waitingCfg = some c) : c.enabled = true :=
  (h.2.2 c hc).1

/-- A window begun in a bank that is not OUT, by a point whose other bank is not ACTIVE. -/
theorem Point.beginWindow_kept (ctx : PointCtx) (ix : BankIx) (p : Point) (hst : p.framer.st ≠ .disabled)
    (hb : p.Sound → ∀ o, BankLaw o p → o ≠ some ix ∧ (p.framer.bank (otherBank ix)).state ≠ .active) :
    p.Kept (p.beginWindow ctx ix, []) where
  acc := rfl
  cfgs h := h
  sound h := Point.Sound.beginWindow ctx ix h.2.1 hst h.pending_enabled
  banks h o hl := ⟨o, .nil o, BankLaw.begun ctx ix (hb h o hl).1 (hl _).1 (hb h o hl).2⟩

theorem Framer.bank_eta (f : Framer) (st : FramerState) (ix : BankIx) : ({ f with st := st } : Framer).bank ix = f.bank ix := by
  cases ix <;> rfl

/-- A framer state that stands with the same window: HELD for COLLECTING and back. -/
theorem Point.restate_kept (p : Point) (st : FramerState) (h : st = .collecting ∨ st = .held)
    (hp : p.framer.st = .collecting ∨ p.framer.st = .held) : p.Kept ({ p with framer := { p.framer with st := st } }, []) where
  acc := rfl
  cfgs h := h
  sound hs := by
    have hd : p.framer.st ≠ .disabled := by rcases hp with e | e <;> simp [e]
    have hd' : st ≠ .disabled := by rcases h with e | e <;> simp [e]
    refine ⟨?_, ?_, fun c hc => ⟨hs.pending_enabled c hc, hd'⟩⟩
    · exact iff_of_true (hs.1.mpr hp) h
    · exact iff_of_false hd' fun e => hd (hs.2.1.mpr e)
  banks _ o hl := ⟨o, .nil o, fun ix => by rw [Framer.bank_eta]; exact hl ix⟩

/-- The window handed over: its bank, ACTIVE before, is OUT, and no window is current (R69). -/
theorem BankLaw.handOver {p : Point} {o : Option BankIx} {w v : Window} (h : BankLaw o p) (hw : p.framer.window = some w)
    (hv : v.bank = w.bank) (free : p.framer.bank (otherBank w.bank) = .free) :
    o = none ∧ BankLaw (some w.bank) (p.handOver v).1 := by
  have hactive : (p.framer.bank w.bank).state = .active := (h w.bank).2.mpr (by rw [hw]; rfl)
  have ho : o = none := by
    cases ho : o with
    | none => rfl
    | some ix =>
      have hout := (h ix).1.mpr ho
      rcases BankIx.eq_or_other w.bank ix with rfl | rfl
      · rw [hactive] at hout; cases hout
      · rw [free] at hout; cases hout
  refine ⟨ho, fun ix => ?_⟩
  have hbank : ((p.handOver v).1.framer.bank ix).state =
      if ix = w.bank then (p.framer.bank w.bank).handed.state else (p.framer.bank ix).state := by
    rw [Point.handOver, hv]
    cases w.bank <;> cases ix <;> rfl
  have hnone : (p.handOver v).1.framer.window = none := rfl
  have hhanded : (p.framer.bank w.bank).handed.state = .out := by
    cases hb : p.framer.bank w.bank with
    | active b => rfl
    | free => rw [hb] at hactive; cases hactive
    | out b => rw [hb] at hactive; cases hactive
  rw [hbank, hnone, hhanded]
  rcases BankIx.eq_or_other w.bank ix with rfl | rfl
  · simp
  · rw [if_neg (otherBank_ne _), free]
    simp [Bank.state, (otherBank_ne w.bank).symm]

theorem Point.handed_kept (ctx : PointCtx) {p : Point} {w v : Window} (hw : p.framer.window = some w)
    (hst : p.framer.st = .collecting) (hv : v.bank = w.bank) (free : p.framer.bank (otherBank w.bank) = .free) :
    p.Kept ((p.handOver v).andThen fun q =>
      (q.applyPending ctx).andThen fun r => (r.beginWindow ctx (otherBank w.bank), [])) := by
  have hpend := Point.applyPending_kept ctx (p.handOver v).1
  have hstate : ((p.handOver v).1.applyPending ctx).1.framer.st = .collecting := by
    rw [Point.applyPending_st]; simpa [Point.handOver] using hst
  refine ⟨hpend.acc, hpend.cfgs, fun hs => ?_, fun hs o hl => ?_⟩
  · have hen : p.cfg.enabled = true := by
      have := hs.2.1
      rw [hst] at this
      simpa using this
    have key : ((p.handOver v).1.applyPending ctx).1.cfg.enabled = true ∧
        ∀ c, ((p.handOver v).1.applyPending ctx).1.waitingCfg = some c → c.enabled = true := by
      rcases Point.applyPending_cases ctx (p.handOver v).1 with ⟨hn, h⟩ | ⟨c, hc, h⟩
      · rw [h]; exact ⟨hen, fun c hc => by rw [hn] at hc; cases hc⟩
      · rw [h, Point.applyCfg_cfg, Point.applyCfg_waitingCfg]
        exact ⟨hs.pending_enabled c hc, fun d hd => by cases hd⟩
    exact Point.Sound.beginWindow ctx _ (by rw [hstate, key.1]; simp) (by rw [hstate]; simp) key.2
  · obtain ⟨rfl, hb⟩ := hl.handOver hw hv free
    have hb' : BankLaw (some w.bank) ((p.handOver v).1.applyPending ctx).1 :=
      hb.congr (by rw [Point.applyPending_window]) fun ix => by rw [Point.applyPending_bank]
    have hnone : ((p.handOver v).1.applyPending ctx).1.framer.window = none := by rw [Point.applyPending_window]; rfl
    refine ⟨some w.bank, ?_, BankLaw.begun ctx _ ?_ ?_ (hb'.idle hnone _)⟩
    · have hq := Handed.of_quiet ((Point.applyPending_quiet ctx (p.handOver v).1).append Quiet.nil) (some w.bank)
      rw [← hv] at hq ⊢
      exact Handed.hand (finishEntry (p.handOver v).1 v) hq
    · simp [(otherBank_ne w.bank).symm]
    · rw [otherBank_otherBank]; exact (hb' _).1

theorem Point.Move.kept {ctx : PointCtx} {p : Point} {x : PointStep} (h : Point.Move ctx p x) : p.Kept x := by
  cases h with
  | tallied h hes =>
    exact .of_same hes (congrArg PointOutline.cfg h) (congrArg PointOutline.waitingCfg h) (congrArg PointOutline.acc h)
      ⟨congrArg PointOutline.st h, congrArg PointOutline.windowIn h, fun ix => congrFun (congrArg PointOutline.bank h) ix⟩
  | applied => exact Point.applyPending_kept ctx p
  | entered h =>
    refine Point.beginWindow_kept ctx _ p (by simp [h]) fun hs o hl => ?_
    have hw := hs.no_window (.inl h)
    exact ⟨hl.freeIx hw, hl.idle hw _⟩
  | begunAgain hw h =>
    rename_i w
    refine Point.beginWindow_kept ctx _ p (by simp [h]) fun hs o hl => ⟨fun ho => ?_, fun ha => ?_⟩
    · have hout := (hl w.bank).1.mpr ho
      rw [(hl w.bank).2.mpr (by rw [hw]; rfl)] at hout
      cases hout
    · have := (hl _).2.mp ha
      rw [hw, Option.map_some, Option.some.injEq] at this
      exact otherBank_ne w.bank this.symm
  | handed hw h hv free => exact Point.handed_kept ctx hw h hv free
  | held h => exact Point.restate_kept p .held (.inr rfl) (.inl h)
  | resumed h => exact Point.restate_kept p .collecting (.inl rfl) (.inr h)
  | givenUp h =>
    refine ⟨rfl, id, fun hs => ?_, fun hs o hl => ⟨o, .nil o, ?_⟩⟩
    · have hen := hs.2.1
      rw [h] at hen
      exact ⟨by simp [Point.dropWindow], iff_of_false (by simp) fun e => by simpa using hen.mpr e,
        fun c hc => ⟨hs.pending_enabled c hc, by simp⟩⟩
    · exact hl.dropped.congr rfl fun ix => by rw [Framer.bank_eta]

theorem Point.Moves.kept {ctx : PointCtx} {p : Point} {x : PointStep} (h : Point.Moves ctx p x) : p.Kept x :=
  h.keeps Point.Kept.none (fun _ _ m => m.kept) fun _ _ _ => Point.Kept.append

end Sys2Proof.Machine
end

section
/-! SUPPORT. The law of a point's alignment queues through every treatment of the point, and what the treatments a slot, a write and a
point reset bring keep of a point (R48 to R61, R83, R183). -/

namespace Sys2Proof.Machine

/-! ## Alignment queues (R55 to R57) -/

/-- An alignment queue: at most 16 entries in strictly increasing index, all before a bound (R55). -/
def QueueLaw (bound : Nat) (q : List AlignEntry) : Prop :=
  q.length ≤ Config.alignRoom ∧ q.Pairwise (fun y z => y.index < z.index) ∧ ∀ y ∈ q, y.index < bound

theorem QueueLaw.nil (bound : Nat) : QueueLaw bound [] := ⟨Nat.zero_le _, .nil, fun _ h => absurd h List.not_mem_nil⟩

theorem QueueLaw.mono {m n : Nat} {q : List AlignEntry} (h : QueueLaw m q) (hmn : m ≤ n) : QueueLaw n q :=
  ⟨h.1, h.2.1, fun y hy => Nat.lt_of_lt_of_le (h.2.2 y hy) hmn⟩

theorem QueueLaw.sublist {n : Nat} {q l : List AlignEntry} (h : QueueLaw n q) (hl : l.Sublist q) : QueueLaw n l :=
  ⟨hl.length_le.trans h.1, h.2.1.sublist hl, fun y hy => h.2.2 y (hl.subset hy)⟩

/-- An entry appended behind entries of lower index. -/
theorem QueueLaw.concat {q : List AlignEntry} {x : AlignEntry} (h : QueueLaw x.index q) (room : q.length < Config.alignRoom) :
    QueueLaw (x.index + 1) (q ++ [x]) := by
  obtain ⟨-, hsorted, hbound⟩ := h
  refine ⟨by simpa using room, ?_, fun y hy => ?_⟩
  · refine List.pairwise_append.mpr ⟨hsorted, List.pairwise_singleton _ _, fun y hy z hz => ?_⟩
    rw [List.mem_singleton.mp hz]
    exact hbound y hy
  · rcases List.mem_append.mp hy with hy | hy
    · exact Nat.lt_succ_of_lt (hbound y hy)
    · rw [List.mem_singleton.mp hy]; exact Nat.lt_succ_self _

/-- A set appended to its own queue; the oldest entry of a full one leaves it (R57). -/
theorem appendOwn_law {own : List AlignEntry} {x : AlignEntry} (n : Nat) (h : QueueLaw x.index own) :
    QueueLaw (x.index + 1) (appendOwn own x n).own ∧ (appendOwn own x n).partner = [] := by
  rw [appendOwn]
  split
  · rename_i room
    exact ⟨h.concat room, rfl⟩
  · refine ⟨(h.sublist (List.drop_sublist 1 own)).concat ?_, rfl⟩
    have hlen := h.1
    simp only [Config.alignRoom, List.length_drop] at hlen ⊢
    omega

/-- An arriving set, newer than every entry of its own queue, keeps both queues sound and one of them empty (R56). -/
theorem align_law {own partner : List AlignEntry} {x : AlignEntry} {m : Nat} (ho : QueueLaw x.index own)
    (hp : QueueLaw m partner) (hone : own = [] ∨ partner = []) :
    QueueLaw (x.index + 1) (align own partner x).own ∧ QueueLaw m (align own partner x).partner ∧
      ((align own partner x).own = [] ∨ (align own partner x).partner = []) := by
  have hrest : (partner.dropWhile fun y => decide (y.index < x.index)).Sublist partner := List.dropWhile_sublist _
  rw [align]
  split
  · obtain ⟨h₁, h₂⟩ := appendOwn_law (partner.length - (partner.dropWhile fun y => decide (y.index < x.index)).length) ho
    exact ⟨h₁, by rw [h₂]; exact .nil m, .inr h₂⟩
  · rename_i y ys heq
    rw [heq] at hrest
    have hown : own = [] := hone.resolve_right fun e => by rw [e] at hrest; simp at hrest
    split
    · exact ⟨ho.mono (Nat.le_succ _), hp.sublist ((List.sublist_cons_self y ys).trans hrest), .inl hown⟩
    · exact ⟨ho.mono (Nat.le_succ _), hp.sublist hrest, .inl hown⟩

/-! ## The law of a point's queues (R51, R54, R55, R59) -/

/-- The law of the alignment queues of a point, for slots LOCKED or not and for the index each slot expects. -/
structure Point.PairLaw (locked : Fin 32 → Bool) (bound : Fin 32 → Nat) (p : Point) : Prop where
  one : p.vQueue = [] ∨ p.iQueue = []
  v : QueueLaw (bound p.cfg.vSlot) p.vQueue
  i : QueueLaw (bound p.cfg.iSlot) p.iQueue
  waits : p.vQueue ≠ [] ∨ p.iQueue ≠ [] →
    p.cfg.enabled = true ∧ p.vLocked = true ∧ p.iLocked = true ∧ p.cfg.vSlot ≠ p.cfg.iSlot
  sources : p.cfg.enabled = true → p.vLocked = locked p.cfg.vSlot ∧ p.iLocked = locked p.cfg.iSlot

/-- With empty queues only the source states are left of it. -/
theorem Point.PairLaw.of_empty {locked : Fin 32 → Bool} {bound : Fin 32 → Nat} {p : Point} (hv : p.vQueue = [])
    (hi : p.iQueue = [])
    (h : p.cfg.enabled = true → p.vLocked = locked p.cfg.vSlot ∧ p.iLocked = locked p.cfg.iSlot) : p.PairLaw locked bound where
  one := .inl hv
  v := by rw [hv]; exact .nil _
  i := by rw [hi]; exact .nil _
  waits hne := by simp [hv, hi] at hne
  sources := h

/-- It reads the binding, the source states and the queues alone. -/
theorem Point.PairLaw.congr {locked : Fin 32 → Bool} {bound : Fin 32 → Nat} {p q : Point} (h : p.PairLaw locked bound)
    (hen : q.cfg.enabled = p.cfg.enabled) (hvs : q.cfg.vSlot = p.cfg.vSlot) (his : q.cfg.iSlot = p.cfg.iSlot)
    (hv : q.vQueue = p.vQueue) (hi : q.iQueue = p.iQueue) (hvl : q.vLocked = p.vLocked) (hil : q.iLocked = p.iLocked) :
    q.PairLaw locked bound := by
  obtain ⟨hone, hqv, hqi, hwaits, hsrc⟩ := h
  constructor <;> simp only [hen, hvs, his, hv, hi, hvl, hil] <;> assumption

section Law

variable {locked : Fin 32 → Bool} {bound : Fin 32 → Nat} {p : Point}

/-- Sets wait only behind two LOCKED slots. -/
theorem Point.PairLaw.waits_locked (h : p.PairLaw locked bound) (hne : p.vQueue ≠ [] ∨ p.iQueue ≠ []) :
    locked p.cfg.vSlot = true ∧ locked p.cfg.iSlot = true := by
  obtain ⟨hen, hv, hi, -⟩ := h.waits hne
  obtain ⟨hsv, hsi⟩ := h.sources hen
  exact ⟨hsv.symm.trans hv, hsi.symm.trans hi⟩

/-- The queues of a point are empty when a slot it names is not LOCKED. -/
theorem Point.PairLaw.empty_of_unlocked (h : p.PairLaw locked bound) {k : Fin 32} (hk : locked k = false)
    (hs : p.cfg.vSlot = k ∨ p.cfg.iSlot = k) : p.vQueue = [] ∧ p.iQueue = [] := by
  by_contra hne
  have hne' : p.vQueue ≠ [] ∨ p.iQueue ≠ [] := by
    rw [not_and_or] at hne; exact hne
  obtain ⟨hv, hi⟩ := h.waits_locked hne'
  rcases hs with rfl | rfl
  · rw [hk] at hv; cases hv
  · rw [hk] at hi; cases hi

/-- The indexes that LOCKED slots expect may rise. -/
theorem Point.PairLaw.mono (h : p.PairLaw locked bound) {bound' : Fin 32 → Nat}
    (hb : ∀ j, locked j = true → bound j ≤ bound' j) : p.PairLaw locked bound' := by
  by_cases hne : p.vQueue ≠ [] ∨ p.iQueue ≠ []
  · obtain ⟨hv, hi⟩ := h.waits_locked hne
    exact { h with v := h.v.mono (hb _ hv), i := h.i.mono (hb _ hi) }
  · rw [not_or, not_not, not_not] at hne
    exact .of_empty hne.1 hne.2 h.sources

end Law

/-! ## Chains of moves keep it -/

theorem Point.applyPending_pairLaw (ctx : PointCtx) {bound : Fin 32 → Nat} {p : Point}
    (hon : ∀ c, p.waitingCfg = some c → c.enabled = true ∧ p.cfg.enabled = true) (h : p.PairLaw ctx.locked bound) :
    (p.applyPending ctx).1.PairLaw ctx.locked bound := by
  rcases Point.applyPending_cases ctx p with ⟨-, e⟩ | ⟨c, hc, e⟩
  · rw [e]; exact h
  · obtain ⟨hnew, hold⟩ := hon c hc
    rw [e]
    rcases Point.applyCfg_pairing ctx true c { p with waitingCfg := none } with
      ⟨hv, hi, hvl, hil⟩ | ⟨hvs, his, hv, hi, hvl, hil⟩
    · exact .of_empty hv hi fun _ => by rw [Point.applyCfg_cfg]; exact ⟨hvl, hil⟩
    · exact h.congr (by rw [Point.applyCfg_cfg, hnew, hold]) (by rw [Point.applyCfg_cfg]; exact hvs)
        (by rw [Point.applyCfg_cfg]; exact his) hv hi hvl hil

theorem Point.Move.pairLaw {ctx : PointCtx} {bound : Fin 32 → Nat} {p : Point} {x : PointStep} (m : Point.Move ctx p x)
    (hs : p.Sound) (h : p.PairLaw ctx.locked bound) : x.1.PairLaw ctx.locked bound := by
  have hon : ∀ c, p.waitingCfg = some c → c.enabled = true ∧ p.cfg.enabled = true := fun c hc => by
    obtain ⟨hnew, -, hold⟩ := hs.pending hc
    exact ⟨hnew, hold⟩
  cases m with
  | tallied e hes =>
    have hcfg := congrArg PointOutline.cfg e
    exact h.congr (congrArg PointCfg.enabled hcfg) (congrArg PointCfg.vSlot hcfg) (congrArg PointCfg.iSlot hcfg)
      (congrArg PointOutline.vQueue e) (congrArg PointOutline.iQueue e) (congrArg PointOutline.vLocked e)
      (congrArg PointOutline.iLocked e)
  | applied => exact Point.applyPending_pairLaw ctx hon h
  | entered _ => exact h.congr rfl rfl rfl rfl rfl rfl rfl
  | begunAgain _ _ => exact h.congr rfl rfl rfl rfl rfl rfl rfl
  | handed hw hst hv free =>
    rename_i w v
    have hover : (p.handOver v).1.PairLaw ctx.locked bound := h.congr rfl rfl rfl rfl rfl rfl rfl
    exact (Point.applyPending_pairLaw ctx (p := (p.handOver v).1) hon hover).congr rfl rfl rfl rfl rfl rfl rfl
  | held _ => exact h.congr rfl rfl rfl rfl rfl rfl rfl
  | resumed _ => exact h.congr rfl rfl rfl rfl rfl rfl rfl
  | givenUp _ => exact h.congr rfl rfl rfl rfl rfl rfl rfl

theorem Point.Moves.pairLaw {ctx : PointCtx} {bound : Fin 32 → Nat} {p : Point} {x : PointStep} (m : Point.Moves ctx p x)
    (hs : p.Sound) (h : p.PairLaw ctx.locked bound) : x.1.PairLaw ctx.locked bound := by
  induction m with
  | none => exact h
  | move m => exact m.pairLaw hs h
  | append h₁ _ ih₁ ih₂ => exact ih₂ (h₁.kept.sound hs) (ih₁ hs h)

/-! ## What a slot reports and delivers (R51, R59) -/

theorem Point.follows_iff (k : Fin 32) (p : Point) :
    p.follows k = true ↔ p.cfg.enabled = true ∧ (p.cfg.vSlot = k ∨ p.cfg.iSlot = k) := by
  simp [Point.follows]

/-- A point whose source states and queues alone have changed. -/
theorem Point.Kept.of_pairing {p q : Point} (hc : q.cfg = p.cfg) (hw : q.waitingCfg = p.waitingCfg) (ha : q.acc = p.acc)
    (hf : q.framer = p.framer) : p.Kept (q, []) := .of_same Quiet.nil hc hw ha (by rw [hf]; exact .refl _)

/-- A slot the point follows leaves LOCKED: its source state goes and the queues are emptied (R59). -/
def Point.sourceOff (k : Fin 32) (p : Point) : Point :=
  { p with vLocked := p.vLocked && p.cfg.vSlot ≠ k, iLocked := p.iLocked && p.cfg.iSlot ≠ k }.emptyQueues

theorem Point.slotLeft_eq (ctx : PointCtx) (k : Fin 32) (p : Point) :
    p.slotLeft ctx k =
      if !p.follows k then (p, [])
      else if p.framer.st = .collecting then (p.sourceOff k).sourceLost ctx else (p.sourceOff k, []) := rfl

/-- A slot the point follows enters LOCKED (R59). -/
def Point.sourceOn (k : Fin 32) (p : Point) : Point :=
  { p with vLocked := p.vLocked || p.cfg.vSlot = k, iLocked := p.iLocked || p.cfg.iSlot = k }

theorem Point.slotEntered_eq (ctx : PointCtx) (k : Fin 32) (p : Point) :
    p.slotEntered ctx k =
      if !p.follows k then (p, [])
      else if p.framer.st = .held && (p.sourceOn k).bothLocked then
        ({ p.sourceOn k with framer := { p.framer with st := .collecting } }, [])
      else ((p.sourceOn k).enterIfLocked ctx, []) := rfl

section Reports

variable (ctx : PointCtx) (k : Fin 32) (p : Point)

theorem Point.sourceOff_kept : p.Kept (p.sourceOff k, []) := .of_pairing rfl rfl rfl rfl

theorem Point.sourceOn_kept : p.Kept (p.sourceOn k, []) := .of_pairing rfl rfl rfl rfl

/-- What follows the loss of a source is a chain of moves. -/
theorem Point.slotLeft_moves (h : p.follows k = true) : Point.Moves ctx (p.sourceOff k) (p.slotLeft ctx k) := by
  rw [Point.slotLeft_eq, if_neg (by simp [h])]
  split
  · rename_i hst
    exact Point.sourceLost_moves ctx (p.sourceOff k) hst
  · exact .none _

/-- What follows the return of a source is a chain of moves. -/
theorem Point.slotEntered_moves (h : p.follows k = true) : Point.Moves ctx (p.sourceOn k) (p.slotEntered ctx k) := by
  rw [Point.slotEntered_eq, if_neg (by simp [h])]
  split
  · rename_i hst
    simp only [Bool.and_eq_true, decide_eq_true_eq] at hst
    exact .move (.resumed (p := p.sourceOn k) hst.1)
  · exact Point.enterIfLocked_moves ctx (p.sourceOn k)

theorem Point.slotLeft_other (h : p.follows k = false) : p.slotLeft ctx k = (p, []) := by
  rw [Point.slotLeft_eq, if_pos (by simp [h])]

theorem Point.slotEntered_other (h : p.follows k = false) : p.slotEntered ctx k = (p, []) := by
  rw [Point.slotEntered_eq, if_pos (by simp [h])]

theorem Point.slotLeft_kept : p.Kept (p.slotLeft ctx k) := by
  cases h : p.follows k with
  | false => rw [Point.slotLeft_other ctx k p h]; exact .none p
  | true => exact (Point.sourceOff_kept k p).append (Point.slotLeft_moves ctx k p h).kept

theorem Point.slotEntered_kept : p.Kept (p.slotEntered ctx k) := by
  cases h : p.follows k with
  | false => rw [Point.slotEntered_other ctx k p h]; exact .none p
  | true => exact (Point.sourceOn_kept k p).append (Point.slotEntered_moves ctx k p h).kept

end Reports

section Pairing

variable {ctx : PointCtx} {locked : Fin 32 → Bool} {bound : Fin 32 → Nat} {p : Point} {k : Fin 32}

/-- A point that does not follow slot k keeps its law when that slot alone changes. -/
theorem Point.PairLaw.of_other (h : p.PairLaw locked bound) (hf : p.follows k = false)
    (hother : ∀ j, j ≠ k → ctx.locked j = locked j) : p.PairLaw ctx.locked bound where
  one := h.one
  v := h.v
  i := h.i
  waits := h.waits
  sources hen := by
    have hslots : p.cfg.vSlot ≠ k ∧ p.cfg.iSlot ≠ k := by
      rw [← not_or]
      intro hs
      rw [(Point.follows_iff k p).mpr ⟨hen, hs⟩] at hf
      cases hf
    rw [hother _ hslots.1, hother _ hslots.2]
    exact h.sources hen

theorem Point.slotLeft_pairLaw (hs : p.Sound) (h : p.PairLaw locked bound) (hother : ∀ j, j ≠ k → ctx.locked j = locked j)
    (hk : ctx.locked k = false) : (p.slotLeft ctx k).1.PairLaw ctx.locked bound := by
  cases hf : p.follows k with
  | false => rw [Point.slotLeft_other ctx k p hf]; exact h.of_other hf hother
  | true =>
    have hoff : ∀ (b : Bool) (j : Fin 32), b = locked j → (b && decide (j ≠ k)) = ctx.locked j := by
      intro b j hb
      by_cases hj : j = k
      · simp [hj, hk]
      · simp [hj, hb, hother j hj]
    refine (Point.slotLeft_moves ctx k p hf).pairLaw ((Point.sourceOff_kept k p).sound hs) (.of_empty rfl rfl fun hen => ?_)
    obtain ⟨hv, hi⟩ := h.sources hen
    exact ⟨hoff _ _ hv, hoff _ _ hi⟩

theorem Point.slotEntered_pairLaw (hs : p.Sound) (h : p.PairLaw locked bound) (hother : ∀ j, j ≠ k → ctx.locked j = locked j)
    (hwas : locked k = false) (hk : ctx.locked k = true) : (p.slotEntered ctx k).1.PairLaw ctx.locked bound := by
  cases hf : p.follows k with
  | false => rw [Point.slotEntered_other ctx k p hf]; exact h.of_other hf hother
  | true =>
    have hon : ∀ (b : Bool) (j : Fin 32), b = locked j → (b || decide (j = k)) = ctx.locked j := by
      intro b j hb
      by_cases hj : j = k
      · simp [hj, hk]
      · simp [hj, hb, hother j hj]
    obtain ⟨hv, hi⟩ := h.empty_of_unlocked hwas ((Point.follows_iff k p).mp hf).2
    refine (Point.slotEntered_moves ctx k p hf).pairLaw ((Point.sourceOn_kept k p).sound hs) (.of_empty hv hi fun hen => ?_)
    obtain ⟨hvl, hil⟩ := h.sources hen
    exact ⟨hon _ _ hvl, hon _ _ hil⟩

end Pairing

/-! ### A delivered set -/

section Offer

variable (ctx : PointCtx) (k : Fin 32) (r : RawSet) (p : Point)

theorem Point.paired_moves (x : PairedSet) : Point.Moves ctx p (p.paired ctx x) :=
  .after (q := { p with pair := { p.pair with paired := p.pair.paired + 1 } }) rfl (Point.frame_moves ctx x _)

theorem Point.putAligned_kept (vSide : Bool) (a : Aligned) : p.Kept (p.putAligned vSide a, []) :=
  .of_pairing rfl rfl rfl rfl

/-- What follows the alignment of a set is a chain of moves. -/
theorem Point.alignSet_moves (vSide : Bool) (x : AlignEntry) :
    Point.Moves ctx (p.putAligned vSide (if vSide then align p.vQueue p.iQueue x else align p.iQueue p.vQueue x))
      (p.alignSet ctx vSide x) := by
  simp only [Point.alignSet]
  generalize (if vSide = true then align p.vQueue p.iQueue x else align p.iQueue p.vQueue x) = a
  split
  · exact Point.paired_moves ctx _ _
  · refine .tally rfl ?_
    split <;> simp [Quiet]

/-- A set taken is either a chain of moves, or aligned in a point of two slots. -/
theorem Point.takeSet_cases (vSide iSide : Bool) (h : vSide = true ∨ iSide = true) :
    Point.Moves ctx p (p.takeSet ctx vSide iSide r) ∨
      iSide = !vSide ∧ ∃ x : AlignEntry, x.index = r.index ∧ ∃ q : Point, q.outline = p.outline ∧
        p.takeSet ctx vSide iSide r = q.alignSet ctx vSide x := by
  rw [Point.takeSet]
  split
  · exact .inl (.tally rfl Quiet.nil)
  · dsimp only
    split
    · exact .inl (.after (q := { p with pair :=
        { p.pair with clampValues := p.pair.clampValues + BitVec.ofNat 32 (calibrateSet p.cfg vSide iSide r).2 } }) rfl
        (Point.paired_moves ctx _ _))
    · rename_i hboth
      refine .inr ⟨?_, (calibrateSet p.cfg vSide iSide r).1, rfl, { p with pair :=
        { p.pair with clampValues := p.pair.clampValues + BitVec.ofNat 32 (calibrateSet p.cfg vSide iSide r).2 } }, rfl, rfl⟩
      cases vSide <;> cases iSide <;> simp_all

theorem Point.offerSet_cases :
    p.offerSet ctx k r = (p, []) ∨
      p.cfg.enabled = true ∧ p.bothLocked = true ∧ (p.cfg.vSlot = k ∨ p.cfg.iSlot = k) ∧
        p.offerSet ctx k r = p.takeSet ctx (decide (p.cfg.vSlot = k)) (decide (p.cfg.iSlot = k)) r := by
  rw [Point.offerSet]
  split
  · rename_i h
    simp only [Bool.and_eq_true, Bool.or_eq_true, decide_eq_true_eq] at h
    exact .inr ⟨h.1.1, h.1.2, h.2, rfl⟩
  · exact .inl rfl

theorem Point.offerSet_kept : p.Kept (p.offerSet ctx k r) := by
  rcases Point.offerSet_cases ctx k r p with h | ⟨-, -, hside, h⟩
  · rw [h]; exact .none p
  · rw [h]
    rcases Point.takeSet_cases ctx r p (decide (p.cfg.vSlot = k)) (decide (p.cfg.iSlot = k)) (by simpa using hside)
      with hm | ⟨-, x, -, q, hq, hx⟩
    · exact hm.kept
    · rw [hx]
      exact (Point.Moves.tally (ctx := ctx) hq Quiet.nil).kept.append
        ((Point.putAligned_kept q _ _).append (Point.alignSet_moves ctx q _ x).kept)

end Offer

/-- A set aligned on the side of slot k, newer than all that has come from that slot. -/
theorem Point.alignSet_pairLaw {ctx : PointCtx} {bound : Fin 32 → Nat} {k : Fin 32} {p : Point} {vSide : Bool} {x : AlignEntry}
    (hs : p.Sound) (h : p.PairLaw ctx.locked bound) (hen : p.cfg.enabled = true) (hboth : p.bothLocked = true)
    (hv : decide (p.cfg.vSlot = k) = vSide) (hi : decide (p.cfg.iSlot = k) = !vSide) (hk : bound k ≤ x.index) :
    (p.alignSet ctx vSide x).1.PairLaw ctx.locked (Function.update bound k (x.index + 1)) := by
  refine (Point.alignSet_moves ctx p vSide x).pairLaw ((Point.putAligned_kept p _ _).sound hs) ?_
  rw [Point.bothLocked, Bool.and_eq_true] at hboth
  have hwaits : p.cfg.enabled = true ∧ p.vLocked = true ∧ p.iLocked = true ∧ p.cfg.vSlot ≠ p.cfg.iSlot :=
    ⟨hen, hboth.1, hboth.2, fun e => by rw [e, hi] at hv; cases vSide <;> cases hv⟩
  have hother : ∀ j, j ≠ k → Function.update bound k (x.index + 1) j = bound j := fun j hj =>
    Function.update_of_ne hj _ _
  cases vSide with
  | true =>
    rw [decide_eq_true_eq] at hv
    have hne : p.cfg.iSlot ≠ k := by simpa using hi
    have hown : QueueLaw x.index p.vQueue := h.v.mono (by rw [hv]; exact hk)
    obtain ⟨h₁, h₂, h₃⟩ := align_law hown h.i h.one
    exact ⟨h₃, by change QueueLaw (Function.update bound k _ p.cfg.vSlot) _; rw [hv, Function.update_self]; exact h₁,
      by change QueueLaw (Function.update bound k _ p.cfg.iSlot) _; rw [hother _ hne]; exact h₂, fun _ => hwaits, h.sources⟩
  | false =>
    rw [decide_eq_false_iff_not] at hv
    have hik : p.cfg.iSlot = k := by simpa using hi
    have hown : QueueLaw x.index p.iQueue := h.i.mono (by rw [hik]; exact hk)
    obtain ⟨h₁, h₂, h₃⟩ := align_law hown h.v h.one.symm
    exact ⟨h₃.symm, by change QueueLaw (Function.update bound k _ p.cfg.vSlot) _; rw [hother _ hv]; exact h₂,
      by change QueueLaw (Function.update bound k _ p.cfg.iSlot) _; rw [hik, Function.update_self]; exact h₁,
      fun _ => hwaits, h.sources⟩

theorem Point.offerSet_pairLaw {ctx : PointCtx} {bound : Fin 32 → Nat} {k : Fin 32} {r : RawSet} {p : Point} (hs : p.Sound)
    (h : p.PairLaw ctx.locked bound) (hk : bound k ≤ r.index) :
    (p.offerSet ctx k r).1.PairLaw ctx.locked (Function.update bound k (r.index + 1)) := by
  have hmono : p.PairLaw ctx.locked (Function.update bound k (r.index + 1)) := by
    refine h.mono fun j _ => ?_
    by_cases hj : j = k
    · rw [hj, Function.update_self]; omega
    · rw [Function.update_of_ne hj]
  rcases Point.offerSet_cases ctx k r p with e | ⟨hen, hboth, hside, e⟩
  · rw [e]; exact hmono
  · rw [e]
    rcases Point.takeSet_cases ctx r p (decide (p.cfg.vSlot = k)) (decide (p.cfg.iSlot = k)) (by simpa using hside)
      with hm | ⟨hi, x, hx, q, hq, e'⟩
    · exact hm.pairLaw hs hmono
    · have htally := Point.Moves.tally (ctx := ctx) hq Quiet.nil
      have hcfg : q.cfg = p.cfg := congrArg PointOutline.cfg hq
      rw [e', ← hx]
      refine Point.alignSet_pairLaw (htally.kept.sound hs) (htally.pairLaw hs h) (by rw [hcfg]; exact hen) ?_
        (by rw [hcfg]) (by rw [hcfg]; exact hi) (by rw [hx]; exact hk)
      rw [← hboth]
      exact congrArg₂ (fun a b => a && b) (congrArg PointOutline.vLocked hq) (congrArg PointOutline.iLocked hq)

/-! ## Writes and resets (R48 to R50, R61, R83) -/

/-- A treatment of a point by a write or a point reset keeps its laws. -/
structure Point.Treated (ctx : PointCtx) (p : Point) (x : PointStep) : Prop where
  kept : p.Kept x
  pairing : p.Sound → ∀ bound, p.PairLaw ctx.locked bound → x.1.PairLaw ctx.locked bound

/-- A treatment that ends with the entry from WAITING. -/
theorem Point.Treated.enters {ctx : PointCtx} {p : Point} {y : PointStep} (h : Point.Treated ctx p y) :
    Point.Treated ctx p (y.1.enterIfLocked ctx, y.2) := by
  have hm := Point.enterIfLocked_moves ctx y.1
  have hk := h.kept.append hm.kept
  rw [List.append_nil] at hk
  exact ⟨hk, fun hs bound hl => hm.pairLaw (h.kept.sound hs) (h.pairing hs bound hl)⟩

/-- A configuration stored in force in WAITING, or while the point stays disabled (R48). -/
theorem Point.storeNow_treated (ctx : PointCtx) (c : PointCfg) (p : Point) (hc : c.Legal)
    (h : p.framer.st = .waiting ∧ c.enabled = true ∨ p.framer.st = .disabled ∧ c.enabled = false) :
    Point.Treated ctx p (p.storeNow ctx c) := by
  have hf := Point.applyCfg_framing ctx true c p
  have hen : p.Sound → p.cfg.enabled = c.enabled := fun hs => by
    have := hs.2.1
    rcases h with ⟨hst, hon⟩ | ⟨hst, hoff⟩
    · simpa [hst, hon] using this
    · simpa [hst, hoff] using this
  refine Point.Treated.enters ⟨⟨Point.applyCfg_acc .., fun hl => ?_, fun hs => ?_, fun hs o hb => ?_⟩, fun hs bound hl => ?_⟩
  · unfold Point.CfgsLegal
    rw [Point.applyCfg_cfg, Point.applyCfg_waitingCfg]
    exact ⟨hc, hl.2⟩
  · unfold Point.Sound
    rw [hf.window_isSome, hf.1, Point.applyCfg_cfg, Point.applyCfg_waitingCfg, ← hen hs]
    exact hs
  · exact ⟨o, .of_quiet (Point.applyCfg_quiet ctx true c p) o, hb.congr hf.2.1 hf.2.2⟩
  · rcases Point.applyCfg_pairing ctx true c p with ⟨hv, hi, hvl, hil⟩ | ⟨hvs, his, hv, hi, hvl, hil⟩
    · exact .of_empty hv hi fun _ => by rw [Point.applyCfg_cfg]; exact ⟨hvl, hil⟩
    · exact hl.congr (by rw [Point.applyCfg_cfg, hen hs]) (by rw [Point.applyCfg_cfg]; exact hvs)
        (by rw [Point.applyCfg_cfg]; exact his) hv hi hvl hil

/-- Another state of a framer without a window. -/
theorem BankLaw.restate {p q : Point} {o : Option BankIx} (h : BankLaw o p) (hw : q.framer.window = p.framer.window)
    (h1 : q.framer.bank1 = p.framer.bank1) (h2 : q.framer.bank2 = p.framer.bank2) : BankLaw o q :=
  h.congr (by rw [hw]) fun ix => by
    cases ix
    · exact congrArg Bank.state h1
    · exact congrArg Bank.state h2

/-- A disabled point enabled (R50). -/
theorem Point.enable_treated (ctx : PointCtx) (c : PointCfg) (p : Point) (hc : c.Legal) (hon : c.enabled = true)
    (hst : p.framer.st = .disabled) : Point.Treated ctx p (p.enable ctx c) := by
  refine Point.Treated.enters ⟨⟨rfl, fun hl => ⟨hc, hl.2⟩, fun hs => ⟨?_, ?_, fun d hd => ?_⟩, fun hs o hb => ?_⟩, fun hs bound hl => ?_⟩
  · have := hs.no_window (.inr hst)
    simp [Point.setNominal, Point.takeSources, Point.emptyQueues, this]
  · simp [Point.setNominal, Point.takeSources, Point.emptyQueues, hon]
  · exact absurd hst (hs.2.2 d hd).2
  · exact ⟨o, .of_quiet (quiet_untrackedEvents _ _) o, hb.restate rfl rfl rfl⟩
  · exact .of_empty rfl rfl fun _ => ⟨rfl, rfl⟩

/-- A configuration stored as pending while a window stands (R48). -/
theorem Point.storePending_treated (ctx : PointCtx) (c : PointCfg) (p : Point) (hc : c.Legal) (hon : c.enabled = true)
    (hst : p.framer.st = .collecting ∨ p.framer.st = .held) : Point.Treated ctx p (p.storePending c) where
  kept := {
    acc := rfl
    cfgs := fun hl => ⟨hl.1, fun d hd => by
      rw [Point.storePending, Option.some.injEq] at hd
      rw [← hd]; exact hc⟩
    sound := fun hs => ⟨hs.1, hs.2.1, fun d hd => by
      rw [Point.storePending, Option.some.injEq] at hd
      rw [← hd]
      exact ⟨hon, by rcases hst with e | e <;> simp [Point.storePending, e]⟩⟩
    banks := fun _ o hb => ⟨o, .nil o, hb⟩ }
  pairing _ _ h := h.congr rfl rfl rfl rfl rfl rfl rfl

/-- An enabled point disabled (R50). -/
theorem Point.disable_treated (ctx : PointCtx) (c : PointCfg) (p : Point) (hc : c.Legal) (hoff : c.enabled = false) :
    Point.Treated ctx p (p.disable ctx c) := by
  have hf := Point.applyCfg_framing ctx false c p.emptyQueues
  have hcfg : (p.disable ctx c).1.cfg = c := Point.applyCfg_cfg ctx false c p.emptyQueues
  refine ⟨⟨Point.applyCfg_acc ctx false c p.emptyQueues, fun hl => ?_, fun hs => ?_, fun hs o hb => ?_⟩, fun hs bound hl => ?_⟩
  · exact ⟨by rw [hcfg]; exact hc, fun d hd => by simp [Point.disable, PointStep.andThen, Point.clearUntracked, Point.dropWindow] at hd⟩
  · refine ⟨by simp [Point.disable, PointStep.andThen, Point.clearUntracked, Point.dropWindow], ?_, fun d hd => ?_⟩
    · rw [hcfg]
      simp [Point.disable, PointStep.andThen, Point.clearUntracked, Point.dropWindow, hoff]
    · simp [Point.disable, PointStep.andThen, Point.clearUntracked, Point.dropWindow] at hd
  · refine ⟨o, .of_quiet (Quiet.append (Point.applyCfg_quiet ctx false c p.emptyQueues) (quiet_untrackedEvents _ _)) o, ?_⟩
    have happlied : BankLaw o (p.emptyQueues.applyCfg ctx false c).1 := hb.congr hf.2.1 hf.2.2
    exact happlied.dropped.restate rfl rfl rfl
  · refine .of_empty ?_ ?_ fun hen => by rw [hcfg, hoff] at hen; cases hen
    · rcases Point.applyCfg_pairing ctx false c p.emptyQueues with ⟨hv, -⟩ | ⟨-, -, hv, -⟩ <;> exact hv
    · rcases Point.applyCfg_pairing ctx false c p.emptyQueues with ⟨-, hi, -⟩ | ⟨-, -, -, hi, -⟩ <;> exact hi

/-- A point reset (R61, R83, R183). -/
theorem Point.reset_treated (ctx : PointCtx) (p : Point) : Point.Treated ctx p (p.reset ctx) := by
  refine Point.Treated.enters ⟨⟨rfl, fun hl => ⟨?_, fun d hd => by cases hd⟩, fun hs => ⟨?_, ?_, fun d hd => by cases hd⟩,
    fun hs o hb => ?_⟩, fun hs bound hl => .of_empty rfl rfl fun _ => ⟨rfl, rfl⟩⟩
  · cases hw : p.waitingCfg with
    | none => simpa [Point.setNominal, Point.dropWindow, Point.takeSources, Point.emptyQueues, hw] using hl.1
    | some c => simpa [Point.setNominal, Point.dropWindow, Point.takeSources, Point.emptyQueues, hw] using hl.2 c hw
  · by_cases hst : p.framer.st = .disabled <;>
      simp [Point.setNominal, Point.dropWindow, Point.takeSources, Point.emptyQueues, hst]
  · have hst := hs.2.1
    have hpend := hs.2.2
    cases hw : p.waitingCfg with
    | none =>
      by_cases e : p.framer.st = .disabled <;>
        simp_all [Point.setNominal, Point.dropWindow, Point.takeSources, Point.emptyQueues]
    | some c =>
      obtain ⟨hon, hne⟩ := hpend c hw
      simp [Point.setNominal, Point.dropWindow, Point.takeSources, Point.emptyQueues, hon, hne]
  · exact ⟨o, .of_quiet (quiet_untrackedEvents _ _) o, hb.dropped.restate rfl rfl rfl⟩

end Sys2Proof.Machine
end

section
/-! SUPPORT. What a slot's treatment of one event reports, as the points see it; and the points, the Finisher and the delivery side
after a slot's event (R31 to R40, R51). -/

namespace Sys2Proof.Machine

/-! ## What a slot reports (R31 to R40) -/

/-- The sets delivered have consecutive indexes from `first`, and the slot expects the index after them (R33, R34, R37). -/
def SlotStep.Delivers (x : SlotStep) (first : Nat) : Prop :=
  x.delivered.map (·.index) = (List.range x.delivered.length).map (first + ·) ∧
    x.slot.expected.getD 0 = first + x.delivered.length

/-- The reports of a slot's event tell its state: it left LOCKED, stayed in or out of LOCKED, or entered LOCKED; sets are delivered
in LOCKED alone, from an index not below the one expected before. -/
inductive SlotStep.Reports (old : Slot) (x : SlotStep) : Prop
  | left (was : old.st = .locked) (is : x.slot.st ≠ .locked) (hl : x.left = true) (he : x.entered = false)
      (hd : x.delivered = [])
  | stayed (same : x.slot.st = .locked ↔ old.st = .locked) (hl : x.left = false) (he : x.entered = false)
      (hd : x.slot.st = .locked → ∃ first, old.expected.getD 0 ≤ first ∧ x.Delivers first)
      (idle : x.slot.st ≠ .locked → x.delivered = [])
  | entered (was : old.st ≠ .locked) (is : x.slot.st = .locked) (hl : x.left = false) (he : x.entered = true)
      (hd : ∃ first, x.Delivers first)

/-- An event of an enabled slot keeps its configuration, and reports. -/
structure SlotStep.Follows (old : Slot) (x : SlotStep) : Prop where
  cfg : x.slot.cfg = old.cfg
  disabled : x.slot.st = .disabled ↔ old.st = .disabled
  reports : x.Reports old

/-- Nothing but counters and times has changed. -/
theorem SlotStep.Follows.quiet {old s : Slot} (hc : s.cfg = old.cfg) (hst : s.st = old.st) (he : s.expected = old.expected) :
    SlotStep.Follows old { slot := s } where
  cfg := hc
  disabled := by rw [hst]
  reports := .stayed (by rw [hst]) rfl rfl (fun _ => ⟨old.expected.getD 0, le_rfl, rfl, by rw [he]; rfl⟩) fun _ => rfl

theorem Slot.readopt_follows {old s : Slot} (now : Nat) (v : SampleView) (hc : s.cfg = old.cfg) (hst : s.st = old.st)
    (hon : old.st ≠ .disabled) : SlotStep.Follows old (s.readopt now v) := by
  rw [Slot.readopt_eq, hst]
  refine ⟨hc, by simp [Slot.adopt, hon], ?_⟩
  by_cases hl : old.st = .locked
  · exact .left hl (by simp [Slot.adopt]) (by simp [hl]) rfl rfl
  · exact .stayed (by simp [Slot.adopt, hl]) (by simp [hl]) rfl (fun h => by simp [Slot.adopt] at h) fun _ => rfl

section Frame

variable {s : Slot} {v : SampleView} (now : Nat)
  (hidx : v.sets.map (·.index) = (List.range v.sets.length).map (v.first + ·)) (hlen : v.sets.length = v.setCount)

include hidx hlen

/-- The sets of a frame delivered by a slot that then expects the index after them. -/
theorem SlotStep.delivers_of_view {x : SlotStep} (hd : x.delivered = v.sets) (he : x.slot.expected = some (v.first + v.setCount)) :
    x.Delivers v.first := by
  unfold SlotStep.Delivers
  rw [hd, he, hidx, hlen]
  exact ⟨rfl, rfl⟩

theorem Slot.inSequence_follows (hon : s.st = .acquiring ∨ s.st = .locked) (he : v.first = s.expected.getD 0) :
    SlotStep.Follows s (s.inSequence now v) := by
  rw [Slot.inSequence]
  split
  · rename_i hl
    exact ⟨rfl, Iff.rfl, .stayed Iff.rfl rfl rfl
      (fun _ => ⟨v.first, he.ge, SlotStep.delivers_of_view hidx hlen rfl rfl⟩) fun h => absurd hl h⟩
  · rename_i hl
    have ha : s.st = .acquiring := hon.resolve_right hl
    split
    · exact ⟨rfl, by simp [Slot.countSets, ha], .entered hl rfl rfl rfl ⟨v.first, SlotStep.delivers_of_view hidx hlen rfl rfl⟩⟩
    · exact ⟨rfl, Iff.rfl, .stayed Iff.rfl rfl rfl (fun h => absurd h hl) fun _ => rfl⟩

theorem Slot.forwardGap_follows (g : Nat) (hon : s.st ≠ .disabled) (he : s.expected.getD 0 < v.first) :
    SlotStep.Follows s (s.forwardGap now v g) := by
  rw [Slot.forwardGap]
  split
  · rename_i hl
    simp only [Bool.and_eq_true, decide_eq_true_eq] at hl
    exact ⟨rfl, Iff.rfl, .stayed Iff.rfl rfl rfl
      (fun _ => ⟨v.first, he.le, SlotStep.delivers_of_view hidx hlen rfl rfl⟩) fun h => absurd hl.1 h⟩
  · exact Slot.readopt_follows now v rfl rfl hon

omit hidx hlen in
theorem Slot.lateFrame_follows (back : Nat) (hon : s.st ≠ .disabled) : SlotStep.Follows s (s.lateFrame now v back) := by
  rw [Slot.lateFrame]
  split
  · exact Slot.readopt_follows now v rfl rfl hon
  · dsimp only
    split
    · exact Slot.readopt_follows (old := s) now v rfl rfl hon
    · exact .quiet rfl rfl rfl

theorem Slot.follow_follows (hon : s.st = .acquiring ∨ s.st = .locked) : SlotStep.Follows s (s.follow now v) := by
  have hne : s.st ≠ .disabled := by rcases hon with h | h <;> simp [h]
  rw [Slot.follow]
  split
  · rename_i he
    exact Slot.inSequence_follows now hidx hlen hon he
  · split
    · rename_i he
      exact Slot.forwardGap_follows now hidx hlen _ hne he
    · exact Slot.lateFrame_follows now _ hne

theorem Slot.usable_follows : SlotStep.Follows s (s.usable now v) := by
  have tracked (hon : s.st = .acquiring ∨ s.st = .locked) : SlotStep.Follows s (s.usable now v) := by
    rw [s.usable_tracked now v hon]
    split
    · exact Slot.follow_follows now hidx hlen hon
    · exact .quiet rfl rfl rfl
  cases hst : s.st with
  | disabled => rw [Slot.usable, hst]; exact .quiet rfl rfl rfl
  | idle =>
    rw [Slot.usable, hst]
    exact ⟨rfl, by simp [Slot.adopt, hst], .stayed (by simp [Slot.adopt, hst]) rfl rfl (by simp [Slot.adopt]) fun _ => rfl⟩
  | lost =>
    rw [Slot.usable, hst]
    exact ⟨rfl, by simp [Slot.adopt, hst], .stayed (by simp [Slot.adopt, hst]) rfl rfl (by simp [Slot.adopt]) fun _ => rfl⟩
  | acquiring => exact tracked (.inl hst)
  | locked => exact tracked (.inr hst)

end Frame

/-- A frame counted is no report. -/
theorem Slot.reports_of_counted {s : Slot} {x : SlotStep} (h : x.Reports s.counted) : x.Reports s := by
  cases h with
  | left was is hl he hd => exact .left was is hl he hd
  | stayed same hl he hd idle => exact .stayed same hl he hd idle
  | entered was is hl he hd => exact .entered was is hl he hd

theorem Slot.take_follows (now : Nat) (x : List Byte) (s : Slot) : SlotStep.Follows s (s.take now x) := by
  cases hm : malformed x with
  | true => rw [s.take_malformed now x hm]; exact .quiet rfl rfl rfl
  | false =>
    by_cases hu : (sampleView x).sync = true ∧ ((sampleView x).test = true → s.cfg.acceptTest = true)
    · rw [s.take_usable now x hm hu.1 hu.2]
      have hlen := sampleView_sets_length x
      have h := Slot.usable_follows (s := s.counted) now (by rw [hlen]; exact sampleView_sets_index x) hlen
      exact ⟨h.cfg, h.disabled, Slot.reports_of_counted h.reports⟩
    · rw [s.take_unusable now x hm hu]; exact .quiet rfl rfl rfl

theorem Slot.lose_reports {old s : Slot} (hst : s.st = old.st) : s.lose.Reports old := by
  by_cases hl : old.st = .locked
  · exact .left hl (by simp [Slot.lose]) (by simp [Slot.lose, hst, hl]) rfl rfl
  · exact .stayed (by simp [Slot.lose, hl]) (by simp [Slot.lose, hst, hl]) rfl (fun h => by simp [Slot.lose] at h) fun _ => rfl

/-- A slot's event as the laws see it. -/
structure SlotStep.Change (old : Slot) (x : SlotStep) : Prop where
  legal : old.cfg.Legal → x.slot.cfg.Legal
  enabled : (old.st = .disabled ↔ old.cfg.enabled = false) → (x.slot.st = .disabled ↔ x.slot.cfg.enabled = false)
  reports : (old.st = .disabled ↔ old.cfg.enabled = false) → x.Reports old

theorem Slot.take_change (now : Nat) (x : List Byte) (s : Slot) : SlotStep.Change s (s.take now x) := by
  obtain ⟨hc, hd, hr⟩ := s.take_follows now x
  exact ⟨fun h => by rw [hc]; exact h, fun h => by rw [hd, hc]; exact h, fun _ => hr⟩

theorem Slot.lose_change (now : Nat) (s : Slot) (h : s.lossDue now = true) : SlotStep.Change s s.lose := by
  have hst : s.st ≠ .disabled := by
    rw [lossDue_iff] at h
    rcases h.1 with e | e <;> simp [e]
  exact ⟨id, fun hs => by simpa [Slot.lose, hst] using hs, fun _ => Slot.lose_reports rfl⟩

/-- A write of a SLOT entry in its ranges (R40). -/
theorem Slot.write_change (now : Nat) (c : SlotCfg) (s : Slot) (hc : c.Legal) : SlotStep.Change s (s.write now c) := by
  rw [Slot.write]
  split
  · rename_i hold
    split
    · rename_i hnew
      dsimp only
      split
      · refine ⟨fun _ => hc, fun hs => ?_, fun _ => Slot.lose_reports rfl⟩
        simp [Slot.lose, hnew]
      · refine ⟨fun _ => hc, fun hs => ?_, fun _ => ?_⟩
        · rw [hold] at hs; rw [hnew]; exact hs
        · exact .stayed Iff.rfl rfl rfl (fun _ => ⟨s.expected.getD 0, le_rfl, rfl, rfl⟩) fun _ => rfl
    · rename_i hnew
      refine ⟨fun _ => hc, fun _ => by simpa [Slot.cleared] using hnew, fun _ => ?_⟩
      by_cases hl : s.st = .locked
      · exact .left hl (by simp [Slot.cleared]) (by simp [hl]) rfl rfl
      · exact .stayed (by simp [Slot.cleared, hl]) (by simp [hl]) rfl (fun h => by simp [Slot.cleared] at h) fun _ => rfl
  · rename_i hold
    have hdis (hs : s.st = .disabled ↔ s.cfg.enabled = false) : s.st = .disabled := hs.mpr (by simpa using hold)
    split
    · rename_i hnew
      refine ⟨fun _ => hc, fun _ => by simp [Slot.cleared, hnew], fun hs => ?_⟩
      exact .stayed (by simp [Slot.cleared, hdis hs]) rfl rfl (fun h => by simp [Slot.cleared] at h) fun _ => rfl
    · rename_i hnew
      refine ⟨fun _ => hc, fun hs => by simpa [hdis hs] using hnew, fun hs => ?_⟩
      exact .stayed Iff.rfl rfl rfl (fun h => by simp [hdis hs] at h) fun _ => rfl

/-! ## What the points become (R38, R51) -/

theorem State.pointEvent_hsets (i : Fin 24) (s : State) (e : PointEvent) :
    (s.pointEvent i e).finisher.hsets = s.finisher.hsets := by
  cases e with
  | handOver e => rw [State.pointEvent, State.appendFinish, State.beginFinish_eq]
  | overflow => rfl
  | discarded r => rfl
  | untracked b => rfl

/-- An event of a point changes nothing of what the points read. -/
theorem State.onPoint_ctx (i : Fin 24) (f : PointCtx → Point → PointStep) (s : State) : (s.onPoint i f).ctx = s.ctx := by
  have hsets : ∀ (l : List PointEvent) (t : State), (l.foldl (State.pointEvent i) t).finisher.hsets = t.finisher.hsets := by
    intro l
    induction l with
    | nil => intro t; rfl
    | cons e l ih => intro t; rw [List.foldl_cons, ih, State.pointEvent_hsets]
  obtain ⟨-, -, -, -, -, -, hslots, -⟩ := State.onPoint_same i f s
  rw [State.ctx, State.ctx, hslots, State.onPoint, hsets, State.setPoint_finisher]

/-- An event that reaches the points of a list without repetition, one after the other. -/
theorem State.foldl_onPoint (f : PointCtx → Point → PointStep) (l : List (Fin 24)) :
    ∀ s : State, l.Nodup → (l.foldl (fun s i => s.onPoint i f) s).ctx = s.ctx ∧
      ∀ j, (l.foldl (fun s i => s.onPoint i f) s).point j = if j ∈ l then (f s.ctx (s.point j)).1 else s.point j := by
  induction l with
  | nil => intro s _; exact ⟨rfl, fun j => by simp⟩
  | cons i l ih =>
    intro s hn
    obtain ⟨hi, hl⟩ := List.nodup_cons.mp hn
    obtain ⟨hctx, hpt⟩ := ih (s.onPoint i f) hl
    rw [State.onPoint_ctx] at hctx hpt
    refine ⟨hctx, fun j => ?_⟩
    rw [List.foldl_cons, hpt]
    by_cases hj : j = i
    · subst hj
      rw [if_neg hi, if_pos List.mem_cons_self, State.onPoint_point_same]
    · rw [State.onPoint_point_other i j f s hj]
      simp [hj]

theorem State.onPoints_ctx (f : PointCtx → Point → PointStep) (s : State) : (s.onPoints f).ctx = s.ctx :=
  (State.foldl_onPoint f _ s (List.nodup_finRange 24)).1

/-- An event that reaches every point changes each as its block says (R38, R51). -/
theorem State.onPoints_point (f : PointCtx → Point → PointStep) (s : State) (j : Fin 24) :
    (s.onPoints f).point j = (f s.ctx (s.point j)).1 := by
  rw [State.onPoints, (State.foldl_onPoint f _ s (List.nodup_finRange 24)).2, if_pos (List.mem_finRange j)]

/-- A point after the lock reports of a slot's event (R38). -/
def SlotStep.reported (ctx : PointCtx) (k : Fin 32) (x : SlotStep) (p : Point) : Point :=
  let q := if x.left then (p.slotLeft ctx k).1 else p
  if x.entered then (q.slotEntered ctx k).1 else q

/-- A point after a slot's event: the lock reports, then each delivered set in turn (R38, R51). -/
def SlotStep.told (ctx : PointCtx) (k : Fin 32) (x : SlotStep) (p : Point) : Point :=
  x.delivered.foldl (fun p r => (p.offerSet ctx k r).1) (x.reported ctx k p)

theorem State.slotReports_points (k : Fin 32) (x : SlotStep) (s : State) :
    (s.slotReports k x).ctx = s.ctx ∧ ∀ i, (s.slotReports k x).point i = x.reported s.ctx k (s.point i) := by
  have run : ∀ (c : Bool) (t : State) (ts : List Task), (if c then t.run ts else t).ctx = t.ctx ∧
      ∀ i, (if c then t.run ts else t).point i = t.point i := fun c t ts => by
    cases c <;> exact ⟨rfl, fun _ => rfl⟩
  have pts : ∀ (c : Bool) (t : State) (f : PointCtx → Point → PointStep), (if c then t.onPoints f else t).ctx = t.ctx ∧
      ∀ i, (if c then t.onPoints f else t).point i = if c then (f t.ctx (t.point i)).1 else t.point i := fun c t f => by
    cases c
    · exact ⟨rfl, fun _ => rfl⟩
    · exact ⟨t.onPoints_ctx f, t.onPoints_point f⟩
  refine ⟨((run _ _ _).1.trans (pts _ _ _).1).trans ((run _ _ _).1.trans (pts _ _ _).1), fun i => ?_⟩
  refine ((run _ _ _).2 i).trans (((pts _ _ _).2 i).trans ?_)
  rw [(run _ _ _).1, (run _ _ _).2, (pts _ _ _).1, (pts _ _ _).2, SlotStep.reported]

/-- Delivered sets reach every point, one after the other. -/
theorem State.foldl_offer (k : Fin 32) (l : List RawSet) : ∀ s : State,
    (l.foldl (fun s r => s.onPoints fun ctx => Point.offerSet ctx k r) s).ctx = s.ctx ∧
      ∀ i, (l.foldl (fun s r => s.onPoints fun ctx => Point.offerSet ctx k r) s).point i =
        l.foldl (fun p r => (p.offerSet s.ctx k r).1) (s.point i) := by
  induction l with
  | nil => intro s; exact ⟨rfl, fun _ => rfl⟩
  | cons r l ih =>
    intro s
    obtain ⟨hctx, hpt⟩ := ih (s.onPoints fun ctx => Point.offerSet ctx k r)
    rw [State.onPoints_ctx] at hctx hpt
    simp only [List.foldl_cons]
    exact ⟨hctx, fun i => by rw [hpt, State.onPoints_point]⟩

/-- A slot's event leaves each point as the slot's reports and sets tell it, in the slots' new states. -/
theorem State.applySlot_point (k : Fin 32) (x : SlotStep) (s : State) (i : Fin 24) :
    (s.applySlot k x).point i = x.told (s.setSlot k x.slot).ctx k (s.point i) := by
  obtain ⟨hctx, hpt⟩ := State.slotReports_points k x (s.setSlot k x.slot)
  rw [State.applySlot]
  rw [(State.foldl_offer k x.delivered _).2, hctx, hpt]
  rfl

theorem State.applySlot_slots (k : Fin 32) (x : SlotStep) (s : State) : (s.applySlot k x).slots = s.slots.set k x.slot := by
  obtain ⟨-, -, -, -, -, -, hslots, -⟩ := State.applySlot_same k x s
  exact hslots

/-- What the slot change, each point's treatment and each cascade keep, a slot's event keeps. -/
theorem State.applySlot_keeps {P : State → Prop} (k : Fin 32) (x : SlotStep) (s : State)
    (hrun : ∀ (t : State) ts, P t → P (t.run ts))
    (hpoint : ∀ (t : State) i (f : PointCtx → Point → PointStep), (∀ ctx p, Point.Kept p (f ctx p)) → P t → P (t.onPoint i f))
    (hs : P (s.setSlot k x.slot)) : P (s.applySlot k x) := by
  have foldl : ∀ {α : Type} (g : State → α → State), (∀ t a, P t → P (g t a)) → ∀ (l : List α) (t : State), P t → P (l.foldl g t) := by
    intro α g hg l
    induction l with
    | nil => exact fun _ h => h
    | cons a l ih => exact fun t h => ih _ (hg t a h)
  have pts : ∀ (t : State) (f : PointCtx → Point → PointStep), (∀ ctx p, Point.Kept p (f ctx p)) → P t → P (t.onPoints f) :=
    fun t f hf => foldl _ (fun t i => hpoint t i f hf) _ t
  have ite : ∀ (c : Bool) (t u : State), (P t → P u) → P t → P (if c then u else t) := by
    intro c t u htu ht
    cases c
    · exact ht
    · exact htu ht
  rw [State.applySlot, State.slotReports]
  refine foldl _ (fun t r => pts t _ fun ctx p => Point.offerSet_kept ctx k r p) _ _ ?_
  refine ite _ _ _ (hrun _ _) (ite _ _ _ (pts _ _ fun ctx p => Point.slotEntered_kept ctx k p) (ite _ _ _ (hrun _ _) ?_))
  exact ite _ _ _ (pts _ _ fun ctx p => Point.slotLeft_kept ctx k p) hs

/-! ## A slot's event and the alignment queues (R51, R55, R59) -/

/-- Sets delivered with consecutive indexes, none below the bound of their slot. -/
theorem Point.offered_pairLaw {ctx : PointCtx} {k : Fin 32} : ∀ (l : List RawSet) (first : Nat) (bound : Fin 32 → Nat)
    (p : Point), l.map (·.index) = (List.range l.length).map (first + ·) → bound k = first → p.Sound →
      p.PairLaw ctx.locked bound →
        (l.foldl (fun p r => (p.offerSet ctx k r).1) p).Sound ∧
          (l.foldl (fun p r => (p.offerSet ctx k r).1) p).PairLaw ctx.locked (Function.update bound k (first + l.length)) := by
  intro l
  induction l with
  | nil => intro first bound p _ hb hs h; exact ⟨hs, by rw [← hb]; simpa using h⟩
  | cons r l ih =>
    intro first bound p hl hb hs h
    have hcons : r.index = first ∧ l.map (·.index) = (List.range l.length).map (first + 1 + ·) := by
      rw [List.map_cons, List.length_cons, List.range_succ_eq_map, List.map_cons, List.cons.injEq] at hl
      refine ⟨hl.1, hl.2.trans ?_⟩
      rw [List.map_map]
      exact List.map_congr_left fun j _ => by simp only [Function.comp_apply]; omega
    obtain ⟨hr, hrest⟩ := hcons
    have hstep := Point.offerSet_pairLaw (k := k) (r := r) hs h (by rw [hb, hr])
    have hnext := ih (first + 1) _ _ hrest (by rw [Function.update_self, hr]) ((Point.offerSet_kept ctx k r p).sound hs) hstep
    rw [Function.update_idem] at hnext
    rw [List.foldl_cons, List.length_cons]
    have hlen : first + 1 + l.length = first + (l.length + 1) := by omega
    rw [← hlen]
    exact hnext

/-- The index each slot expects, once slot k expects e. -/
theorem Point.PairLaw.bound_congr {locked : Fin 32 → Bool} {b b' : Fin 32 → Nat} {p : Point} (h : p.PairLaw locked b)
    (hb : ∀ j, locked j = true → b j = b' j) : p.PairLaw locked b' := h.mono fun j hj => (hb j hj).le

/-- A slot's event keeps the law of a point's queues: from the slots as they were to the slots as they are. -/
theorem SlotStep.told_pairLaw {ctx : PointCtx} {k : Fin 32} {old : Slot} {x : SlotStep} {locked : Fin 32 → Bool}
    {bound bound' : Fin 32 → Nat} {p : Point} (hx : x.Reports old) (hs : p.Sound) (h : p.PairLaw locked bound)
    (hwas : locked k = decide (old.st = .locked)) (his : ctx.locked k = decide (x.slot.st = .locked))
    (hother : ∀ j, j ≠ k → ctx.locked j = locked j ∧ bound' j = bound j) (hb : bound k = old.expected.getD 0)
    (hb' : bound' k = x.slot.expected.getD 0) : (x.told ctx k p).PairLaw ctx.locked bound' := by
  have hothers : ∀ j, j ≠ k → ctx.locked j = locked j := fun j hj => (hother j hj).1
  rw [SlotStep.told, SlotStep.reported]
  cases hx with
  | left was is hl he hd =>
    have hk : ctx.locked k = false := by rw [his]; simpa using is
    simp only [hl, he, hd, if_true, Bool.false_eq_true, if_false, List.foldl_nil]
    refine (Point.slotLeft_pairLaw hs h hothers hk).bound_congr fun j hj => ?_
    have : j ≠ k := fun e => by rw [e, hk] at hj; cases hj
    exact ((hother j this).2).symm
  | stayed same hl he hd idle =>
    have heq : ctx.locked = locked := by
      funext j
      by_cases hj : j = k
      · rw [hj, his, hwas]; simp [same]
      · exact hothers j hj
    simp only [hl, he, Bool.false_eq_true, if_false]
    by_cases hlock : x.slot.st = .locked
    · obtain ⟨first, hfirst, hidx, hexp⟩ := hd hlock
      have hstart : p.PairLaw ctx.locked (Function.update bound k first) := by
        rw [heq]
        refine h.mono fun j _ => ?_
        by_cases hj : j = k
        · rw [hj, Function.update_self, hb]; exact hfirst
        · rw [Function.update_of_ne hj]
      refine (Point.offered_pairLaw _ first _ p hidx (Function.update_self ..) hs hstart).2.bound_congr fun j _ => ?_
      by_cases hj : j = k
      · rw [hj, Function.update_self, hb', hexp]
      · rw [Function.update_of_ne hj, Function.update_of_ne hj]; exact ((hother j hj).2).symm
    · rw [idle hlock, List.foldl_nil]
      rw [← heq] at h
      refine h.bound_congr fun j hj => ?_
      have hk : ctx.locked k = false := by rw [his]; simpa using hlock
      have : j ≠ k := fun e => by rw [e, hk] at hj; cases hj
      exact ((hother j this).2).symm
  | entered was is hl he hd =>
    obtain ⟨first, hidx, hexp⟩ := hd
    have hwas' : locked k = false := by rw [hwas]; simpa using was
    have hstart : p.PairLaw locked (Function.update bound k first) := by
      refine h.bound_congr fun j hj => ?_
      have : j ≠ k := fun e => by rw [e, hwas'] at hj; cases hj
      rw [Function.update_of_ne this]
    have hin := Point.slotEntered_pairLaw hs hstart hothers hwas' (by rw [his]; simpa using is)
    simp only [hl, he, if_true, Bool.false_eq_true, if_false]
    refine (Point.offered_pairLaw _ first _ _ hidx (Function.update_self ..) ((Point.slotEntered_kept ctx k p).sound hs)
      hin).2.bound_congr fun j _ => ?_
    by_cases hj : j = k
    · rw [hj, Function.update_self, hb', hexp]
    · rw [Function.update_of_ne hj, Function.update_of_ne hj]; exact ((hother j hj).2).symm

end Sys2Proof.Machine
end

section
/-! SUPPORT. What a cascade leaves of the written entries, and the Finish Queue through the events of a point, the begin of a finish and
the removal of an entry (R93 to R95, R138, R151). -/

namespace Sys2Proof.Machine

/-! ## Written entries of the delivery side -/

/-- The configurations of the alert entries and of the push channels are as they were. -/
def SameCfgs (d e : Delivery) : Prop :=
  (∀ n, (e.alert n).cfg = (d.alert n).cfg) ∧ ∀ c, (e.channel c).cfg = (d.channel c).cfg

theorem SameCfgs.refl (d : Delivery) : SameCfgs d d := ⟨fun _ => rfl, fun _ => rfl⟩

theorem SameCfgs.trans {d e f : Delivery} (h : SameCfgs d e) (k : SameCfgs e f) : SameCfgs d f :=
  ⟨fun n => (k.1 n).trans (h.1 n), fun c => (k.2 c).trans (h.2 c)⟩

theorem SameCfgs.of_eq {d e : Delivery} (ha : e.alerts = d.alerts) (hc : e.channels = d.channels) : SameCfgs d e :=
  ⟨fun n => by rw [Delivery.alert, ha]; rfl, fun c => by rw [Delivery.channel, hc]; rfl⟩

theorem SameCfgs.setPort (d : Delivery) (p : Port) (q : PortState) : SameCfgs d (d.setPort p q) :=
  .of_eq (Delivery.setPort_alerts d p q) (Delivery.setPort_channels d p q)

theorem SameCfgs.modPort (d : Delivery) (p : Port) (f : PortState → PortState) : SameCfgs d (d.modPort p f) :=
  .setPort d p (f (d.port p))

theorem SameCfgs.setAlert (d : Delivery) (n : Fin 20) (x : AlertEntry) (h : x.cfg = (d.alert n).cfg) :
    SameCfgs d (d.setAlert n x) := by
  refine ⟨fun m => ?_, fun c => by rw [Delivery.setAlert_channel]⟩
  by_cases e : m = n
  · subst e; rw [Delivery.setAlert_alert_same, h]
  · rw [Delivery.setAlert_alert_other d n m x e]

theorem SameCfgs.setChannel (d : Delivery) (c : Fin 4) (x : Channel) (h : x.cfg = (d.channel c).cfg) :
    SameCfgs d (d.setChannel c x) := by
  refine ⟨fun n => by rw [Delivery.setChannel_alert], fun b => ?_⟩
  by_cases e : b = c
  · subst e; rw [Delivery.setChannel_channel_same, h]
  · rw [Delivery.setChannel_channel_other d c b x e]

theorem SameCfgs.setWait (d : Delivery) (p : Port) (w : List (Fin 4)) : SameCfgs d (d.setWait p w) :=
  .of_eq (Delivery.setWait_alerts d p w) (Delivery.setWait_channels d p w)

theorem recordEdge_sameCfgs (n : Fin 20) (detail : BitVec 32) (d : Delivery) : SameCfgs d (recordEdge n detail d).1 :=
  ⟨fun m => recordEdge_cfg n m detail d, fun c => by rw [Delivery.channel, (recordEdge_frame n detail d).2.1]; rfl⟩

theorem AlertEntry.level_cfg (r : LevelReport) (e : AlertEntry) : (e.level r).cfg = e.cfg := by
  rw [AlertEntry.level]
  split <;> rfl

theorem foldl_level_sameCfgs (reports : List LevelReport) : ∀ d : Delivery,
    SameCfgs d (reports.foldl (fun d r => d.setAlert r.number ((d.alert r.number).level r)) d) := by
  induction reports with
  | nil => exact SameCfgs.refl
  | cons r rs ih => exact fun d => (SameCfgs.setAlert d r.number _ (AlertEntry.level_cfg r _)).trans (ih _)

theorem takeTrigger_sameCfgs (c : Fin 4) (d : Delivery) : SameCfgs d (takeTrigger c d).1 := by
  rw [takeTrigger]
  split
  · exact .setChannel d c _ rfl
  · split
    · exact .refl d
    · split <;> exact .setChannel d c _ rfl
  · exact .refl d
  · exact .refl d

theorem joinWait_sameCfgs (c : Fin 4) (p : Port) (d : Delivery) : SameCfgs d (joinWait c p d) := by
  rw [joinWait]
  split
  · exact .refl d
  · exact .setWait d p _

theorem attemptSend_sameCfgs (env : Env) (c : Fin 4) (head : Bool) (d : Delivery) : SameCfgs d (attemptSend env c head d).1 := by
  simp only [attemptSend]
  split
  · exact .refl d
  · split
    · split
      · exact .setChannel d c _ rfl
      · refine SameCfgs.trans ?_ (.setPort _ _ _)
        refine SameCfgs.trans (e := { d with recq := _ }) (.of_eq rfl rfl) (.setChannel _ c _ rfl)
    · exact joinWait_sameCfgs c _ d

theorem continueSend_sameCfgs (c : Fin 4) (k : Nat) (d : Delivery) : SameCfgs d (continueSend c k d).1 := by
  rw [continueSend]
  generalize (if (d.channel c).cfg.count ≠ 0 then (d.channel c).remaining - k else (d.channel c).remaining) = left
  split
  · exact .setChannel d c _ rfl
  · split
    · split <;> exact .setChannel d c _ rfl
    · split <;> exact .setChannel d c _ rfl

theorem serveWaitList_sameCfgs (p : Port) (d : Delivery) : SameCfgs d (serveWaitList p d).1 := by
  rw [serveWaitList]
  split
  · exact .refl d
  · split
    · exact .setWait d p _
    · exact .refl d

/-- No task of a cascade writes a configuration. -/
theorem perform_sameCfgs (env : Env) (t : Task) (d : Delivery) : SameCfgs d (perform env t d).1 := by
  cases t with
  | edge n detail => exact recordEdge_sameCfgs n detail d
  | levels reports => exact foldl_level_sameCfgs reports d
  | queueHigh => exact .refl d
  | trigger c => exact takeTrigger_sameCfgs c d
  | attempt c head => exact attemptSend_sameCfgs env c head d
  | sent c k => exact continueSend_sameCfgs c k d
  | waitList p => exact serveWaitList_sameCfgs p d
  | offers p =>
    exact ⟨fun n => (offerOne_sameReport env p d n).1, fun c => by rw [perform, Delivery.channel, (offerOne_frame env p d).2.1]; rfl⟩
  | grant p =>
    exact ⟨fun n => (grant_sameReport env p d n).1, fun c => by rw [perform, Delivery.channel, (grant_frame env p d).2.1]; rfl⟩
  | freed p => exact .refl d

theorem run_sameCfgs (s : State) (ts : List Task) : SameCfgs s.dlv (s.run ts).dlv :=
  run_keeps (fun d => SameCfgs s.dlv d) s ts (fun t d h => h.trans (perform_sameCfgs s.env t d)) (.refl _)

/-! ## What the laws of the meter read of the rest of the part -/

/-- DEVICE, the slots, the harmonic sets, the limit profiles and the entries of the delivery side are as they were. -/
structure SameTables (s t : State) : Prop where
  device : t.device = s.device
  slots : t.slots = s.slots
  hsets : t.finisher.hsets = s.finisher.hsets
  limits : t.finisher.limits = s.finisher.limits
  cfgs : SameCfgs s.dlv t.dlv

theorem SameTables.refl (s : State) : SameTables s s := ⟨rfl, rfl, rfl, rfl, .refl _⟩

theorem SameTables.trans {s t u : State} (h : SameTables s t) (k : SameTables t u) : SameTables s u :=
  ⟨k.device.trans h.device, k.slots.trans h.slots, k.hsets.trans h.hsets, k.limits.trans h.limits, h.cfgs.trans k.cfgs⟩

theorem SameTables.foldl {α : Type} (f : State → α → State) (h : ∀ s a, SameTables s (f s a)) :
    ∀ (l : List α) (s : State), SameTables s (l.foldl f s) := by
  intro l
  induction l with
  | nil => exact SameTables.refl
  | cons a l ih => exact fun s => (h s a).trans (ih _)

theorem State.run_sameTables (s : State) (ts : List Task) : SameTables s (s.run ts) := ⟨rfl, rfl, rfl, rfl, run_sameCfgs s ts⟩

theorem State.beginFinish_sameTables (s : State) : SameTables s s.beginFinish := by
  rw [State.beginFinish_eq]; exact ⟨rfl, rfl, rfl, rfl, .refl _⟩

theorem State.pointEvent_sameTables (i : Fin 24) (s : State) (e : PointEvent) : SameTables s (s.pointEvent i e) := by
  cases e with
  | overflow => exact State.run_sameTables s _
  | discarded r => exact State.run_sameTables s _
  | untracked b => exact State.run_sameTables s _
  | handOver e =>
    rw [State.pointEvent, State.appendFinish]
    refine SameTables.trans ?_ (State.beginFinish_sameTables _)
    exact ⟨rfl, rfl, rfl, rfl, .refl _⟩

theorem State.onPoint_sameTables (i : Fin 24) (f : PointCtx → Point → PointStep) (s : State) : SameTables s (s.onPoint i f) := by
  rw [State.onPoint]
  refine SameTables.trans ?_ (SameTables.foldl _ (State.pointEvent_sameTables i) _ _)
  exact ⟨rfl, rfl, rfl, rfl, .refl _⟩

/-! ## The Finish Queue (R69, R93 to R95) -/

/-- The bank of point i that an entry of the Finish Queue names. -/
def queuedBank (i : Fin 24) (q : List FinishEntry) : Option BankIx := (q.find? fun e => e.point = i).map (·.bank)

theorem queuedBank_eq_none_iff (i : Fin 24) (q : List FinishEntry) : queuedBank i q = none ↔ i ∉ q.map (·.point) := by
  simp only [queuedBank, Option.map_eq_none_iff, List.find?_eq_none, decide_eq_true_eq, List.mem_map, not_exists, not_and]

/-- Where no point has two entries, the entry of a point is the one found. -/
theorem queuedBank_eq_some_iff {i : Fin 24} {q : List FinishEntry} (hq : (q.map (·.point)).Nodup) (ix : BankIx) :
    queuedBank i q = some ix ↔ ∃ e ∈ q, e.point = i ∧ e.bank = ix := by
  induction q with
  | nil => simp [queuedBank]
  | cons e q ih =>
    rw [List.map_cons, List.nodup_cons] at hq
    by_cases he : e.point = i
    · have hnone : ∀ x ∈ q, x.point ≠ i := fun x hx hxi => hq.1 (by rw [he, ← hxi]; exact List.mem_map_of_mem hx)
      simp only [queuedBank, List.find?_cons_of_pos (p := fun e : FinishEntry => decide (e.point = i)) (by simpa using he),
        Option.map_some, Option.some.injEq, List.mem_cons]
      constructor
      · rintro rfl; exact ⟨e, .inl rfl, he, rfl⟩
      · rintro ⟨x, rfl | hx, hxi, rfl⟩
        · rfl
        · exact absurd hxi (hnone x hx)
    · rw [queuedBank, List.find?_cons_of_neg (by simpa using he), ← queuedBank, ih hq.2]
      simp [he]

/-- A part of the queue that holds no entry of the point is not looked at. -/
theorem queuedBank_cons_other {i : Fin 24} {e : FinishEntry} {q : List FinishEntry} (h : e.point ≠ i) :
    queuedBank i (e :: q) = queuedBank i q := by
  rw [queuedBank, List.find?_cons_of_neg (by simpa using h), ← queuedBank]

theorem queuedBank_cons_same {i : Fin 24} {e : FinishEntry} {q : List FinishEntry} (h : e.point = i) :
    queuedBank i (e :: q) = some e.bank := by
  rw [queuedBank, List.find?_cons_of_pos (by simpa using h), Option.map_some]

theorem queuedBank_concat (i : Fin 24) (q : List FinishEntry) (e : FinishEntry) :
    queuedBank i (q ++ [e]) = (queuedBank i q).or (if e.point = i then some e.bank else none) := by
  rw [queuedBank, List.find?_append, queuedBank]
  cases q.find? (fun e => decide (e.point = i)) with
  | some x => rfl
  | none =>
    by_cases h : e.point = i <;> simp [h]

theorem queuedBank_filter (i j : Fin 24) (q : List FinishEntry) :
    queuedBank j (q.filter fun e => e.point ≠ i) = if j = i then none else queuedBank j q := by
  induction q with
  | nil => simp [queuedBank]
  | cons e q ih =>
    by_cases he : e.point = i
    · rw [List.filter_cons_of_neg (by simpa using he), ih]
      split
      · rfl
      · rename_i hj
        rw [queuedBank_cons_other (by rw [he]; exact Ne.symm hj)]
    · rw [List.filter_cons_of_pos (by simpa using he)]
      by_cases hj : e.point = j
      · rw [queuedBank_cons_same hj, queuedBank_cons_same hj, if_neg (by rw [← hj]; exact he)]
      · rw [queuedBank_cons_other hj, queuedBank_cons_other hj, ih]

/-- The Finish Queue's own part of its law: no point twice, and the Finisher at work exactly while it is not empty. -/
def QueueSound (f : Finisher) : Prop := (f.queue.map (·.point)).Nodup ∧ (f.active.isSome = true ↔ f.queue ≠ [])

/-- A queue of no more than one entry of each point holds at most 24 (R93). -/
theorem finishQueueSound_iff (s : State) :
    FinishQueueSound s ↔ QueueSound s.finisher ∧ ∀ i, BankLaw (queuedBank i s.finisher.queue) (s.point i) := by
  have banks (hq : (s.finisher.queue.map (·.point)).Nodup) (i : Fin 24) (ix : BankIx) :
      ((∃ b, (s.point i).framer.bank ix = .out b) ↔ ∃ e ∈ s.finisher.queue, e.point = i ∧ e.bank = ix) ∧
        ((∃ b, (s.point i).framer.bank ix = .active b) ↔ ∃ w, (s.point i).framer.window = some w ∧ w.bank = ix) ↔
      (((s.point i).framer.bank ix).state = .out ↔ queuedBank i s.finisher.queue = some ix) ∧
        (((s.point i).framer.bank ix).state = .active ↔ (s.point i).framer.window.map (·.bank) = some ix) := by
    rw [queuedBank_eq_some_iff hq, Option.map_eq_some_iff]
    cases (s.point i).framer.bank ix <;> simp [Bank.state]
  constructor
  · rintro ⟨-, hn, hb, ha⟩
    exact ⟨⟨hn, ha⟩, fun i ix => (banks hn i ix).mp (hb i ix)⟩
  · rintro ⟨⟨hn, ha⟩, hb⟩
    refine ⟨?_, hn, fun i ix => (banks hn i ix).mpr (hb i ix), ha⟩
    have := hn.length_le_card
    simpa using this

/-- A begin of a finish: the queue stays, and the Finisher is at work while it is not empty (R94). -/
theorem State.beginFinish_queue (s : State) : s.beginFinish.finisher.queue = s.finisher.queue := by
  rw [State.beginFinish_eq]

theorem State.beginFinish_points (s : State) : s.beginFinish.points = s.points := by
  rw [State.beginFinish_eq]

theorem State.beginFinish_active (s : State) (h : s.finisher.active.isSome = true → s.finisher.queue ≠ []) :
    s.beginFinish.finisher.active.isSome = true ↔ s.finisher.queue ≠ [] := by
  rw [State.beginFinish]
  split
  · rename_i hq
    simp [hq]
  · rename_i hno
    refine ⟨h, fun hq => ?_⟩
    obtain ⟨e, q, hq⟩ := List.exists_cons_of_ne_nil hq
    cases ha : s.finisher.active with
    | some a => rfl
    | none => exact absurd hq (hno e q ha)

theorem State.beginFinish_queueSound (s : State) (hn : (s.finisher.queue.map (·.point)).Nodup)
    (ha : s.finisher.active.isSome = true → s.finisher.queue ≠ []) : QueueSound s.beginFinish.finisher := by
  rw [QueueSound, State.beginFinish_queue]
  exact ⟨hn, s.beginFinish_active ha⟩

theorem State.appendFinish_queueSound (e : FinishEntry) (s : State) (h : QueueSound s.finisher)
    (hnew : queuedBank e.point s.finisher.queue = none) :
    QueueSound (s.appendFinish e).finisher ∧ (s.appendFinish e).finisher.queue = s.finisher.queue ++ [e] := by
  refine ⟨State.beginFinish_queueSound _ ?_ fun _ => by simp, State.beginFinish_queue _⟩
  rw [queuedBank_eq_none_iff] at hnew
  rw [List.map_append]
  exact List.nodup_append.mpr ⟨h.1, List.nodup_singleton _, fun a ha b hb => by
    rw [List.map_singleton, List.mem_singleton] at hb
    rw [hb]; exact fun hab => hnew (hab ▸ ha)⟩

/-- The events of point i bring its bank on the queue where the point's block says, and no other point's. -/
theorem State.pointEvents_queue (i : Fin 24) {es : List PointEvent} {o o' : Option BankIx} (h : Handed o es o') :
    ∀ s : State, QueueSound s.finisher → queuedBank i s.finisher.queue = o →
      (let t := es.foldl (State.pointEvent i) s
       QueueSound t.finisher ∧ queuedBank i t.finisher.queue = o' ∧
         ∀ j, j ≠ i → queuedBank j t.finisher.queue = queuedBank j s.finisher.queue) := by
  induction h with
  | nil o => exact fun s hq ho => ⟨hq, ho, fun _ _ => rfl⟩
  | quiet hv hrest ih =>
    rename_i v es
    intro s hq ho
    have hsame : (s.pointEvent i v).finisher = s.finisher := by
      cases v with
      | overflow => rw [State.pointEvent, State.raise_finisher]
      | discarded r => rw [State.pointEvent, State.raise_finisher]
      | untracked b => rw [State.pointEvent, State.run_finisher]
      | handOver e => exact absurd rfl (hv e)
    have := ih (s.pointEvent i v)
    rw [hsame] at this
    exact this hq ho
  | hand e _ ih =>
    intro s hq ho
    obtain ⟨hsound, hqueue⟩ := s.appendFinish_queueSound { e with point := i } hq ho
    have hbank : ∀ j, queuedBank j (s.pointEvent i (.handOver e)).finisher.queue =
        (queuedBank j s.finisher.queue).or (if i = j then some e.bank else none) := fun j => by
      rw [State.pointEvent, hqueue, queuedBank_concat]
    obtain ⟨h₁, h₂, h₃⟩ := ih (s.pointEvent i (.handOver e)) hsound (by rw [hbank, ho]; simp)
    exact ⟨h₁, h₂, fun j hj => by rw [List.foldl_cons, h₃ j hj, hbank, if_neg (Ne.symm hj), Option.or_none]⟩

/-- A treatment of a point keeps the law of the Finish Queue (R69, R93). -/
theorem State.onPoint_finishQueue {i : Fin 24} {f : PointCtx → Point → PointStep} {s : State}
    (hf : (s.point i).Kept (f s.ctx (s.point i))) (hs : (s.point i).Sound) (h : FinishQueueSound s) :
    FinishQueueSound (s.onPoint i f) := by
  rw [finishQueueSound_iff] at h ⊢
  obtain ⟨hq, hb⟩ := h
  obtain ⟨o', hhand, hlaw⟩ := hf.banks hs _ (hb i)
  obtain ⟨h₁, h₂, h₃⟩ := State.pointEvents_queue i hhand (s.setPoint i (f s.ctx (s.point i)).1) hq rfl
  refine ⟨h₁, fun j => ?_⟩
  by_cases hj : j = i
  · subst hj
    rw [State.onPoint_point_same]
    exact (congrArg (fun o => BankLaw o _) h₂).mpr hlaw
  · rw [State.onPoint_point_other i j f s hj]
    exact (congrArg (fun o => BankLaw o _) (h₃ j hj)).mpr (hb j)

/-! ### An entry leaves the queue (R94, R95) -/

theorem Point.freeBank_state (ix jx : BankIx) (p : Point) :
    ((p.freeBank ix).framer.bank jx).state = if jx = ix then .free else (p.framer.bank jx).state := by
  cases ix <;> cases jx <;> rfl

/-- The bank of an entry that leaves the queue is FREE, and the point has none on the queue. -/
theorem BankLaw.freed {p q : Point} {ix : BankIx} (h : BankLaw (some ix) p) (hq : SameFraming (p.freeBank ix).framer q.framer) :
    BankLaw none q := by
  have hout : (p.framer.bank ix).state = .out := (h ix).1.mpr rfl
  intro jx
  rw [hq.2.2, hq.2.1, Point.freeBank_state]
  change _ ∧ (_ ↔ (p.framer.setBank ix .free).window.map (·.bank) = some jx)
  rw [Framer.setBank_window, ← (h jx).2]
  by_cases hj : jx = ix
  · subst hj; simp [hout]
  · have hne : (p.framer.bank jx).state ≠ .out := fun ho => hj (Option.some.inj ((h jx).1.mp ho)).symm
    simp [hj, hne]

/-- Point i's entry removed while it waits: its bank is FREE, and the other entries stay. -/
theorem finishQueueSound_removed {s : State} {i : Fin 24} {f : Finisher} {ix : BankIx} (h : FinishQueueSound s)
    (hx : queuedBank i s.finisher.queue = some ix) (hf : QueueSound f)
    (hq : ∀ j, queuedBank j f.queue = if j = i then none else queuedBank j s.finisher.queue) :
    FinishQueueSound ({ s with finisher := f }.setPoint i ((s.point i).freeBank ix)) := by
  rw [finishQueueSound_iff] at h ⊢
  refine ⟨hf, fun j => ?_⟩
  rw [State.setPoint_finisher, hq]
  by_cases hj : j = i
  · subst hj
    rw [State.setPoint_point_same, if_pos rfl]
    have hb := h.2 j
    rw [hx] at hb
    exact hb.freed (.refl _)
  · rw [State.setPoint_point_other _ _ _ _ hj, if_neg hj]
    exact h.2 j

theorem find_queuedBank {i : Fin 24} {q : List FinishEntry} {x : FinishEntry}
    (h : (q.find? fun x => x.point = i) = some x) : queuedBank i q = some x.bank := by rw [queuedBank, h]; rfl

theorem QueueSound.filter {q : List FinishEntry} (h : (q.map (·.point)).Nodup) (i : Fin 24) :
    ((q.filter fun e => e.point ≠ i).map (·.point)).Nodup := h.sublist (List.filter_sublist.map _)

/-- An entry dropped by a disable or a point reset (R95). -/
theorem State.dropFinish_finishQueue (i : Fin 24) (s : State) (h : FinishQueueSound s) : FinishQueueSound (s.dropFinish i) := by
  have hs := (finishQueueSound_iff s).mp h
  obtain ⟨⟨hn, ha⟩, hb⟩ := hs
  rw [State.dropFinish]
  split
  · rename_i a e rest hact hqueue
    split
    · rw [finishQueueSound_iff]
      exact ⟨⟨hn, by simp [hqueue]⟩, hb⟩
    · rename_i he
      split
      · exact h
      · rename_i x hx
        have hfilter : e :: rest.filter (fun y => y.point ≠ i) = s.finisher.queue.filter fun y => y.point ≠ i := by
          rw [hqueue, List.filter_cons_of_pos (by simpa using he)]
        rw [hfilter]
        refine finishQueueSound_removed h ?_ ⟨QueueSound.filter hn i, ?_⟩ fun j => queuedBank_filter i j _
        · rw [hqueue, queuedBank_cons_other he]; exact find_queuedBank hx
        · rw [← hfilter, hact]; simp
  · rename_i hact
    have hempty : s.finisher.queue = [] := by
      by_contra hne
      rw [hact] at ha
      simpa using ha.mpr hne
    rw [hempty]
    exact h
  · exact h

/-- The head entry leaves the queue with its bank FREE, and the Finisher begins the next or becomes idle (R94, R95). -/
theorem State.nextFinish_finishQueue {s : State} {e : FinishEntry} {rest : List FinishEntry} {q : Point} (f : Finisher)
    (h : FinishQueueSound s) (hq : s.finisher.queue = e :: rest) (hf : f.queue = s.finisher.queue)
    (hp : SameFraming ((s.point e.point).freeBank e.bank).framer q.framer) :
    FinishQueueSound ({ s.setPoint e.point q with finisher := f }.nextFinish) := by
  obtain ⟨⟨hn, -⟩, hb⟩ := (finishQueueSound_iff s).mp h
  have hrest : f.queue.drop 1 = rest := by rw [hf, hq]; rfl
  rw [hq, List.map_cons, List.nodup_cons] at hn
  rw [finishQueueSound_iff]
  refine ⟨State.beginFinish_queueSound _ (by rw [hrest]; exact hn.2) (fun hsome => by cases hsome), fun j => ?_⟩
  have hqueue : ({ s.setPoint e.point q with finisher := f } : State).nextFinish.finisher.queue = rest := by
    rw [State.nextFinish, State.beginFinish_queue]; exact hrest
  have hpoint : ({ s.setPoint e.point q with finisher := f } : State).nextFinish.point j = (s.setPoint e.point q).point j := by
    rw [State.nextFinish, State.point, State.beginFinish_points]; rfl
  rw [hqueue, hpoint]
  have hj := hb j
  rw [hq] at hj
  by_cases he : j = e.point
  · subst he
    rw [State.setPoint_point_same, (queuedBank_eq_none_iff _ _).mpr hn.1]
    rw [queuedBank_cons_same rfl] at hj
    exact hj.freed hp
  · rw [State.setPoint_point_other _ _ _ _ he, ← queuedBank_cons_other (e := e) (Ne.symm he)]
    exact hj

end Sys2Proof.Machine
end

section
/-! SUPPORT. The laws of the meter through the operations of the blocks: DEVICE and the tables in range, the remainders, the points, the
Finish Queue and the alignment queues (R27, R45, R48, R55, R65, R69, R91, R93, R111, R151, R178). -/

namespace Sys2Proof.Machine

/-! ## What a run of the part's operations keeps -/

/-- Every law of the meter that held still holds. -/
structure LawsKept (s t : State) : Prop where
  device : DeviceLegal s → DeviceLegal t
  tables : TablesLegal s → TablesLegal t
  remainders : RemaindersBelow s → RemaindersBelow t
  points : PointsSound s → PointsSound t
  queue : PointsSound s → FinishQueueSound s → FinishQueueSound t
  pairing : PointsSound s → PairingSound s → PairingSound t

theorem LawsKept.refl (s : State) : LawsKept s s := ⟨id, id, id, id, fun _ => id, fun _ => id⟩

theorem LawsKept.trans {s t u : State} (h : LawsKept s t) (k : LawsKept t u) : LawsKept s u where
  device := k.device ∘ h.device
  tables := k.tables ∘ h.tables
  remainders := k.remainders ∘ h.remainders
  points := k.points ∘ h.points
  queue hp hq := k.queue (h.points hp) (h.queue hp hq)
  pairing hp hq := k.pairing (h.points hp) (h.pairing hp hq)

theorem LawsKept.ite {s t u : State} {c : Prop} [Decidable c] (ht : c → LawsKept s t) (hu : ¬ c → LawsKept s u) :
    LawsKept s (if c then t else u) := by
  split
  · exact ht ‹_›
  · exact hu ‹_›

/-- The queues of a point behind the slots of a state. -/
theorem pairingSound_iff (s : State) :
    PairingSound s ↔ (∀ k : Fin 32, (s.slot k).st = .disabled ↔ (s.slot k).cfg.enabled = false) ∧
      ∀ i : Fin 24, (s.point i).PairLaw s.ctx.locked fun k => (s.slot k).expected.getD 0 := by
  refine and_congr Iff.rfl (forall_congr' fun i => ?_)
  have flag : ∀ (b : Bool) (k : Fin 32), (b = true ↔ (s.slot k).st = .locked) ↔ b = s.ctx.locked k := by
    intro b k
    change _ ↔ b = decide ((s.slot k).st = .locked)
    cases b <;> by_cases h : (s.slot k).st = .locked <;> simp [h]
  constructor
  · rintro ⟨hone, hv, hi, hwaits, hsrc⟩
    exact ⟨hone, hv, hi, hwaits, fun hen => ⟨(flag _ _).mp (hsrc hen).1, (flag _ _).mp (hsrc hen).2⟩⟩
  · rintro ⟨hone, hv, hi, hwaits, hsrc⟩
    exact ⟨hone, hv, hi, hwaits, fun hen => ⟨(flag _ _).mpr (hsrc hen).1, (flag _ _).mpr (hsrc hen).2⟩⟩

/-! ## Changes the laws of a point do not see -/

/-- The binding, the source states, the queues, the framer's state and its window stand as they were. -/
structure Point.SameBinding (p q : Point) : Prop where
  cfg : q.cfg = p.cfg
  waitingCfg : q.waitingCfg = p.waitingCfg
  vLocked : q.vLocked = p.vLocked
  iLocked : q.iLocked = p.iLocked
  vQueue : q.vQueue = p.vQueue
  iQueue : q.iQueue = p.iQueue
  st : q.framer.st = p.framer.st
  window : q.framer.window = p.framer.window

theorem Point.SameBinding.refl (p : Point) : p.SameBinding p := ⟨rfl, rfl, rfl, rfl, rfl, rfl, rfl, rfl⟩

section Binding

variable {p q : Point} (h : p.SameBinding q)

include h

theorem Point.SameBinding.cfgsLegal (hp : p.CfgsLegal) : q.CfgsLegal := by
  unfold Point.CfgsLegal
  rw [h.cfg, h.waitingCfg]
  exact hp

theorem Point.SameBinding.sound (hp : p.Sound) : q.Sound := by
  unfold Point.Sound
  rw [h.cfg, h.waitingCfg, h.st, h.window]
  exact hp

theorem Point.SameBinding.pairLaw {locked : Fin 32 → Bool} {bound : Fin 32 → Nat} (hp : p.PairLaw locked bound) :
    q.PairLaw locked bound :=
  hp.congr (congrArg PointCfg.enabled h.cfg) (congrArg PointCfg.vSlot h.cfg) (congrArg PointCfg.iSlot h.cfg) h.vQueue h.iQueue
    h.vLocked h.iLocked

end Binding

/-- The tables beside the points are as they were: the points decide the law. -/
theorem TablesLegal.congr {s t : State} (h : SameTables s t) (hp : ∀ i, (t.point i).CfgsLegal) (hs : TablesLegal s) :
    TablesLegal t := by
  obtain ⟨hslots, -, hfin, hal, hch⟩ := hs
  refine ⟨fun k => ?_, hp, fun j => ?_, fun n => ?_, fun c => ?_⟩
  · rw [State.slot, h.slots]; exact hslots k
  · rw [h.hsets, h.limits]; exact hfin j
  · rw [h.cfgs.1]; exact hal n
  · rw [h.cfgs.2]; exact hch c

/-- The slots are as they were: the points decide the law. -/
theorem PairingSound.congr {s t : State} (h : SameTables s t)
    (hp : ∀ i, (t.point i).PairLaw s.ctx.locked fun k => (s.slot k).expected.getD 0) (hs : PairingSound s) : PairingSound t := by
  have hslot : ∀ k, t.slot k = s.slot k := fun k => by rw [State.slot, h.slots]; rfl
  have hlocked : t.ctx.locked = s.ctx.locked := funext fun k => congrArg (fun x : Slot => decide (x.st = .locked)) (hslot k)
  rw [pairingSound_iff] at hs ⊢
  simp only [hslot, hlocked]
  exact ⟨hs.1, hp⟩

/-- An operation that changes of the points only what their laws do not see, the accumulators by increments. -/
theorem LawsKept.of_settled {s t : State} (h : SameTables s t) (hp : ∀ i, (s.point i).SameBinding (t.point i))
    (hacc : ∀ i, (s.point i).acc.RemaindersBelow → (t.point i).acc.RemaindersBelow)
    (hq : FinishQueueSound s → FinishQueueSound t) : LawsKept s t where
  device hs := by unfold DeviceLegal; rw [h.device]; exact hs
  tables hs := hs.congr h fun i => (hp i).cfgsLegal (hs.2.1 i)
  remainders hs i := hacc i (hs i)
  points hs i := (hp i).sound (hs i)
  queue _ := hq
  pairing _ hs := hs.congr h fun i => (hp i).pairLaw (((pairingSound_iff s).mp hs).2 i)

theorem State.point_congr {s t : State} (h : t.points = s.points) (i : Fin 24) : t.point i = s.point i := by
  rw [State.point, h]; rfl

/-- An operation that changes nothing of the points and of the Finisher. -/
theorem LawsKept.of_same {s t : State} (h : SameTables s t) (hp : t.points = s.points) (hf : t.finisher = s.finisher) :
    LawsKept s t := by
  have hpoint := State.point_congr hp
  refine .of_settled h (fun i => by rw [hpoint]; exact .refl _) (fun i => by rw [hpoint]; exact id) fun hs => ?_
  rw [finishQueueSound_iff] at hs ⊢
  rw [hf]
  exact ⟨hs.1, fun i => by rw [hpoint]; exact hs.2 i⟩

/-- An operation on the classifier, the agent, the queue of commands, the timebase, the ports or the Record Queue. -/
theorem LawsKept.beyond {s t : State} (hd : t.device = s.device := by rfl) (hsl : t.slots = s.slots := by rfl)
    (hp : t.points = s.points := by rfl) (hf : t.finisher = s.finisher := by rfl)
    (hc : SameCfgs s.dlv t.dlv := by exact .refl _) : LawsKept s t :=
  .of_same ⟨hd, hsl, by rw [hf], by rw [hf], hc⟩ hp hf

theorem State.run_laws (s : State) (ts : List Task) : LawsKept s (s.run ts) := .beyond (hc := run_sameCfgs s ts)

theorem State.raise_laws (s : State) (n : Fin 20) (detail : Nat) : LawsKept s (s.raise n detail) := s.run_laws _

theorem State.updateConditions_laws (s : State) : LawsKept s s.updateConditions := s.run_laws _

/-! ## Points -/

theorem State.forall_onPoint {P : Point → Prop} {s : State} {i : Fin 24} {f : PointCtx → Point → PointStep}
    (hs : ∀ j, P (s.point j)) (hi : P (f s.ctx (s.point i)).1) (j : Fin 24) : P ((s.onPoint i f).point j) := by
  by_cases hj : j = i
  · rw [hj, State.onPoint_point_same]; exact hi
  · rw [State.onPoint_point_other i j f s hj]; exact hs j

/-- A treatment of a point by a write or a point reset. -/
theorem State.onPoint_laws {s : State} {i : Fin 24} {f : PointCtx → Point → PointStep}
    (h : Point.Treated s.ctx (s.point i) (f s.ctx (s.point i))) : LawsKept s (s.onPoint i f) where
  device hs := by unfold DeviceLegal; rw [(State.onPoint_sameTables i f s).device]; exact hs
  tables hs := hs.congr (State.onPoint_sameTables i f s) (State.forall_onPoint hs.2.1 (h.kept.cfgs (hs.2.1 i)))
  remainders hs := State.forall_onPoint (P := fun p => p.acc.RemaindersBelow) hs (by rw [h.kept.acc]; exact hs i)
  points hs := State.forall_onPoint hs (h.kept.sound (hs i))
  queue hs hq := State.onPoint_finishQueue h.kept (hs i) hq
  pairing hs hp := by
    obtain ⟨-, hlaw⟩ := (pairingSound_iff s).mp hp
    exact hp.congr (State.onPoint_sameTables i f s) (State.forall_onPoint hlaw (h.pairing (hs i) _ (hlaw i)))

theorem State.forall_setPoint {P : Point → Point → Prop} {s : State} {i : Fin 24} {q : Point} (hrefl : ∀ p, P p p)
    (h : P (s.point i) q) (j : Fin 24) : P (s.point j) ((s.setPoint i q).point j) := by
  by_cases hj : j = i
  · rw [hj, State.setPoint_point_same]; exact h
  · rw [State.setPoint_point_other s i j q hj]; exact hrefl _

theorem State.setPoint_sameTables (s : State) (i : Fin 24) (q : Point) : SameTables s (s.setPoint i q) :=
  ⟨rfl, rfl, rfl, rfl, .refl _⟩

/-- A point whose results, flags or accounts have changed. -/
theorem State.setPoint_laws {s : State} {i : Fin 24} {q : Point} (hb : (s.point i).SameBinding q)
    (hf : q.framer = (s.point i).framer) (ha : (s.point i).acc.RemaindersBelow → q.acc.RemaindersBelow) :
    LawsKept s (s.setPoint i q) := by
  refine .of_settled (s.setPoint_sameTables i q) (State.forall_setPoint Point.SameBinding.refl hb)
    (State.forall_setPoint (P := fun p q => p.acc.RemaindersBelow → q.acc.RemaindersBelow) (fun _ => id) ha) fun hs => ?_
  rw [finishQueueSound_iff] at hs ⊢
  refine ⟨hs.1, fun j => ?_⟩
  exact State.forall_setPoint (P := fun p q => BankLaw (queuedBank j s.finisher.queue) p → BankLaw (queuedBank j s.finisher.queue) q)
    (fun _ => id) (fun h => h.congr (by rw [hf]) fun ix => by rw [hf]) j (hs.2 j)

/-! ### Remainders (R111, R112, R121) -/

theorem Accum.zero_below (n : Nat) (h : 0 < n) : Accum.zero.rem < n := h

theorem Accumulators.zero_below : Accumulators.zero.RemaindersBelow := by
  refine ⟨fun x hx => ?_, fun j => ?_⟩
  · simp only [Accumulators.zero, List.mem_cons, List.not_mem_nil, or_false, or_self] at hx
    rw [hx]; decide
  · simp [Accumulators.zero, Accum.zero, Config.harmDivisor]

/-- The whole units of a record taken out leave the remainders (R121). -/
theorem Accumulators.clearReported_below (orders : List OrderCount) {a : Accumulators} (h : a.RemaindersBelow) :
    (a.clearReported orders).RemaindersBelow := by
  obtain ⟨hf, hh⟩ := h
  refine ⟨?_, fun j => ?_⟩
  · simpa [Accumulators.clearReported, Accum.clearWhole] using hf
  · have hj : (a.clearReported orders).harm[j] =
        if orders.any fun o => o.order == j.val + 2 then ⟨a.harm[j].imp.clearWhole, a.harm[j].exp.clearWhole⟩
        else a.harm[j] := by simp [Accumulators.clearReported]
    rw [hj]
    split <;> exact hh j

theorem Accum.addIf_below (c : Bool) (inc : Nat) {a : Accum} (h : a.rem < Config.fundDivisor) :
    (a.addIf c inc).rem < Config.fundDivisor := by
  rw [Accum.addIf]
  split
  · exact Accum.add_below _ _ _ (by decide)
  · exact h

theorem Accumulators.addFundamental_below (len excess : Nat) (p q : Int) {a : Accumulators} (h : a.RemaindersBelow) :
    (a.addFundamental len excess p q).RemaindersBelow := by
  obtain ⟨hf, hh⟩ := h
  refine ⟨?_, hh⟩
  simp only [List.forall_mem_cons, Accumulators.addFundamental] at hf ⊢
  obtain ⟨h1, h2, h3, h4, h5, h6, h7, h8⟩ := hf
  exact ⟨Accum.addIf_below _ _ h1, Accum.addIf_below _ _ h2, Accum.addIf_below _ _ h3, Accum.addIf_below _ _ h4,
    Accum.addIf_below _ _ h5, Accum.addIf_below _ _ h6, Accum.add_below _ _ _ (by decide), h8⟩

theorem HarmAccum.add_below (len : Nat) (p : Int) {a : HarmAccum}
    (h : a.imp.rem < Config.harmDivisor ∧ a.exp.rem < Config.harmDivisor) :
    (a.add len p).imp.rem < Config.harmDivisor ∧ (a.add len p).exp.rem < Config.harmDivisor := by
  rw [HarmAccum.add]
  split
  · exact ⟨Accum.add_below _ _ _ (by decide), h.2⟩
  · split
    · exact ⟨h.1, Accum.add_below _ _ _ (by decide)⟩
    · exact h

theorem Accumulators.addHarmonic_below (len : Nat) (o : OrderResult) {a : Accumulators} (h : a.RemaindersBelow) :
    (a.addHarmonic len o).RemaindersBelow := by
  rw [Accumulators.addHarmonic]
  split
  · rename_i ho
    refine ⟨h.1, fun j => ?_⟩
    by_cases hj : o.order - 2 = j.val
    · have hset : (a.harm.set (o.order - 2) ((a.harm[o.order - 2]'ho.2).add len o.p) ho.2)[j] =
          (a.harm[o.order - 2]'ho.2).add len o.p := by simp [hj]
      exact (congrArg (fun x : HarmAccum => x.imp.rem < _ ∧ x.exp.rem < _) hset).mpr
        (HarmAccum.add_below len o.p (h.2 ⟨o.order - 2, ho.2⟩))
    · have hset : (a.harm.set (o.order - 2) ((a.harm[o.order - 2]'ho.2).add len o.p) ho.2)[j] = a.harm[j] := by simp [hj]
      exact (congrArg (fun x : HarmAccum => x.imp.rem < _ ∧ x.exp.rem < _) hset).mpr (h.2 j)
  · exact h

/-- The increments of a window keep every remainder below its divisor (R112, R115, R116). -/
theorem Accumulators.addWindow_below (r : WindowResult) {a : Accumulators} (h : a.RemaindersBelow) :
    (a.addWindow r).RemaindersBelow := by
  have harmonics : ∀ (l : List OrderResult) (b : Accumulators), b.RemaindersBelow →
      (l.foldl (fun a o => a.addHarmonic r.len o) b).RemaindersBelow := by
    intro l
    induction l with
    | nil => exact fun _ hb => hb
    | cons o l ih => exact fun b hb => ih _ (Accumulators.addHarmonic_below r.len o hb)
  exact harmonics _ _ (Accumulators.addFundamental_below _ _ _ _ h)

/-! ### Accounts (R114, R121 to R124) -/

/-- A point of which only the accounts, the open interval and their counters may have changed. -/
structure Point.Accounts (p q : Point) : Prop where
  binding : p.SameBinding q
  framer : q.framer = p.framer
  acc : p.acc.RemaindersBelow → q.acc.RemaindersBelow

theorem Point.accountInto_accounts (no : Nat) (r : WindowResult) (f : OpenFields) {p q : Point} (h : p.Accounts q) :
    p.Accounts (q.accountInto no r f) :=
  ⟨⟨h.binding.cfg, h.binding.waitingCfg, h.binding.vLocked, h.binding.iLocked, h.binding.vQueue, h.binding.iQueue, h.binding.st,
    h.binding.window⟩, h.framer, fun ha => Accumulators.addWindow_below r (h.acc ha)⟩

theorem Point.Accounts.refl (p : Point) : p.Accounts p := ⟨.refl p, rfl, id⟩

theorem Point.afterClose_accounts (f : OpenFields) (p : Point) : p.Accounts (p.afterClose f) :=
  ⟨⟨rfl, rfl, rfl, rfl, rfl, rfl, rfl, rfl⟩, rfl, Accumulators.clearReported_below _⟩

theorem Point.account_accounts (i : Fin 24) (len room : Nat) (r : WindowResult) (p : Point) :
    p.Accounts (p.account i len room r).point := by
  cases hf : p.ivl.fields with
  | none => rw [Point.account_opens i len room r p hf]; exact Point.accountInto_accounts _ _ _ (.refl p)
  | some f =>
    cases hc : closeNeeded len (intervalNumber len r.start) r f with
    | false => rw [Point.account_joins i len room r p f hf hc]; exact Point.accountInto_accounts _ _ _ (.refl p)
    | true =>
      rcases Nat.lt_or_ge room (28 + 5 * f.orders.length) with hr | hr
      · rw [Point.account_merges i len room r p f hf hc hr]
        exact Point.accountInto_accounts _ _ _ ⟨⟨rfl, rfl, rfl, rfl, rfl, rfl, rfl, rfl⟩, rfl, id⟩
      · rw [Point.account_closes i len room r p f hf hc hr]
        exact Point.accountInto_accounts _ _ _ (Point.afterClose_accounts f p)

theorem Point.closeNow_accounts (i : Fin 24) (cut : Bool) (room : Nat) (p : Point) : p.Accounts (p.closeNow i cut room).1 := by
  rw [Point.closeNow]
  split
  · exact ⟨⟨rfl, rfl, rfl, rfl, rfl, rfl, rfl, rfl⟩, rfl, id⟩
  · dsimp only
    split
    · exact Point.afterClose_accounts _ p
    · exact ⟨⟨rfl, rfl, rfl, rfl, rfl, rfl, rfl, rfl⟩, rfl, Accumulators.clearReported_below _⟩

theorem Point.zeroAccounts_accounts (p : Point) : p.Accounts p.zeroAccounts :=
  ⟨⟨rfl, rfl, rfl, rfl, rfl, rfl, rfl, rfl⟩, rfl, fun _ => Accumulators.zero_below⟩

theorem Point.publish_accounts (r : WindowResult) (p : Point) : p.Accounts (p.publish r) :=
  ⟨⟨rfl, rfl, rfl, rfl, rfl, rfl, rfl, rfl⟩, rfl, id⟩

theorem Point.Accounts.laws {s : State} {i : Fin 24} {q : Point} (h : (s.point i).Accounts q) : LawsKept s (s.setPoint i q) :=
  State.setPoint_laws h.binding h.framer h.acc

theorem State.appendIf_laws (i : Fin 24) (o : Option IntervalRecord) (s : State) : LawsKept s (s.appendIf i o) := by
  cases o with
  | none => exact .refl s
  | some r =>
    rw [State.appendIf, State.appendRecord]
    exact LawsKept.trans (t := { s with dlv := { s.dlv with recq := s.dlv.recq.append r } })
      (.beyond (hc := .of_eq rfl rfl)) (State.run_laws _ _)

theorem State.accountWindow_laws (i : Fin 24) (r : WindowResult) (s : State) : LawsKept s (s.accountWindow i r) := by
  have happ := (Point.account_accounts i s.device.intervalLen s.dlv.recq.freeWords r (s.point i)).laws.trans
    (State.appendIf_laws i ((s.point i).account i s.device.intervalLen s.dlv.recq.freeWords r).appended _)
  rw [State.accountWindow]
  exact LawsKept.ite (fun _ => happ.trans (State.raise_laws _ _ _)) fun _ => happ

theorem State.closeInterval_laws (i : Fin 24) (cut : Bool) (s : State) : LawsKept s (s.closeInterval i cut) := by
  rw [State.closeInterval]
  exact (Point.closeNow_accounts i cut s.dlv.recq.freeWords (s.point i)).laws.trans (State.appendIf_laws i _ _)

/-! ## The Finish Queue (R93 to R95, R102) -/

theorem State.beginFinish_laws (s : State) : LawsKept s s.beginFinish := by
  have hpoint := State.point_congr s.beginFinish_points
  refine .of_settled s.beginFinish_sameTables (fun i => by rw [hpoint]; exact .refl _) (fun i => by rw [hpoint]; exact id)
    fun hs => ?_
  rw [finishQueueSound_iff] at hs ⊢
  refine ⟨s.beginFinish_queueSound hs.1.1 hs.1.2.mp, fun i => ?_⟩
  rw [State.beginFinish_queue, hpoint]
  exact hs.2 i

theorem Point.freeBank_sameBinding (ix : BankIx) (p : Point) : p.SameBinding (p.freeBank ix) := by
  cases ix <;> exact ⟨rfl, rfl, rfl, rfl, rfl, rfl, rfl, rfl⟩

/-- An entry dropped frees a bank at most. -/
theorem State.dropFinish_cases (i : Fin 24) (s : State) :
    SameTables s (s.dropFinish i) ∧
      ((s.dropFinish i).points = s.points ∨ ∃ ix, (s.dropFinish i).points = (s.setPoint i ((s.point i).freeBank ix)).points) := by
  have same : SameTables s s ∧ (s.points = s.points ∨ ∃ ix, s.points = (s.setPoint i ((s.point i).freeBank ix)).points) :=
    ⟨.refl s, .inl rfl⟩
  rw [State.dropFinish]
  split
  · split
    · exact ⟨⟨rfl, rfl, rfl, rfl, .refl _⟩, .inl rfl⟩
    · split
      · exact same
      · exact ⟨⟨rfl, rfl, rfl, rfl, .refl _⟩, .inr ⟨_, rfl⟩⟩
  · split
    · exact same
    · exact ⟨⟨rfl, rfl, rfl, rfl, .refl _⟩, .inr ⟨_, rfl⟩⟩
  · exact same

theorem State.dropFinish_laws (i : Fin 24) (s : State) : LawsKept s (s.dropFinish i) := by
  obtain ⟨htables, hpoints⟩ := s.dropFinish_cases i
  have hpoint : ∀ j, (s.point j).SameBinding ((s.dropFinish i).point j) ∧ ((s.dropFinish i).point j).acc = (s.point j).acc := by
    intro j
    rcases hpoints with h | ⟨ix, h⟩
    · rw [State.point_congr h]; exact ⟨.refl _, rfl⟩
    · rw [State.point_congr h]
      exact State.forall_setPoint (P := fun p q => p.SameBinding q ∧ q.acc = p.acc) (fun p => ⟨.refl p, rfl⟩)
        ⟨Point.freeBank_sameBinding ix _, rfl⟩ j
  exact .of_settled htables (fun j => (hpoint j).1) (fun j => by rw [(hpoint j).2]; exact id) (s.dropFinish_finishQueue i)

/-- The head entry leaves the queue: its bank is FREE, and a counter of its point may rise. -/
theorem State.nextFinish_laws {s : State} {e : FinishEntry} {rest : List FinishEntry} {q : Point} (f : Finisher)
    (hq : s.finisher.queue = e :: rest) (hf : f.queue = s.finisher.queue) (hh : f.hsets = s.finisher.hsets)
    (hl : f.limits = s.finisher.limits) (hb : ((s.point e.point).freeBank e.bank).SameBinding q)
    (hp : SameFraming ((s.point e.point).freeBank e.bank).framer q.framer) (ha : q.acc = (s.point e.point).acc) :
    LawsKept s { s.setPoint e.point q with finisher := f }.nextFinish := by
  have htables : SameTables s { s.setPoint e.point q with finisher := f }.nextFinish := by
    rw [State.nextFinish]
    refine SameTables.trans ?_ (State.beginFinish_sameTables _)
    exact ⟨rfl, rfl, hh, hl, .refl _⟩
  have hpoint : ∀ j, (s.point j).SameBinding (({ s.setPoint e.point q with finisher := f } : State).nextFinish.point j) ∧
      (({ s.setPoint e.point q with finisher := f } : State).nextFinish.point j).acc = (s.point j).acc := by
    intro j
    rw [State.nextFinish, State.point_congr (State.beginFinish_points _)]
    have hfree := Point.freeBank_sameBinding e.bank (s.point e.point)
    exact State.forall_setPoint (P := fun p q => p.SameBinding q ∧ q.acc = p.acc) (fun p => ⟨.refl p, rfl⟩)
      ⟨⟨hb.cfg.trans hfree.cfg, hb.waitingCfg.trans hfree.waitingCfg, hb.vLocked.trans hfree.vLocked,
        hb.iLocked.trans hfree.iLocked, hb.vQueue.trans hfree.vQueue, hb.iQueue.trans hfree.iQueue, hb.st.trans hfree.st,
        hb.window.trans hfree.window⟩, ha⟩ j
  exact .of_settled htables (fun j => (hpoint j).1) (fun j => by rw [(hpoint j).2]; exact id)
    fun h => State.nextFinish_finishQueue f h hq hf hp

/-- A record's append leaves the Finisher alone. -/
theorem State.accountWindow_finisher (i : Fin 24) (r : WindowResult) (s : State) :
    (s.accountWindow i r).finisher = s.finisher := by
  rw [State.accountWindow]
  split
  · rw [State.raise_finisher, State.appendIf_eq]; rfl
  · rw [State.appendIf_eq]; rfl

/-- Step 5 of R102 and what follows it. -/
theorem State.releaseHead_laws {s : State} {e : FinishEntry} {rest : List FinishEntry} (hq : s.finisher.queue = e :: rest) :
    LawsKept s (s.setPoint e.point ((s.point e.point).release e.bank)).nextFinish :=
  State.nextFinish_laws s.finisher hq rfl rfl rfl ⟨rfl, rfl, rfl, rfl, rfl, rfl, rfl, rfl⟩ (.refl _) rfl

theorem State.completeFinish_laws (e : FinishEntry) (b : BankSums) (l : LimitProfile) {s : State} {rest : List FinishEntry}
    (hq : s.finisher.queue = e :: rest) : LawsKept s (s.completeFinish e b l) := by
  have hpublished : LawsKept s ((s.setPoint e.point ((s.point e.point).publish (finishResult e b l))).updateConditions) :=
    (Point.publish_accounts _ _).laws.trans (State.updateConditions_laws _)
  have haccounted := hpublished.trans (State.accountWindow_laws e.point (finishResult e b l) _)
  have hqueue : (((s.setPoint e.point ((s.point e.point).publish (finishResult e b l))).updateConditions).accountWindow
      e.point (finishResult e b l)).finisher.queue = e :: rest := by
    rw [State.accountWindow_finisher, State.updateConditions_finisher, State.setPoint_finisher]
    exact hq
  rw [State.completeFinish]
  generalize ((s.setPoint e.point ((s.point e.point).publish (finishResult e b l))).updateConditions).accountWindow
    e.point (finishResult e b l) = u at haccounted hqueue
  exact (haccounted.trans (LawsKept.beyond (t := u.onTickets _))).trans (State.releaseHead_laws hqueue)

theorem State.endAbandoned_laws (e : FinishEntry) {s : State} {rest : List FinishEntry} (hq : s.finisher.queue = e :: rest) :
    LawsKept s (s.endAbandoned e) :=
  State.nextFinish_laws _ hq rfl rfl rfl (.refl _) (.refl _) rfl

/-! ## Slots (R27, R38, R51) -/

theorem State.slot_setSlot {P : Slot → Prop} {s : State} {k : Fin 32} {x : Slot} (h : ∀ j, P (s.slot j)) (hx : P x)
    (j : Fin 32) : P ((s.setSlot k x).slot j) := by
  by_cases hj : j = k
  · rw [hj, State.setSlot_slot_same]; exact hx
  · rw [State.setSlot_slot_other s k j x hj]; exact h j

/-- A slot's event: what it reports and delivers reaches the points. -/
theorem State.applySlot_laws (k : Fin 32) (x : SlotStep) (s : State) (h : SlotStep.Change (s.slot k) x) :
    LawsKept s (s.applySlot k x) where
  device hs := by
    unfold DeviceLegal
    obtain ⟨-, -, -, -, hdev, -⟩ := State.applySlot_same k x s
    rw [hdev]
    exact hs
  tables hs := by
    refine State.applySlot_keeps k x s (fun t ts ht => (t.run_laws ts).tables ht) (fun t i f hf ht => ?_) ?_
    · exact ht.congr (State.onPoint_sameTables i f t) (State.forall_onPoint ht.2.1 ((hf _ _).cfgs (ht.2.1 i)))
    · exact ⟨State.slot_setSlot (P := fun x => x.cfg.Legal) hs.1 (h.legal (hs.1 k)), hs.2⟩
  remainders hs :=
    State.applySlot_keeps (P := RemaindersBelow) k x s (fun _ _ ht => ht) (fun t i f hf ht =>
      State.forall_onPoint (P := fun p => p.acc.RemaindersBelow) ht (by rw [(hf _ _).acc]; exact ht i)) hs
  points hs :=
    State.applySlot_keeps (P := PointsSound) k x s (fun _ _ ht => ht) (fun t i f hf ht =>
      State.forall_onPoint ht ((hf _ _).sound (ht i))) hs
  queue hs hq := by
    refine (State.applySlot_keeps (P := fun t => PointsSound t ∧ FinishQueueSound t) k x s (fun _ _ ht => ht)
      (fun t i f hf ht => ⟨?_, ?_⟩) ⟨hs, hq⟩).2
    · exact State.forall_onPoint ht.1 ((hf _ _).sound (ht.1 i))
    · exact State.onPoint_finishQueue (hf _ _) (ht.1 i) ht.2
  pairing hs hp := by
    rw [pairingSound_iff] at hp ⊢
    obtain ⟨hen, hlaw⟩ := hp
    have hslot : ∀ j, (s.applySlot k x).slot j = (s.setSlot k x.slot).slot j := fun j => by
      rw [State.slot, State.applySlot_slots]; rfl
    have hctx : (s.applySlot k x).ctx.locked = (s.setSlot k x.slot).ctx.locked :=
      funext fun j => congrArg (fun x : Slot => decide (x.st = .locked)) (hslot j)
    simp only [hslot, hctx]
    refine ⟨State.slot_setSlot (P := fun x => x.st = .disabled ↔ x.cfg.enabled = false) hen (h.enabled (hen k)), fun i => ?_⟩
    rw [State.applySlot_point]
    refine SlotStep.told_pairLaw (h.reports (hen k)) (hs i) (hlaw i) rfl ?_ (fun j hj => ⟨?_, ?_⟩) rfl ?_
    · exact congrArg (fun x : Slot => decide (x.st = .locked)) (State.setSlot_slot_same s k x.slot)
    · exact congrArg (fun x : Slot => decide (x.st = .locked)) (State.setSlot_slot_other s k j x.slot hj)
    · rw [State.setSlot_slot_other s k j x.slot hj]
    · rw [State.setSlot_slot_same]

end Sys2Proof.Machine
end

section
/-! SUPPORT. The laws of the meter through written entries, the accounting restart, the services and every command; and the two
statements that every step keeps them. -/

namespace Sys2Proof.Machine

/-! ## What a written entry spells is in range (R205) -/

theorem inRange_eq_some_iff (lo hi n m : Nat) : inRange lo hi n = some m ↔ (lo ≤ n ∧ n ≤ hi) ∧ n = m := by
  simp [inRange]

/-- A value read and what is read after it. -/
theorem read_some {α β : Type} {x : Option α} {f : α → Option β} {b : β} (h : (x >>= f) = some b) :
    ∃ a, x = some a ∧ f a = some b := Option.bind_eq_some_iff.mp h

theorem read_inRange {β : Type} {lo hi n : Nat} {f : Nat → Option β} {b : β} (h : (inRange lo hi n >>= f) = some b) :
    (lo ≤ n ∧ n ≤ hi) ∧ f n = some b := by
  obtain ⟨m, hm, h⟩ := read_some h
  obtain ⟨hn, rfl⟩ := (inRange_eq_some_iff lo hi n m).mp hm
  exact ⟨hn, h⟩

theorem decodeSlotCfg_legal {l : List Byte} {c : SlotCfg} (h : decodeSlotCfg l = some c) : c.Legal := by
  rw [decodeSlotCfg] at h
  obtain ⟨_, -, h⟩ := read_some h
  obtain ⟨_, -, h⟩ := read_some h
  obtain ⟨ha, h⟩ := read_inRange h
  obtain ⟨ht, h⟩ := read_inRange h
  obtain ⟨hg, h⟩ := read_inRange h
  cases h
  exact ⟨ha.1, ha.2, ht.1, ht.2, hg.1, hg.2⟩

theorem read_gain {β : Type} {l : List Byte} {i : Nat} {f : Nat → Option β} {b : β} (h : (decodeGain l i >>= f) = some b) :
    ∃ g, g ≤ 32767 ∧ f g = some b := by
  obtain ⟨hg, h⟩ := read_inRange h
  exact ⟨_, hg.2, h⟩

theorem decodePointCfg_legal {l : List Byte} {c : PointCfg} (h : decodePointCfg l = some c) : c.Legal := by
  rw [decodePointCfg] at h
  obtain ⟨_, -, h⟩ := read_some h
  obtain ⟨_, -, h⟩ := read_some h
  obtain ⟨_, -, h⟩ := read_some h
  obtain ⟨_, -, h⟩ := read_some h
  dsimp only at h
  split at h
  case h_3 => cases h
  all_goals
    obtain ⟨_, -, h⟩ := read_some h
    obtain ⟨hcy, h⟩ := read_inRange h
    obtain ⟨_, -, h⟩ := read_some h
    obtain ⟨_, -, h⟩ := read_some h
    split at h
    case h_4 => cases h
    all_goals
      obtain ⟨_, -, h⟩ := read_some h
      obtain ⟨hb, h⟩ := read_inRange h
      obtain ⟨hm, h⟩ := read_inRange h
      obtain ⟨ht, h⟩ := read_inRange h
      obtain ⟨ia, hia, h⟩ := read_gain h
      obtain ⟨ib, hib, h⟩ := read_gain h
      obtain ⟨ic, hic, h⟩ := read_gain h
      obtain ⟨inn, hinn, h⟩ := read_gain h
      obtain ⟨va, hva, h⟩ := read_gain h
      obtain ⟨vb, hvb, h⟩ := read_gain h
      obtain ⟨vc, hvc, h⟩ := read_gain h
      cases h
      exact ⟨hcy.1, hcy.2, hb.1, hb.2, hm.1, hm.2, ht.2, by
        simpa [Seven.toList] using ⟨hia, hib, hic, hinn, hva, hvb, hvc⟩⟩

theorem decodeHset_valid {l : List Byte} {o : List Nat} (h : decodeHset l = some o) : validOrders o = true := by
  simp only [decodeHset, Option.ite_none_right_eq_some, Bool.and_eq_true, Option.some.injEq] at h
  obtain ⟨⟨-, hv⟩, rfl⟩ := h
  exact hv

theorem decodeLimit_legal {l : List Byte} {p : LimitProfile} (h : decodeLimit l = some p) : p.Legal := by
  simp only [decodeLimit, Option.ite_none_right_eq_some, Option.some.injEq, List.all_eq_true, List.mem_range,
    decide_eq_true_eq] at h
  obtain ⟨hall, rfl⟩ := h
  refine ⟨fun x hx => ?_, hall 49 (by decide), hall 50 (by decide)⟩
  simp only [Vector.toList_ofFn, List.mem_ofFn] at hx
  obtain ⟨i, rfl⟩ := hx
  exact hall i.val (by omega)

theorem decodeAlertCfg_legal {l : List Byte} {c : AlertCfg} (h : decodeAlertCfg l = some c) : c.Legal := by
  rw [decodeAlertCfg] at h
  obtain ⟨_, -, h⟩ := read_some h
  obtain ⟨hl, h⟩ := read_inRange h
  obtain ⟨hv, h⟩ := read_inRange h
  obtain ⟨_, -, h⟩ := read_some h
  have hbyte : (BitVec.ofNat 8 (field 2 1 l)).toNat = field 2 1 l := by
    rw [BitVec.toNat_ofNat]
    omega
  dsimp only at h
  split at h
  case h_3 => cases h
  all_goals
    cases h
    exact ⟨hl.2, by rw [hbyte]; exact hv.1, by rw [hbyte]; exact hv.2⟩

theorem beToNat_lt (l : List Byte) : beToNat l < 256 ^ l.length := by
  induction l with
  | nil => exact Nat.one_pos
  | cons b l ih =>
    have hb : b.toNat * 256 ^ l.length ≤ 255 * 256 ^ l.length := Nat.mul_le_mul_right _ (Nat.le_of_lt_succ b.isLt)
    rw [beToNat_cons, List.length_cons, Nat.pow_succ]
    omega

theorem field_lt (off w : Nat) (l : List Byte) : field off w l < 256 ^ w :=
  (beToNat_lt _).trans_le (Nat.pow_le_pow_right (by decide) (by simp))

theorem decodePushCfg_count {l : List Byte} {c : PushCfg} (h : decodePushCfg l = some c) : c.count ≤ 65535 := by
  rw [decodePushCfg] at h
  obtain ⟨_, -, h⟩ := read_some h
  dsimp only at h
  split at h
  case h_4 => cases h
  all_goals
    obtain ⟨_, -, h⟩ := read_some h
    obtain ⟨_, -, h⟩ := read_some h
    obtain ⟨_, -, h⟩ := read_some h
    obtain ⟨_, -, h⟩ := read_some h
    cases h
    exact Nat.le_of_lt_succ (field_lt 8 2 l)

/-- A DEVICE entry in its ranges, with a permitted manager under the lock (R178, R181). -/
def Device.Legal (d : Device) : Prop :=
  d.node ≠ Config.broadcast ∧ d.managers.length ≤ 4 ∧ Config.broadcast ∉ d.managers ∧
    validInterval d.intervalLen = true ∧ 1 ≤ d.floor ∧ d.floor ≤ 7 ∧ 1 ≤ d.watermark ∧
      d.watermark ≤ Config.queueWords ∧ d.priority.alert ≤ 15 ∧ d.priority.reply ≤ 15 ∧
        d.priority.report ≤ 15 ∧ (d.metrologyLock = true → d.managers ≠ [])

theorem decodeDevice_legal {lock : Bool} {l : List Byte} {d : Device} (h : decodeDevice lock l = some d) : d.Legal := by
  simp only [decodeDevice, Option.bind_eq_bind, Option.bind_eq_some_iff, inRange_eq_some_iff, Option.ite_none_right_eq_some,
    Option.some.injEq, Bool.and_eq_true, bne_iff_ne, ne_eq, Bool.not_eq_true', List.contains_eq_mem, decide_eq_false_iff_not] at h
  obtain ⟨n, ⟨hn, rfl⟩, f, ⟨hf, rfl⟩, w, ⟨hw, rfl⟩, a, ⟨ha, rfl⟩, r, ⟨hr, rfl⟩, p, ⟨hp, rfl⟩,
    ⟨⟨⟨hnode, hman⟩, hlen⟩, hlock⟩, rfl⟩ := h
  refine ⟨hnode, by simpa using hn.2, hman, hlen, hf.1, hf.2, hw.1, hw.2, ha.2, hr.2, hp.2, fun hl => ?_⟩
  intro hnil
  simp_all

end Sys2Proof.Machine
end

section
/-! SUPPORT. The laws of the meter through written entries, the accounting restart, the services and every command (chapters 9 to 12); and
the two statements that every step keeps them. -/

namespace Sys2Proof.Machine

/-! ## Written entries (R176) -/

/-- A written entry in the ranges of its space. -/
def Entry.Legal : Entry → Prop
  | .window _ => True
  | .slot c => c.Legal
  | .point c => c.Legal
  | .hset l => validOrders l = true
  | .limit l => l.Legal
  | .alert c => c.Legal
  | .push c => c.count ≤ 65535
  | .device d => d.Legal

theorem decodeEntry_legal {lock : Bool} {sp : Space} {l : List Byte} {e : Entry} (h : decodeEntry lock sp l = some e) : e.Legal := by
  cases sp with
  | device => obtain ⟨d, hd, rfl⟩ := Option.map_eq_some_iff.mp h; exact decodeDevice_legal hd
  | window => obtain ⟨w, -, rfl⟩ := Option.map_eq_some_iff.mp h; trivial
  | slot => obtain ⟨c, hc, rfl⟩ := Option.map_eq_some_iff.mp h; exact decodeSlotCfg_legal hc
  | point => obtain ⟨c, hc, rfl⟩ := Option.map_eq_some_iff.mp h; exact decodePointCfg_legal hc
  | hset => obtain ⟨o, ho, rfl⟩ := Option.map_eq_some_iff.mp h; exact decodeHset_valid ho
  | limit => obtain ⟨p, hp, rfl⟩ := Option.map_eq_some_iff.mp h; exact decodeLimit_legal hp
  | alert => obtain ⟨c, hc, rfl⟩ := Option.map_eq_some_iff.mp h; exact decodeAlertCfg_legal hc
  | push => obtain ⟨c, hc, rfl⟩ := Option.map_eq_some_iff.mp h; exact decodePushCfg_count hc
  | counters => cases h
  | result => cases h

/-- What a run of reads yields comes from the reads. -/
theorem mapM_some_of {α β : Type} {f : α → Option β} {P : β → Prop} (hf : ∀ a b, f a = some b → P b) :
    ∀ (l : List α) (es : List β), l.mapM f = some es → ∀ e ∈ es, P e := by
  intro l
  induction l with
  | nil =>
    intro es h
    cases h
    exact fun e he => absurd he List.not_mem_nil
  | cons a l ih =>
    intro es h
    rw [List.mapM_cons] at h
    obtain ⟨b, hb, h⟩ := read_some h
    obtain ⟨bs, hbs, h⟩ := read_some h
    cases h
    exact List.forall_mem_cons.mpr ⟨hf a b hb, ih bs hbs⟩

theorem decodeRun_legal {lock : Bool} {sp : Space} {count : Nat} {data : List Byte} {es : List Entry}
    (h : decodeRun lock sp count data = some es) : ∀ e ∈ es, e.Legal :=
  mapM_some_of (fun _ _ he => decodeEntry_legal he) _ _ h

/-- A store into the tables or into DEVICE: the slots, the points and the Finish Queue stay. -/
theorem LawsKept.of_stored {s t : State} (hsl : t.slots = s.slots) (hp : t.points = s.points)
    (hq : t.finisher.queue = s.finisher.queue) (ha : t.finisher.active = s.finisher.active)
    (hd : DeviceLegal s → DeviceLegal t) (ht : TablesLegal s → TablesLegal t) : LawsKept s t := by
  have hpoint := State.point_congr hp
  have hslot : ∀ k, t.slot k = s.slot k := fun k => by rw [State.slot, hsl]; rfl
  refine ⟨hd, ht, fun hs i => by rw [hpoint]; exact hs i, fun hs i => by rw [hpoint]; exact hs i, fun _ hs => ?_, fun _ hs => ?_⟩
  · unfold FinishQueueSound
    simp only [hq, ha, hpoint]
    exact hs
  · unfold PairingSound
    simp only [hslot, hpoint]
    exact hs

theorem State.storeHset_laws (i : Nat) (l : List Nat) (s : State) (hl : validOrders l = true) : LawsKept s (s.storeHset i l) := by
  refine .of_stored rfl rfl rfl rfl id fun hs => ⟨hs.1, hs.2.1, fun j => ⟨?_, (hs.2.2.1 j).2⟩, hs.2.2.2⟩
  have hj : (s.storeHset i l).finisher.hsets[j] = if i = j.val then l else s.finisher.hsets[j] := by
    simp [State.storeHset, Vector.getElem_setIfInBounds]
  rw [hj]
  split
  · exact hl
  · exact (hs.2.2.1 j).1

theorem State.storeLimit_laws (i : Nat) (l : LimitProfile) (s : State) (hl : l.Legal) : LawsKept s (s.storeLimit i l) := by
  refine .of_stored rfl rfl rfl rfl id fun hs => ⟨hs.1, hs.2.1, fun j => ⟨(hs.2.2.1 j).1, ?_⟩, hs.2.2.2⟩
  have hj : (s.storeLimit i l).finisher.limits[j] = if i = j.val then l else s.finisher.limits[j] := by
    simp [State.storeLimit, Vector.getElem_setIfInBounds]
  rw [hj]
  split
  · exact hl
  · exact (hs.2.2.1 j).2

theorem State.storeAlert_laws (i : Nat) (c : AlertCfg) (s : State) (hc : c.Legal) : LawsKept s (s.storeAlert i c) := by
  rw [State.storeAlert]
  split
  · exact .refl s
  · rename_i n _
    refine .of_stored rfl rfl rfl rfl id fun hs => ⟨hs.1, hs.2.1, hs.2.2.1, fun m => ?_, fun c => ?_⟩
    · by_cases hm : m = n
      · rw [hm, Delivery.setAlert_alert_same]; exact hc
      · rw [Delivery.setAlert_alert_other _ _ _ _ hm]; exact hs.2.2.2.1 m
    · rw [Delivery.setAlert_channel]; exact hs.2.2.2.2 c

theorem State.writePush_laws (i : Nat) (c : PushCfg) (s : State) (hc : c.count ≤ 65535) : LawsKept s (s.writePush i c) := by
  rw [State.writePush]
  split
  · exact .refl s
  · rename_i k _
    refine .of_stored rfl rfl rfl rfl id fun hs => ⟨hs.1, hs.2.1, hs.2.2.1, fun m => ?_, fun b => ?_⟩
    · rw [Delivery.setChannel_alert]; exact hs.2.2.2.1 m
    · by_cases hb : b = k
      · rw [hb, Delivery.setChannel_channel_same]; exact hc
      · rw [Delivery.setChannel_channel_other _ _ _ _ hb]; exact hs.2.2.2.2 b

theorem State.deviceStored_laws (d : Device) (s : State) (hd : d.Legal) : LawsKept s (s.deviceStored d) := by
  rw [State.deviceStored]
  split
  · exact .of_stored rfl rfl rfl rfl (fun _ => hd) fun hs => hs
  · exact .of_stored rfl rfl rfl rfl (fun _ => hd) fun hs => hs

theorem State.writeDevice_laws (d : Device) (s : State) (hd : d.Legal) : LawsKept s (s.writeDevice d) := by
  rw [State.writeDevice_eq]
  exact (s.deviceStored_laws d hd).trans (State.run_laws _ _)

theorem State.writeSlot_laws (i : Nat) (c : SlotCfg) (s : State) (hc : c.Legal) : LawsKept s (s.writeSlot i c) := by
  rw [State.writeSlot]
  split
  · exact .refl s
  · exact State.applySlot_laws _ _ s (Slot.write_change _ c _ hc)

theorem State.disablePoint_laws (k : Fin 24) (c : PointCfg) (s : State) (hc : c.Legal) (hoff : c.enabled = false) :
    LawsKept s (s.disablePoint k c) :=
  (((State.onPoint_laws (Point.disable_treated s.ctx c (s.point k) hc hoff)).trans (State.dropFinish_laws k _)).trans
    (State.closeInterval_laws k false _)).trans (State.updateConditions_laws _)

theorem State.writePoint_laws (i : Nat) (c : PointCfg) (s : State) (hc : c.Legal) : LawsKept s (s.writePoint i c) := by
  rw [State.writePoint]
  split
  · exact .refl s
  · rename_i k _
    split
    case h_1 hst hen => exact State.onPoint_laws (Point.storeNow_treated _ c _ hc (.inr ⟨hst, hen⟩))
    case h_2 hst hen => exact State.onPoint_laws (Point.enable_treated _ c _ hc hen hst)
    case h_3 hst hen => exact State.onPoint_laws (Point.storeNow_treated _ c _ hc (.inl ⟨hst, hen⟩))
    case h_4 hst hen => exact State.onPoint_laws (Point.storePending_treated _ c _ hc hen (.inl hst))
    case h_5 hst hen => exact State.onPoint_laws (Point.storePending_treated _ c _ hc hen (.inr hst))
    case h_6 hst hen => exact State.disablePoint_laws _ c s hc hen
    case h_7 hst hen => exact State.disablePoint_laws _ c s hc hen
    case h_8 hst hen => exact State.disablePoint_laws _ c s hc hen

theorem State.writeEntry_laws (i : Nat) (e : Entry) (s : State) (he : e.Legal) : LawsKept s (s.writeEntry i e) := by
  cases e with
  | window w => exact .beyond
  | slot c => exact State.writeSlot_laws i c s he
  | point c => exact State.writePoint_laws i c s he
  | hset l => exact State.storeHset_laws i l s he
  | limit l => exact State.storeLimit_laws i l s he
  | alert c => exact State.storeAlert_laws i c s he
  | push c => exact State.writePush_laws i c s he
  | device d => exact State.writeDevice_laws d s he

theorem State.writeRun_laws (es : List Entry) :
    ∀ (i : Nat) (s : State), (∀ e ∈ es, e.Legal) → LawsKept s (s.writeRun i es) := by
  induction es with
  | nil => intro i s _; exact .refl s
  | cons e es ih =>
    intro i s he
    obtain ⟨h, hs⟩ := List.forall_mem_cons.mp he
    exact (State.writeEntry_laws i e s h).trans (ih _ _ hs)

theorem State.applyWrite_laws (sp : Space) (first count : Nat) (data : List Byte) (s : State) :
    LawsKept s (s.applyWrite sp first count data) := by
  rw [State.applyWrite]
  split
  · exact .refl s
  · rename_i es hes
    exact (State.writeRun_laws es first s (decodeRun_legal hes)).trans
      (LawsKept.ite (fun _ => State.run_laws _ _) fun _ => .refl _)

/-! ## Restart and reset (R184, R209) -/

theorem Finisher.restarted_queueSound {f : Finisher} (h : QueueSound f) : QueueSound f.restarted := by
  obtain ⟨hn, ha⟩ := h
  rw [Finisher.restarted]
  refine ⟨?_, ?_⟩
  · dsimp only
    split
    · exact hn.sublist ((List.take_sublist 1 _).map _)
    · exact List.nodup_nil
  · cases hact : f.active with
    | none => simp
    | some a =>
      rw [hact] at ha
      have hne : f.queue ≠ [] := ha.mp rfl
      simp [hne]

/-- The bank on the queue after a restart is the one under the finish it abandons. -/
theorem Finisher.restarted_queuedBank {f : Finisher} (h : QueueSound f) (i : Fin 24) :
    queuedBank i f.restarted.queue = f.keptBank i := by
  obtain ⟨-, ha⟩ := h
  rw [Finisher.restarted, Finisher.keptBank]
  cases hact : f.active with
  | none => rfl
  | some a =>
    rw [hact] at ha
    obtain ⟨e, rest, hq⟩ := List.exists_cons_of_ne_nil (ha.mp rfl)
    rw [hq]
    by_cases he : e.point = i <;> simp [queuedBank, he]

theorem Point.restarted_bankLaw {o keep : Option BankIx} {p : Point} (h : BankLaw o p) (hk : keep = o ∨ keep = none) :
    BankLaw keep (p.restarted keep) := by
  intro ix
  have hw : (p.restarted keep).framer.window = none := rfl
  rw [Point.restarted_bank, hw]
  by_cases hix : keep = some ix
  · have ho : o = some ix := by rcases hk with hk | hk <;> rw [hk] at hix <;> simp_all
    have hout := (h ix).1.mpr ho
    rw [if_pos hix]
    simp [hout, hix]
  · rw [if_neg hix]
    simp [Bank.state, hix]

theorem Point.restarted_sound (keep : Option BankIx) (p : Point) : (p.restarted keep).Sound := by
  refine ⟨?_, ?_, fun c hc => by cases hc⟩
  · rw [Point.restarted]
    cases (p.waitingCfg.getD p.cfg).enabled <;> simp
  · rw [Point.restarted]
    cases (p.waitingCfg.getD p.cfg).enabled <;> simp

theorem Point.restarted_cfgsLegal (keep : Option BankIx) {p : Point} (h : p.CfgsLegal) : (p.restarted keep).CfgsLegal := by
  refine ⟨?_, fun c hc => by cases hc⟩
  change (p.waitingCfg.getD p.cfg).Legal
  cases hw : p.waitingCfg with
  | none => exact h.1
  | some c => exact h.2 c hw

/-- The kept bank is the queued one. -/
theorem Finisher.keptBank_eq {f : Finisher} (i : Fin 24) : f.keptBank i = queuedBank i f.queue ∨ f.keptBank i = none := by
  rw [Finisher.keptBank]
  split
  · rename_i e rest _ hq
    split
    · rename_i he
      left; rw [hq, queuedBank_cons_same he]
    · exact .inr rfl
  · exact .inr rfl

theorem Slot.restarted_st (x : Slot) : x.restarted.st = if x.cfg.enabled = true then .idle else .disabled := rfl

theorem State.blocksRestarted_laws (s : State) : LawsKept s s.blocksRestarted where
  device hs := hs
  tables hs := by
    obtain ⟨hsl, hp, hf, ha, hc⟩ := hs
    refine ⟨fun k => ?_, fun i => ?_, hf, fun n => ?_, fun c => ?_⟩
    · rw [State.blocksRestarted_slot]; exact hsl k
    · rw [State.blocksRestarted_point]; exact Point.restarted_cfgsLegal _ (hp i)
    · exact (congrArg (fun e : AlertEntry => e.cfg.Legal) (Delivery.restarted_alert s.dlv n)).mpr (ha n)
    · exact (congrArg (fun x : Channel => x.cfg.count ≤ 65535) (Delivery.restarted_channel s.dlv c)).mpr (hc c)
  remainders _ i := by rw [State.blocksRestarted_point]; exact Accumulators.zero_below
  points _ i := by rw [State.blocksRestarted_point]; exact Point.restarted_sound _ _
  queue _ hq := by
    rw [finishQueueSound_iff] at hq ⊢
    refine ⟨Finisher.restarted_queueSound hq.1, fun i => ?_⟩
    have hqueue : queuedBank i s.blocksRestarted.finisher.queue = s.finisher.keptBank i :=
      Finisher.restarted_queuedBank hq.1 i
    rw [hqueue, State.blocksRestarted_point]
    exact Point.restarted_bankLaw (hq.2 i) (Finisher.keptBank_eq i)
  pairing _ _ := by
    rw [pairingSound_iff]
    refine ⟨fun k => ?_, fun i => ?_⟩
    · rw [State.blocksRestarted_slot, Slot.restarted_st]
      change _ ↔ (s.slot k).cfg.enabled = false
      cases (s.slot k).cfg.enabled <;> simp
    · have hoff : ∀ k, s.blocksRestarted.ctx.locked k = false := fun k => by
        change decide ((s.blocksRestarted.slot k).st = .locked) = false
        rw [State.blocksRestarted_slot, Slot.restarted_st]
        split <;> rfl
      rw [State.blocksRestarted_point]
      refine .of_empty rfl rfl fun hen => ?_
      have hon : ((s.point i).waitingCfg.getD (s.point i).cfg).enabled = true := hen
      have off : ∀ b : Bool, (b && !((s.point i).waitingCfg.getD (s.point i).cfg).enabled) = false := fun b => by
        rw [hon, Bool.not_true, Bool.and_false]
      exact ⟨(off _).trans (hoff _).symm, (off _).trans (hoff _).symm⟩

theorem State.restartAccounting_laws (s : State) : LawsKept s s.restartAccounting := by
  rw [State.restartAccounting_eq]
  exact s.blocksRestarted_laws.trans (State.run_laws _ _)

theorem Device.init_legal (straps : BitVec 12) : (Device.init straps).Legal := by
  refine ⟨fun h => ?_, ?_⟩
  case refine_2 =>
    simp [Device.init, validInterval, Config.queueWords, PerClass.defaultPriority]
  have hnode := congrArg BitVec.toNat h
  simp only [Device.init, BitVec.toNat_setWidth, Config.broadcast] at hnode
  have hlt := straps.isLt
  have hmod : straps.toNat % 2 ^ 16 = straps.toNat := Nat.mod_eq_of_lt (by omega)
  rw [hmod] at hnode
  simp at hnode
  omega

theorem AlertCfg.init_legal (n : Fin 20) : (AlertCfg.init n.val).Legal := by
  refine ⟨by simp [AlertCfg.init], ?_⟩
  revert n
  decide

theorem Point.init_cfgsLegal : Point.init.CfgsLegal := by
  refine ⟨⟨by decide, by decide, by decide, by decide, by decide, by decide, by decide, ?_⟩, fun c hc => by cases hc⟩
  simp [Point.init, PointCfg.init, Seven.toList]

section PowerOn

variable (straps : BitVec 12) (pending : List Instr)

@[simp] theorem State.powerOn_point (i : Fin 24) : (State.powerOn straps pending).point i = .init := by
  simp [State.powerOn, State.point]

@[simp] theorem State.powerOn_slot (k : Fin 32) : (State.powerOn straps pending).slot k = .init := by
  simp [State.powerOn, State.slot]

theorem State.powerOn_tables : TablesLegal (State.powerOn straps pending) := by
  refine ⟨fun k => ?_, fun i => ?_, fun j => ⟨?_, ?_⟩, fun n => ?_, fun c => ?_⟩
  · rw [State.powerOn_slot]
    exact ⟨by decide, by decide, by decide, by decide, by decide, by decide⟩
  · rw [State.powerOn_point]; exact Point.init_cfgsLegal
  · have hj : (State.powerOn straps pending).finisher.hsets[j] = [1] := by simp [State.powerOn, Finisher.init]
    rw [hj]; decide
  · have hj : (State.powerOn straps pending).finisher.limits[j] = .zero := by simp [State.powerOn, Finisher.init]
    rw [hj]
    exact ⟨fun x hx => by simp [LimitProfile.zero] at hx; omega, by decide, by decide⟩
  · have hn : ((State.powerOn straps pending).dlv.alert n).cfg = .init n.val := by
      simp [State.powerOn, Delivery.init, Delivery.alert, AlertEntry.init]
    rw [hn]
    exact AlertCfg.init_legal n
  · have hc : (State.powerOn straps pending).dlv.channel c = .init := by simp [State.powerOn, Delivery.init, Delivery.channel]
    rw [hc]; decide

theorem State.powerOn_finishQueue : FinishQueueSound (State.powerOn straps pending) := by
  rw [finishQueueSound_iff]
  refine ⟨⟨List.nodup_nil, by simp [State.powerOn, Finisher.init]⟩, fun i ix => ?_⟩
  rw [State.powerOn_point]
  have hbank : Point.init.framer.bank ix = .free := by cases ix <;> rfl
  rw [hbank]
  simp [State.powerOn, Finisher.init, queuedBank, Bank.state, Point.init, Framer.init]

/-- Every law of the meter holds at the release of the reset input (R209). -/
theorem State.powerOn_laws (s : State) : LawsKept s (State.powerOn straps pending) where
  device _ := Device.init_legal straps
  tables _ := State.powerOn_tables straps pending
  remainders _ i := by rw [State.powerOn_point]; exact Accumulators.zero_below
  points _ i := by
    rw [State.powerOn_point]
    exact ⟨by decide, by decide, fun c hc => by cases hc⟩
  queue _ _ := State.powerOn_finishQueue straps pending
  pairing _ _ := by
    rw [pairingSound_iff]
    refine ⟨fun k => by rw [State.powerOn_slot]; decide, fun i => ?_⟩
    rw [State.powerOn_point]
    exact .of_empty rfl rfl fun hen => by cases hen

end PowerOn

/-! ## Services (R171) -/

theorem SameCfgs.acknowledge (d : Delivery) (v : Nat) : SameCfgs d (d.acknowledge v) := by
  refine ⟨fun n => ?_, fun c => ?_⟩
  · rw [Delivery.acknowledge, Delivery.mapAlerts_alert]
    split <;> rfl
  · rw [Delivery.channel, Delivery.acknowledge, Delivery.mapAlerts]; rfl

theorem SameCfgs.clearAlerts (d : Delivery) (v : Nat) : SameCfgs d (d.clearAlerts v) := by
  refine ⟨fun n => ?_, fun c => ?_⟩
  · rw [Delivery.clearAlerts_alert]
    split <;> rfl
  · rw [Delivery.channel, Delivery.clearAlerts, Delivery.mapAlerts]; rfl

/-- The cascade that ends an operation. -/
theorem LawsKept.run {s t : State} (h : LawsKept s t) (ts : List Task) : LawsKept s (t.run ts) := h.trans (t.run_laws ts)

theorem serveWrite_laws (code first count : Nat) (data : List Byte) (s : State) :
    LawsKept s (serveWrite code first count data s).state := by
  rw [serveWrite]
  split
  · exact .refl s
  · split
    · exact .refl s
    · exact State.applyWrite_laws _ _ _ _ s

theorem serveFetch_laws (p : Port) (count : Nat) (s : State) : LawsKept s (serveFetch p count s).state := by
  rw [serveFetch]
  split
  · exact .refl s
  · dsimp only [State.removeFetched]
    refine LawsKept.run ?_ _
    exact .beyond (hc := .of_eq rfl rfl)

theorem serveAck_laws (v : Nat) (s : State) : LawsKept s (serveAck v s).state := by
  rw [serveAck]
  split
  · exact .refl s
  · exact LawsKept.run (t := { s with dlv := s.dlv.acknowledge v }) (.beyond (hc := .acknowledge s.dlv v)) _

theorem serveClear_laws (v : Nat) (s : State) : LawsKept s (serveClear v s).state := by
  rw [serveClear]
  split
  · exact .refl s
  · exact LawsKept.run (t := { s with dlv := s.dlv.clearAlerts v }) (.beyond (hc := .clearAlerts s.dlv v)) _

theorem servePushStart_laws (i : Nat) (s : State) : LawsKept s (servePushStart i s).state := by
  rw [servePushStart]
  split
  · exact .refl s
  · split
    · exact State.run_laws s _
    · exact .refl s

theorem State.onPoint_reset_laws (k : Fin 24) (s : State) : LawsKept s (s.onPoint k Point.reset) :=
  State.onPoint_laws (f := Point.reset) (Point.reset_treated _ _)

theorem State.onTickets_laws (f : Ticket → Ticket) (s : State) : LawsKept s (s.onTickets f) := .beyond

theorem State.resetPoint_laws (k : Fin 24) (s : State) : LawsKept s (s.resetPoint k) := by
  rw [State.resetPoint]
  refine (State.closeInterval_laws k true s).trans ?_
  refine .trans ?_ (State.onTickets_laws _ _)
  refine .trans ?_ (State.updateConditions_laws _)
  refine .trans ?_ (State.onPoint_reset_laws k _)
  refine .trans (t := (s.closeInterval k true).setPoint k ((s.closeInterval k true).point k).zeroAccounts) ?_
    (State.dropFinish_laws k _)
  exact (Point.zeroAccounts_accounts _).laws

theorem serveResetPoint_laws (i : Nat) (s : State) : LawsKept s (serveResetPoint i s).state := by
  rw [serveResetPoint]
  split
  · exact .refl s
  · exact State.resetPoint_laws _ s

/-- The lock is set only with a permitted manager (R180). -/
theorem serveLock_laws (s : State) : LawsKept s (serveLock s).state := by
  rw [serveLock]
  split
  · exact .refl s
  · rename_i hne
    have hsome : s.device.managers ≠ [] := by simpa using hne
    refine .of_stored rfl rfl rfl rfl (fun hs => ?_) id
    obtain ⟨h1, h2, h3, h4, h5, h6, h7, h8, h9, h10, h11, -⟩ := hs
    exact ⟨h1, h2, h3, h4, h5, h6, h7, h8, h9, h10, h11, fun _ => hsome⟩

theorem State.setLoad_laws (l : Option Load) (s : State) : LawsKept s (s.setLoad l) := .beyond

/-- A refusal keeps the state, or refreshes the load. -/
theorem serveLoadOpen_laws (source : Node) (code first count : Nat) (s : State) :
    LawsKept s (serveLoadOpen source code first count s).state := by
  rw [serveLoadOpen]
  split
  · exact .refl s
  · split
    · exact .refl s
    · split
      · exact .refl s
      · split
        · exact .refl s
        · split
          · exact .refl s
          · exact .beyond

theorem serveLoadData_laws (source : Node) (offset count : Nat) (data : List Byte) (s : State) :
    LawsKept s (serveLoadData source offset count data s).state := by
  rw [serveLoadData]
  split
  · exact .refl s
  · split
    · exact .refl s
    · split
      · exact State.setLoad_laws _ s
      · split
        · exact State.setLoad_laws _ s
        · split
          · exact State.setLoad_laws _ s
          · exact State.setLoad_laws _ s

theorem serveLoadClose_laws (source : Node) (data : List Byte) (s : State) :
    LawsKept s (serveLoadClose source data s).state := by
  rw [serveLoadClose]
  split
  · exact .refl s
  · split
    · exact .refl s
    · split
      · exact State.setLoad_laws _ s
      · split
        · exact State.setLoad_laws _ s
        · split
          · exact State.setLoad_laws _ s
          · split
            · exact State.setLoad_laws _ s
            · refine LawsKept.trans ?_ (State.applyWrite_laws _ _ _ _ _)
              exact .beyond

theorem serveLoadAbort_laws (source : Node) (s : State) : LawsKept s (serveLoadAbort source s).state := by
  rw [serveLoadAbort]
  split
  · exact .refl s
  · split
    · exact .refl s
    · exact State.setLoad_laws _ s

theorem serveSnapshot_laws (i ticket : Nat) (s : State) : LawsKept s (serveSnapshot i ticket s).state := by
  rw [serveSnapshot]
  split
  · rw [serveIssue]
    split
    · exact .refl s
    · split
      · exact .refl s
      · split
        · exact .refl s
        · exact .beyond
  · rw [serveRetrieve]
    split
    · split
      · exact .refl s
      · split <;> exact .refl s
      · split
        · exact .beyond
        · exact .refl s
    · exact .refl s

theorem serveKind_laws (k : ReqKind) (p : Port) (source : Node) (code index count : Nat) (data : List Byte) (s : State) :
    LawsKept s (serveKind k p source code index count data s).state := by
  cases k with
  | read => rw [serveKind, serveRead_state]; exact .refl s
  | write => exact serveWrite_laws _ _ _ _ s
  | writePosted => exact serveWrite_laws _ _ _ _ s
  | fetchRecords => exact serveFetch_laws _ _ s
  | alertAck => exact serveAck_laws _ s
  | alertClear => exact serveClear_laws _ s
  | pushStart => exact servePushStart_laws _ s
  | resetPoint => exact serveResetPoint_laws _ s
  | restartAccounting => exact State.restartAccounting_laws s
  | lockMetrology => exact serveLock_laws s
  | loadOpen => exact serveLoadOpen_laws _ _ _ _ s
  | loadData => exact serveLoadData_laws _ _ _ _ s
  | loadClose => exact serveLoadClose_laws _ _ s
  | loadAbort => exact serveLoadAbort_laws _ s
  | snapshot => exact serveSnapshot_laws _ _ s

theorem serve_laws (r : Request) (s : State) : LawsKept s (serve r s).state := by
  rw [serve]
  split
  · exact .refl s
  · split
    · exact .refl s
    · split
      · exact serveKind_laws _ _ _ _ _ _ _ s
      · exact .refl s

/-! ## The agent (R169 to R171) -/

theorem State.placeReply_laws (p : Port) (f : ReplyFrame) (s : State) : LawsKept s (s.placeReply p f) := by
  rw [State.placeReply]
  split
  · exact LawsKept.run (.beyond (hc := .setPort _ _ _)) _
  · exact .beyond (hc := .modPort _ _ _)

theorem State.endPosted_laws (r : Request) (x : Served) : LawsKept x.state (State.endPosted r x) := by
  rw [State.endPosted]
  split
  · exact .refl _
  · exact LawsKept.run .beyond _

theorem State.serveRequest_laws (r : Request) (s : State) : LawsKept s (s.serveRequest r) := by
  rw [State.serveRequest]
  split
  · exact (serve_laws r s).trans (State.endPosted_laws r _)
  · exact (serve_laws r s).trans (State.placeReply_laws _ _ _)

theorem State.agentLoop_laws (n : Nat) : ∀ s : State, LawsKept s (s.agentLoop n) := by
  induction n with
  | zero => exact LawsKept.refl
  | succ n ih =>
    intro s
    rw [State.agentLoop]
    split
    · exact .refl s
    · rename_i r rest _
      split
      · exact (LawsKept.beyond (t := s.setRequests rest)).trans ((State.serveRequest_laws r _).trans (ih _))
      · exact .refl s

theorem State.agentRun_laws (s : State) : LawsKept s s.agentRun := State.agentLoop_laws _ s

theorem State.requestArrives_laws (r : Request) (s : State) : LawsKept s (s.requestArrives r) := by
  rw [State.requestArrives]
  split
  · dsimp only
    split
    · refine LawsKept.trans ?_ (State.agentRun_laws _)
      exact .beyond
    · exact .beyond
  · exact .beyond

/-! ## The receive side (R2, R7, R22 to R25) -/

theorem State.offerPass_laws (o : Port) (f : List Byte) (s : State) : LawsKept s (s.offerPass o f) := by
  rw [State.offerPass]
  split
  · exact .beyond (hc := .modPort _ _ _)
  · split
    · exact LawsKept.run (.beyond (hc := .setPort _ _ _)) _
    · exact LawsKept.run (.beyond (hc := .modPort _ _ _)) _

theorem State.modClassifier_laws (f : Classifier → Classifier) (s : State) : LawsKept s (s.modClassifier f) := .beyond

theorem State.toTracker_laws (w : StreamWindow) (tag : BitVec 32) (payload : List Byte) (s : State) :
    LawsKept s (s.toTracker w tag payload) := by
  rw [State.toTracker]
  split
  · exact State.modClassifier_laws _ s
  · exact State.applySlot_laws _ _ s (Slot.take_change _ _ _)

theorem State.classifySample_laws (o : Port) (f : List Byte) (s : State) : LawsKept s (s.classifySample o f) := by
  rw [State.classifySample]
  split
  · exact (State.modClassifier_laws _ s).trans (State.offerPass_laws o f _)
  · split
    · exact State.offerPass_laws o f s
    · rename_i i _
      refine (State.modClassifier_laws (Classifier.countHit i) s).trans ?_
      rw [State.windowHit]
      split
      · exact State.toTracker_laws _ _ _ _
      · exact (State.offerPass_laws o f _).trans (State.toTracker_laws _ _ _ _)
      · exact State.offerPass_laws o f _

theorem State.classify_laws (p : Port) (f : List Byte) (s : State) : LawsKept s (s.classify p f) := by
  rw [State.classify]
  split
  · exact State.classifySample_laws _ f s
  · split
    · rw [State.classifyRequest]
      split
      · exact State.requestArrives_laws _ s
      · split
        · exact (State.offerPass_laws _ f s).trans (State.requestArrives_laws _ _)
        · exact State.offerPass_laws _ f s
    · exact State.offerPass_laws _ f s

theorem State.receive_laws (p : Port) (f : List Byte) (s : State) : LawsKept s (s.receive p f) := by
  refine LawsKept.trans (t := { s with dlv := s.dlv.received p (PortCounters.verdict (verdict s.device.node f)) })
    (.beyond (hc := .modPort _ _ _)) ?_
  rw [State.receive]
  split
  · exact .refl _
  · exact State.raise_laws _ _ _
  · exact .refl _
  · exact State.classify_laws p f _

/-! ## Every command -/

theorem State.event_laws {s t : State} {f : State → State} (h : s.event f = .next t) (hf : LawsKept s (f s)) : LawsKept s t := by
  rw [State.event, Host.Outcome.next.injEq] at h
  rw [← h]
  exact LawsKept.ite (fun _ => .refl s) fun _ => hf

theorem State.request_laws {s t : State} {h : ReqHeader} {k : ReqKind} {space : Byte} {index count : BitVec 16}
    {data : List Byte} (e : s.request h k space index count data = .next t) : LawsKept s t :=
  State.event_laws e (State.requestArrives_laws _ s)

theorem SameCfgs.restoreAlerts (l : List AlertFrame) : ∀ d : Delivery, SameCfgs d (d.restoreAlerts l) := by
  induction l with
  | nil => exact SameCfgs.refl
  | cons f l ih =>
    intro d
    refine SameCfgs.trans (.setAlert d f.number _ ?_) (ih _)
    rw [AlertEntry.restore]
    split <;> rfl

theorem State.linkUp_laws (p : Port) (s : State) : LawsKept s (s.linkUp p) := by
  rw [State.linkUp]
  exact LawsKept.run (.beyond (hc := .modPort _ _ _)) _

theorem State.linkDown_laws (p : Port) (receiving : Bool) (s : State) : LawsKept s (s.linkDown p receiving) := by
  rw [State.linkDown]
  refine LawsKept.trans (LawsKept.run (.beyond (hc := ?_)) _) (State.agentRun_laws _)
  exact (SameCfgs.modPort s.dlv p _).trans (.restoreAlerts _ _)

theorem State.transmissionEnd_laws (p : Port) (s : State) : LawsKept s (s.transmissionEnd p) := by
  rw [State.transmissionEnd]
  exact LawsKept.trans (LawsKept.run (.beyond (hc := .modPort _ _ _)) _) (State.agentRun_laws _)

theorem State.finishComplete_laws (s : State) :
    LawsKept s (match s.dueFinish false with
      | none => s
      | some (e, a) => s.completeFinish e (s.finishSums e) a.limits) := by
  split
  · exact .refl s
  · rename_i e a h
    obtain ⟨⟨rest, hq⟩, -⟩ := (dueFinish_eq_some_iff s false e a).mp h
    exact State.completeFinish_laws e _ _ hq

theorem State.abandonedFinish_laws (s : State) :
    LawsKept s (match s.dueFinish true with
      | none => s
      | some (e, _) => s.endAbandoned e) := by
  split
  · exact .refl s
  · rename_i e a h
    obtain ⟨⟨rest, hq⟩, -⟩ := (dueFinish_eq_some_iff s true e a).mp h
    exact State.endAbandoned_laws e hq

theorem exec_laws {c : Instr} {s t : State} (h : exec c s = .next t) : LawsKept s t := by
  cases c with
  | powerOnReset straps =>
    rw [exec, execPowerOnReset, Host.Outcome.next.injEq] at h
    rw [← h]; exact State.powerOn_laws straps _ s
  | resetAsserted =>
    rw [exec, execResetAsserted, Host.Outcome.next.injEq] at h
    rw [← h]; exact (State.powerOn_laws s.straps s.pending s).trans .beyond
  | linkUp p =>
    rw [exec, execLinkUp] at h
    refine State.event_laws h ?_
    exact LawsKept.ite (fun _ => .refl s) fun _ => State.linkUp_laws p s
  | linkDown p receiving =>
    rw [exec, execLinkDown] at h
    refine State.event_laws h ?_
    exact LawsKept.ite (fun _ => State.linkDown_laws p receiving s) fun _ => .refl s
  | frameReceived p bytes =>
    rw [exec, execFrameReceived] at h
    refine State.event_laws h ?_
    exact LawsKept.ite (fun _ => (State.receive_laws p bytes s).trans (State.agentRun_laws _)) fun _ => .refl s
  | lossTimeout k =>
    rw [exec, execLossTimeout] at h
    refine State.event_laws h ?_
    exact LawsKept.ite (fun hd => State.applySlot_laws k _ s (Slot.lose_change _ _ hd)) fun _ => .refl s
  | finishBegin =>
    rw [exec, execFinishBegin] at h
    refine State.event_laws h ?_
    exact State.beginFinish_laws s
  | finishComplete =>
    rw [exec, execFinishComplete] at h
    refine State.event_laws h ?_
    exact State.finishComplete_laws s
  | abandonedFinish =>
    rw [exec, execAbandonedFinish] at h
    refine State.event_laws h ?_
    exact State.abandonedFinish_laws s
  | transmissionEnd p =>
    rw [exec, execTransmissionEnd] at h
    refine State.event_laws h ?_
    exact LawsKept.ite (fun _ => State.transmissionEnd_laws p s) fun _ => .refl s
  | alertOffer p =>
    rw [exec, execAlertOffer] at h
    refine State.event_laws h ?_
    exact State.run_laws s _
  | sendAttempt c =>
    rw [exec, execSendAttempt] at h
    refine State.event_laws h ?_
    exact LawsKept.ite (fun _ => State.run_laws s _) fun _ => State.run_laws s _
  | loadExpired =>
    rw [exec, execLoadExpired] at h
    refine State.event_laws h ?_
    split
    · exact .refl s
    · rw [State.expireLoad]
      exact LawsKept.run .beyond _
  | ticketExpired k =>
    rw [exec, execTicketExpired] at h
    refine State.event_laws h (LawsKept.ite (fun _ => ?_) fun _ => .refl s)
    rw [State.expireTicket]
    exact LawsKept.run .beyond _
  | read h0 space index count => exact State.request_laws h
  | write h0 space index count data => exact State.request_laws h
  | writePosted h0 space index count data => exact State.request_laws h
  | slotWrite h0 index count data => exact State.request_laws h
  | pointWrite h0 index count data => exact State.request_laws h
  | pushWrite h0 index count data => exact State.request_laws h
  | alertWrite h0 index count data => exact State.request_laws h
  | deviceWrite h0 index count data => exact State.request_laws h
  | fetchRecords h0 count => exact State.request_laws h
  | alertAck h0 vector => exact State.request_laws h
  | alertClear h0 vector => exact State.request_laws h
  | pushStart h0 channel => exact State.request_laws h
  | resetPoint h0 point => exact State.request_laws h
  | restartAccounting h0 => exact State.request_laws h
  | lockMetrology h0 => exact State.request_laws h
  | loadOpen h0 space index count => exact State.request_laws h
  | loadData h0 offset count data => exact State.request_laws h
  | loadClose h0 data => exact State.request_laws h
  | loadAbort h0 => exact State.request_laws h
  | snapshotIssue h0 point => exact State.request_laws h
  | snapshotRetrieve h0 point ticket => exact State.request_laws h

/-- Every step keeps every law of the meter: a command taken from the queue, or a tick. -/
theorem step_laws {s t : State} (h : step s = .next t) : LawsKept s t := by
  rw [step] at h
  split at h
  · refine LawsKept.trans ?_ (exec_laws h)
    exact .beyond
  · rw [Host.Outcome.next.injEq] at h
    rw [← h, State.tick]
    exact LawsKept.ite (fun _ => .refl s) fun _ => .beyond

/-- Settles O58: every write stores what its decoder has found in range, and every increment leaves a remainder. -/
theorem everyStepKeepsValuesInRange : Obligations.EveryStepKeepsValuesInRange :=
  fun _ _ h => ⟨(step_laws h).device, (step_laws h).tables, (step_laws h).remainders⟩

/-- Settles O59: every treatment of a point is a chain of moves of its framer, and each move keeps the laws. -/
theorem everyStepKeepsPointsSound : Obligations.EveryStepKeepsPointsSound :=
  ⟨fun _ _ hs h => (step_laws h).points hs, fun _ _ hs hq h => (step_laws h).queue hs hq,
    fun _ _ hs hp h => (step_laws h).pairing hs hp⟩

end Sys2Proof.Machine
end


section
/-! SUPPORT. What a slot's event tells the alert table: STREAM_LOST and STREAM_REACQUIRED, and no other word of them
(R38, R39, R51). -/

namespace Sys2Proof.Machine

/-! ## The entries of STREAM_LOST and STREAM_REACQUIRED -/

theorem outsideCascade_slotSource {n : Fin 20} (hn : n.val < 2) : OutsideCascade n := by
  unfold OutsideCascade
  refine ⟨fun h => ?_, fun c => by omega⟩
  subst h
  exact absurd hn (by decide)

/-- A cascade that does not start with a report of source n keeps the report of its entry. -/
theorem State.run_untold (n : Fin 20) (hn : OutsideCascade n) (ts : List Task) (s : State) (h : ∀ t ∈ ts, ¬ t.tells n) :
    SameReport (s.dlv.alert n) ((s.run ts).dlv.alert n) := settle_untold s.env n hn cascadeBound ts s.dlv h

/-- A point's event speaks of the sources of a point alone. -/
theorem State.pointEvent_slotSource (i : Fin 24) (s : State) (e : PointEvent) {n : Fin 20} (hn : n.val < 2) :
    SameReport (s.dlv.alert n) ((s.pointEvent i e).dlv.alert n) := by
  have hout := outsideCascade_slotSource hn
  have edge (m : Fin 20) (hm : 2 ≤ m.val) (detail : BitVec 32) : ∀ t ∈ [Task.edge m detail], ¬ t.tells n := by
    intro t ht
    rw [List.mem_singleton] at ht
    subst ht
    intro e
    rw [Task.tells] at e
    omega
  cases e with
  | handOver e =>
    rw [State.pointEvent, State.appendFinish, State.beginFinish_eq]
    exact .refl _
  | overflow => exact State.run_untold n hout _ s (edge 2 (by decide) _)
  | discarded r => exact State.run_untold n hout _ s (edge 3 (by decide) _)
  | untracked b =>
    refine State.run_untold n hout _ s fun t ht => ?_
    rw [List.mem_singleton] at ht
    subst ht
    rintro ⟨r, hr, e⟩
    rw [List.mem_singleton] at hr
    subst hr
    have hfour : n.val = 4 := by rw [← e]; rfl
    omega

theorem SameReport.foldl {α : Type} (n : Fin 20) (g : State → α → State)
    (h : ∀ s a, SameReport (s.dlv.alert n) ((g s a).dlv.alert n)) :
    ∀ (l : List α) (s : State), SameReport (s.dlv.alert n) ((l.foldl g s).dlv.alert n) := by
  intro l
  induction l with
  | nil => exact fun s => .refl _
  | cons a l ih => exact fun s => (h s a).trans (ih _)

theorem State.onPoints_slotSource (f : PointCtx → Point → PointStep) (s : State) {n : Fin 20} (hn : n.val < 2) :
    SameReport (s.dlv.alert n) ((s.onPoints f).dlv.alert n) :=
  SameReport.foldl n _ (fun t i => SameReport.foldl n _ (fun u e => State.pointEvent_slotSource i u e hn) _ (t.setPoint i _)) _ s

/-- One report, taken as a cascade of its own, stands when the cascade is done (R155). -/
theorem State.run_reported (r : LevelReport) (hn : OutsideCascade r.number) (s : State) :
    ((s.run [.levels [r]]).dlv.alert r.number).active = r.active ∧
      ((s.run [.levels [r]]).dlv.alert r.number).detail = r.detail := by
  have hrun : (s.run [.levels [r]]).dlv = settle s.env (4095 + 1) [.levels [r]] s.dlv := rfl
  rw [hrun]
  exact settle_reported s.env r hn 4095 [] s.dlv (by simp)

/-! ## The slot's own reports (R38, R39) -/

/-- The state in which the points have taken the slot's lock reports, before STREAM_REACQUIRED is raised. -/
def State.lockReports (k : Fin 32) (x : SlotStep) (s : State) : State := s.slotReports k { x with reacquired := false }

/-- STREAM_LOST tells every LOST slot when the slot's event changes them, and is untouched otherwise. -/
theorem State.lockReports_lost (k : Fin 32) (x : SlotStep) (s : State) :
    (x.lostChanged = true → ((s.lockReports k x).dlv.alert 0).active = (streamLostReport s.slots).active ∧
      ((s.lockReports k x).dlv.alert 0).detail = (streamLostReport s.slots).detail) ∧
    (x.lostChanged = false → SameReport (s.dlv.alert 0) ((s.lockReports k x).dlv.alert 0)) := by
  have told (c : Bool) (t : State) (f : PointCtx → Point → PointStep) :
      SameReport (t.dlv.alert 0) ((if c then t.onPoints f else t).dlv.alert 0) := by
    cases c
    · exact .refl _
    · exact State.onPoints_slotSource f t (by decide)
  have hslots (c : Bool) (f : PointCtx → Point → PointStep) : (if c then s.onPoints f else s).slots = s.slots := by
    cases c
    · rfl
    · obtain ⟨-, -, -, -, -, -, hs, -⟩ := State.onPoints_same f s
      exact hs
  have houtside : OutsideCascade (streamLostReport s.slots).number :=
    outsideCascade_slotSource (n := (streamLostReport s.slots).number) Nat.two_pos
  rw [State.lockReports, State.slotReports]
  refine ⟨fun hl => ?_, fun hl => ?_⟩
  · rw [hslots]
    simp only [hl, Bool.false_eq_true, if_false, if_true]
    obtain ⟨-, hact, hdet, -⟩ := told x.entered
      ((if x.left then s.onPoints fun ctx => Point.slotLeft ctx k else s).run [.levels [streamLostReport s.slots]])
      fun ctx => Point.slotEntered ctx k
    rw [hact, hdet]
    exact State.run_reported (streamLostReport s.slots) houtside _
  · simp only [hl, Bool.false_eq_true, if_false]
    exact (told _ _ _).trans (told _ _ _)

/-- STREAM_REACQUIRED is no part of the lock reports. -/
theorem State.lockReports_reacquired (k : Fin 32) (x : SlotStep) (s : State) :
    SameReport (s.dlv.alert 1) ((s.lockReports k x).dlv.alert 1) := by
  have told (c : Bool) (t : State) (f : PointCtx → Point → PointStep) :
      SameReport (t.dlv.alert 1) ((if c then t.onPoints f else t).dlv.alert 1) := by
    cases c
    · exact .refl _
    · exact State.onPoints_slotSource f t (by decide)
  have lost (c : Bool) (t : State) :
      SameReport (t.dlv.alert 1) ((if c then t.run [.levels [streamLostReport t.slots]] else t).dlv.alert 1) := by
    cases c
    · exact .refl _
    · refine State.run_untold 1 (outsideCascade_slotSource (by decide)) _ t fun u hu => ?_
      rw [List.mem_singleton] at hu
      subst hu
      rintro ⟨r, hr, e⟩
      rw [List.mem_singleton] at hr
      subst hr
      exact Fin.zero_ne_one e
  rw [State.lockReports, State.slotReports]
  exact ((told _ _ _).trans (lost _ _)).trans (told _ _ _)

/-- The raise of STREAM_REACQUIRED is one occurrence of it and no word of STREAM_LOST. -/
theorem State.raise_reacquired (c : Bool) (detail : Nat) (u : State) :
    (((if c then u.raise 1 detail else u).dlv.alert 1).occurrences =
      (u.dlv.alert 1).occurrences + (if c then 1 else 0)) ∧
    SameReport (u.dlv.alert 0) ((if c then u.raise 1 detail else u).dlv.alert 0) := by
  cases c
  · exact ⟨by simp, .refl _⟩
  · refine ⟨raise_alert u 1 (outsideCascade_slotSource (by decide)) detail, ?_⟩
    refine State.run_untold 0 (outsideCascade_slotSource (by decide)) _ u fun t ht => ?_
    rw [List.mem_singleton] at ht
    subst ht
    exact fun e => Fin.zero_ne_one e.symm

theorem State.applySlot_eq (k : Fin 32) (x : SlotStep) (s : State) :
    s.applySlot k x = x.delivered.foldl (fun v r => v.onPoints fun c => Point.offerSet c k r)
      (if x.reacquired then ((s.setSlot k x.slot).lockReports k x).raise 1 k.val else (s.setSlot k x.slot).lockReports k x) :=
  rfl

/-- The delivered sets keep the entries of both sources. -/
theorem State.offers_slotSource (k : Fin 32) (l : List RawSet) (s : State) {n : Fin 20} (hn : n.val < 2) :
    SameReport (s.dlv.alert n) ((l.foldl (fun v r => v.onPoints fun c => Point.offerSet c k r) s).dlv.alert n) :=
  SameReport.foldl n _ (fun t _ => State.onPoints_slotSource _ t hn) l s

/-- What a slot's event makes of the two entries of the slots (R39). -/
theorem State.applySlot_alerts (k : Fin 32) (x : SlotStep) (s : State) :
    ((s.applySlot k x).dlv.alert 1).occurrences = (s.dlv.alert 1).occurrences + (if x.reacquired then 1 else 0) ∧
    (x.lostChanged = true → ((s.applySlot k x).dlv.alert 0).active = (streamLostReport (s.slots.set k x.slot)).active ∧
      ((s.applySlot k x).dlv.alert 0).detail = (streamLostReport (s.slots.set k x.slot)).detail) ∧
    (x.lostChanged = false → ((s.applySlot k x).dlv.alert 0).active = (s.dlv.alert 0).active ∧
      ((s.applySlot k x).dlv.alert 0).detail = (s.dlv.alert 0).detail) := by
  obtain ⟨hraised, hkept⟩ := State.raise_reacquired x.reacquired k.val ((s.setSlot k x.slot).lockReports k x)
  have hoffers := fun n hn => State.offers_slotSource (n := n) k x.delivered (if x.reacquired then
    ((s.setSlot k x.slot).lockReports k x).raise 1 k.val else (s.setSlot k x.slot).lockReports k x) hn
  obtain ⟨-, -, -, hone⟩ := hoffers 1 (by decide)
  obtain ⟨-, hact, hdet, -⟩ := hkept.trans (hoffers 0 (by decide))
  obtain ⟨-, -, -, hreports⟩ := State.lockReports_reacquired k x (s.setSlot k x.slot)
  obtain ⟨hlost, hquiet⟩ := State.lockReports_lost k x (s.setSlot k x.slot)
  rw [State.applySlot_eq]
  refine ⟨(hone.trans hraised).trans (by rw [hreports]; rfl), fun hl => ?_, fun hl => ?_⟩
  · exact ⟨hact.trans (hlost hl).1, hdet.trans (hlost hl).2⟩
  · obtain ⟨-, hact0, hdet0, -⟩ := hquiet hl
    exact ⟨hact.trans hact0, hdet.trans hdet0⟩

theorem SameBeyondPoints.eq {s t : State} (h : SameBeyondPoints s t) :
    t = { s with points := t.points, finisher := t.finisher, dlv := t.dlv } := by
  obtain ⟨h1, h2, h3, h4, h5, h6, h7, h8⟩ := h
  cases s; cases t
  simp only at h1 h2 h3 h4 h5 h6 h7 h8
  subst h1; subst h2; subst h3; subst h4; subst h5; subst h6; subst h7; subst h8
  rfl

end Sys2Proof.Machine
end


section
/-! SUPPORT. Where an accepted frame goes: the classifier's ways and the agent's (R22 to R26, R169 to R171). -/

namespace Sys2Proof.Machine

/-! ## The classifier leaves the agent and the slots as they are -/

theorem State.offerPass_same (o : Port) (f : List Byte) (s : State) : SameBeyondPoints s (s.offerPass o f) := by
  rw [State.offerPass]
  split
  · exact ⟨rfl, rfl, rfl, rfl, rfl, rfl, rfl, rfl⟩
  · split <;> exact ⟨rfl, rfl, rfl, rfl, rfl, rfl, rfl, rfl⟩

theorem enabledTarget_congr {s t : State} (h : t.slots = s.slots) (w : StreamWindow) (tag : BitVec 32) :
    enabledTarget t w tag = enabledTarget s w tag := by
  have hslot : t.slot = s.slot := by funext k; rw [State.slot, State.slot, h]
  rw [enabledTarget, enabledTarget, hslot]

theorem enabledTarget_eq_some_iff (s : State) (w : StreamWindow) (tag : BitVec 32) (k : Fin 32) :
    enabledTarget s w tag = some k ↔ k.val = w.slotBase.val + (tag &&& ~~~w.mask).toNat ∧ (s.slot k).st ≠ .disabled := by
  rw [enabledTarget, targetSlot, toIndex]
  by_cases h : w.slotBase.val + (tag &&& ~~~w.mask).toNat < 32
  · rw [dif_pos h]
    dsimp only
    constructor
    · intro hk
      split at hk
      · cases hk
      · rename_i hst
        rw [Option.some.injEq] at hk
        subst hk
        exact ⟨rfl, hst⟩
    · rintro ⟨hk, hst⟩
      have hidx : (⟨w.slotBase.val + (tag &&& ~~~w.mask).toNat, h⟩ : Fin 32) = k := Fin.ext hk.symm
      rw [hidx, if_neg hst]
  · rw [dif_neg h]
    constructor
    · intro hk; cases hk
    · rintro ⟨hk, -⟩
      have := k.isLt
      omega

/-- The tracker takes a hit whose target is an enabled slot, and counts any other (R25, R26). -/
theorem State.toTracker_some {s : State} {w : StreamWindow} {tag : BitVec 32} {k : Fin 32} (payload : List Byte)
    (h : enabledTarget s w tag = some k) :
    s.toTracker w tag payload = s.applySlot k ((s.slot k).take (timebase s) payload) := by
  rw [State.toTracker, h]

theorem State.toTracker_none {s : State} {w : StreamWindow} {tag : BitVec 32} (payload : List Byte)
    (h : enabledTarget s w tag = none) :
    s.toTracker w tag payload = s.modClassifier fun c => { c with noSlot := c.noSlot + 1 } := by
  rw [State.toTracker, h]

/-! ## An accepted frame -/

section Accepted

variable {s : State} {p : Port} {f : List Byte}

/-- An accepted frame is counted, goes through the classifier, and then the agent tries its head (R2, R170). -/
theorem exec_accepted (hr : s.inReset = false) (hu : (s.dlv.port p).up = true) (hv : verdict s.device.node f = .accepted) :
    exec (.frameReceived p f) s = .next ((accepted p s).classify p f).agentRun := by
  rw [exec_frameReceived s p f hr hu, State.receive, hv]
  rfl

theorem exec_sample (hr : s.inReset = false) (hu : (s.dlv.port p).up = true) (hv : verdict s.device.node f = .accepted)
    (hk : frameKind f = 0x01) :
    exec (.frameReceived p f) s = .next ((accepted p s).classifySample (otherPort p) f).agentRun := by
  rw [exec_accepted hr hu hv, State.classify, if_pos hk]

theorem exec_request (hr : s.inReset = false) (hu : (s.dlv.port p).up = true) (hv : verdict s.device.node f = .accepted)
    (hk : frameKind f = 0x02) :
    exec (.frameReceived p f) s = .next ((accepted p s).classifyRequest p f).agentRun := by
  rw [exec_accepted hr hu hv, State.classify, if_neg (by rw [hk]; decide), if_pos hk]

/-! ## SAMPLE frames (R24 to R26) -/

theorem State.classifySample_noTag (o : Port) (h : (framePayload f).length < 4) :
    s.classifySample o f = (s.modClassifier fun c => { c with noTag := c.noTag + 1 }).offerPass o f := by
  rw [State.classifySample, if_pos h]

theorem State.classifySample_noHit (o : Port) (h : 4 ≤ (framePayload f).length)
    (hs : searchWindows s.classifier (sampleTag (framePayload f)) = none) : s.classifySample o f = s.offerPass o f := by
  rw [State.classifySample, if_neg (by omega), hs]

theorem State.classifySample_hit (o : Port) {i : Fin 16} (h : 4 ≤ (framePayload f).length)
    (hs : searchWindows s.classifier (sampleTag (framePayload f)) = some i) : s.classifySample o f = s.windowHit o f i := by
  rw [State.classifySample, if_neg (by omega), hs]

theorem State.windowHit_pass (o : Port) {i : Fin 16} (hk : s.classifier.windows[i].kind = .pass) :
    s.windowHit o f i = (hitCounted i s).offerPass o f := by
  simp only [State.windowHit, hk]
  rfl

theorem State.windowHit_sink (o : Port) {i : Fin 16} (hk : s.classifier.windows[i].kind = .sink) :
    s.windowHit o f i =
      (hitCounted i s).toTracker s.classifier.windows[i] (sampleTag (framePayload f)) (framePayload f) := by
  simp only [State.windowHit, hk]
  rfl

theorem State.windowHit_tap (o : Port) {i : Fin 16} (hk : s.classifier.windows[i].kind = .tap) :
    s.windowHit o f i =
      ((hitCounted i s).offerPass o f).toTracker s.classifier.windows[i] (sampleTag (framePayload f)) (framePayload f) := by
  simp only [State.windowHit, hk]
  rfl

/-- A SAMPLE frame that finds the agent empty ends where the classifier leaves it. -/
theorem exec_sample_goesTo (hr : s.inReset = false) (hu : (s.dlv.port p).up = true) (hq : s.agent.queue = [])
    (hv : verdict s.device.node f = .accepted) (hk : frameKind f = 0x01) {t : State}
    (ht : (accepted p s).classifySample (otherPort p) f = t) (ha : t.agent = s.agent) :
    exec (.frameReceived p f) s = .next t := by
  rw [exec_sample hr hu hv hk, ht, State.agentRun_nil t (by rw [ha]; exact hq)]

theorem State.offerPass_agent (o : Port) (s : State) : (s.offerPass o f).agent = s.agent := by
  obtain ⟨-, -, -, -, -, -, -, hagent⟩ := State.offerPass_same o f s
  exact hagent

theorem State.applySlot_agent (k : Fin 32) (x : SlotStep) (s : State) : (s.applySlot k x).agent = s.agent := by
  obtain ⟨-, -, -, -, -, -, -, hagent⟩ := State.applySlot_same k x s
  exact hagent

section Hit

variable {i : Fin 16} (o : Port) (hlen : 4 ≤ (framePayload f).length)
  (hs : searchWindows s.classifier (sampleTag (framePayload f)) = some i)

include hlen hs

theorem sample_pass (hk : s.classifier.windows[i].kind = .pass) :
    s.classifySample o f = (hitCounted i s).offerPass o f :=
  (State.classifySample_hit o hlen hs).trans (State.windowHit_pass o hk)

/-- A SINK hit without a slot is counted and goes nowhere (R25). -/
theorem sample_sink_missed (hk : s.classifier.windows[i].kind = .sink)
    (ht : enabledTarget s s.classifier.windows[i] (sampleTag (framePayload f)) = none) :
    s.classifySample o f = (hitCounted i s).modClassifier fun c => { c with noSlot := c.noSlot + 1 } := by
  rw [State.classifySample_hit o hlen hs, State.windowHit_sink o hk]
  exact State.toTracker_none (s := hitCounted i s) _ ht

/-- A TAP hit without a slot is offered onward and counted (R25). -/
theorem sample_tap_missed (hk : s.classifier.windows[i].kind = .tap)
    (ht : enabledTarget s s.classifier.windows[i] (sampleTag (framePayload f)) = none) :
    s.classifySample o f = ((hitCounted i s).offerPass o f).modClassifier fun c => { c with noSlot := c.noSlot + 1 } := by
  obtain ⟨-, -, -, -, -, -, hslots, -⟩ := State.offerPass_same o f (hitCounted i s)
  rw [State.classifySample_hit o hlen hs, State.windowHit_tap o hk]
  refine State.toTracker_none _ ?_
  rw [enabledTarget_congr hslots]
  exact ht

/-- Where the SAMPLE frame of an enabled target goes, for each kind of window (R25). -/
theorem sample_target {k : Fin 32} (ht : enabledTarget s s.classifier.windows[i] (sampleTag (framePayload f)) = some k) :
    (s.classifier.windows[i].kind = .sink →
      s.classifySample o f = (hitCounted i s).applySlot k ((s.slot k).take (timebase s) (framePayload f))) ∧
    (s.classifier.windows[i].kind = .tap →
      s.classifySample o f =
        ((hitCounted i s).offerPass o f).applySlot k ((s.slot k).take (timebase s) (framePayload f))) := by
  rw [State.classifySample_hit o hlen hs]
  refine ⟨fun hk => ?_, fun hk => ?_⟩
  · rw [State.windowHit_sink o hk]
    exact State.toTracker_some (s := hitCounted i s) _ ht
  · obtain ⟨-, -, hclock, -, -, -, hslots, -⟩ := State.offerPass_same o f (hitCounted i s)
    have htarget := (enabledTarget_congr hslots s.classifier.windows[i] (sampleTag (framePayload f))).trans ht
    have hslot : ((hitCounted i s).offerPass o f).slot k = s.slot k := by rw [State.slot, hslots]; rfl
    have htime : timebase ((hitCounted i s).offerPass o f) = timebase s := by rw [timebase, hclock]; rfl
    rw [State.windowHit_tap o hk, State.toTracker_some _ htarget, hslot, htime]

end Hit

end Accepted

/-- STREAM_LOST tells every LOST slot (R39). -/
theorem streamLostReport_tells (v : Vector Slot 32) :
    (streamLostReport v).active = decide (mapOf (fun j : Fin 32 => decide (v[j].st = .lost)) ≠ 0) ∧
      (streamLostReport v).detail = BitVec.ofNat 32 (mapOf fun j : Fin 32 => decide (v[j].st = .lost)) := by
  rw [streamLostReport]
  generalize (mapOf fun j : Fin 32 => decide (v[j].st = .lost)) = m
  exact ⟨rfl, rfl⟩

/-- A slot's event, the points it reaches and the two alerts of the slots (R38, R39, R51). -/
theorem applySlot_spec (s : State) (k : Fin 32) (x : SlotStep) :
    (let t := s.applySlot k x
     t.slots = s.slots.set k x.slot ∧ t = { s with slots := t.slots, points := t.points, finisher := t.finisher, dlv := t.dlv } ∧
     (x.left = false → x.lostChanged = false → x.entered = false → x.reacquired = false → x.delivered = [] →
       t = { s with slots := t.slots }) ∧
     (let ctx : PointCtx := { hsets := s.finisher.hsets, slots := t.slots }
      let afterLeft := fun p : Point => if x.left then (p.slotLeft ctx k).1 else p
      let afterEntered := fun p : Point => if x.entered then (p.slotEntered ctx k).1 else p
      (∀ i : Fin 24, t.point i =
        x.delivered.foldl (fun p r => (p.offerSet ctx k r).1) (afterEntered (afterLeft (s.point i)))) ∧
      (∃ u : State, (∀ i : Fin 24, u.point i = afterEntered (afterLeft (s.point i))) ∧
        (u.dlv.alert 1).occurrences = (s.dlv.alert 1).occurrences ∧
        u = { s with slots := t.slots, points := u.points, finisher := u.finisher, dlv := u.dlv } ∧
        t = x.delivered.foldl (fun v r => v.onPoints fun c => Point.offerSet c k r)
          (if x.reacquired then u.raise 1 k.val else u)) ∧
      (t.dlv.alert 1).occurrences = (s.dlv.alert 1).occurrences + (if x.reacquired then 1 else 0) ∧
      (let m := mapOf fun j : Fin 32 => decide ((t.slot j).st = .lost)
       x.lostChanged = true → (t.dlv.alert 0).active = decide (m ≠ 0) ∧ (t.dlv.alert 0).detail = BitVec.ofNat 32 m) ∧
      (x.lostChanged = false → (t.dlv.alert 0).active = (s.dlv.alert 0).active ∧
        (t.dlv.alert 0).detail = (s.dlv.alert 0).detail))) := by
  have hslots := State.applySlot_slots k x s
  obtain ⟨hone, hlost, hquiet⟩ := State.applySlot_alerts k x s
  have hctx : ({ hsets := s.finisher.hsets, slots := (s.applySlot k x).slots } : PointCtx) = (s.setSlot k x.slot).ctx := by
    rw [hslots]; rfl
  have hsame := (State.applySlot_same k x s).eq
  refine ⟨hslots, ?_, fun hl hc he hr hd => ?_, fun i => ?_, ⟨(s.setSlot k x.slot).lockReports k x, fun i => ?_, ?_, ?_, ?_⟩,
    hone, fun hl => ?_, hquiet⟩
  · rw [hslots]; exact hsame
  · rw [hslots, State.applySlot_eq, hd, hr, State.lockReports, State.slotReports]
    simp only [hl, hc, he, Bool.false_eq_true, if_false, List.foldl_nil]
    rfl
  · rw [hctx]; exact State.applySlot_point k x s i
  · rw [hctx]; exact (State.slotReports_points k { x with reacquired := false } (s.setSlot k x.slot)).2 i
  · obtain ⟨-, -, -, hocc⟩ := State.lockReports_reacquired k x (s.setSlot k x.slot)
    exact hocc
  · rw [hslots]; exact (State.slotReports_same k _ (s.setSlot k x.slot)).eq
  · exact State.applySlot_eq k x s
  · obtain ⟨hact, hdet⟩ := hlost hl
    have hmap : (mapOf fun j : Fin 32 => decide (((s.applySlot k x).slot j).st = .lost)) =
        mapOf fun j : Fin 32 => decide ((s.slots.set k x.slot)[j].st = .lost) := by
      simp only [State.slot, hslots]
    rw [hact, hdet, hmap]
    exact streamLostReport_tells _

/-! ## REQUEST frames (R22, R169 to R171) -/

section Requests

variable {s : State} {p : Port} {f : List Byte}

/-- Nothing is left to take once an arriving request has been treated, so the attempt after the frame changes nothing. -/
theorem State.requestArrives_agentRun (r : Request) (s : State) (hw : AgentWaits s) :
    (s.requestArrives r).agentRun = s.requestArrives r := by
  rw [State.requestArrives]
  split
  · dsimp only
    cases hq : s.agent.queue with
    | nil =>
      simp only [List.isEmpty_nil, if_true, List.nil_append]
      set u : State := { s with agent := { s.agent with queue := [r], received := s.agent.received + 1 } } with hu
      cases hc : canTake u r with
      | true =>
        rw [State.agentRun_takes u r [] rfl hc]
        have hempty : (State.serveRequest r (u.setRequests [])).agent.queue = [] := by rw [State.serveRequest_queue]; rfl
        rw [State.agentRun_nil _ hempty, State.agentRun_nil _ hempty]
      | false =>
        have hwait : AgentWaits u := fun x hx => by
          rw [hu, List.head?_cons, Option.mem_some_iff] at hx
          rw [← hx]; exact hc
        rw [State.agentRun_waits u hwait, State.agentRun_waits u hwait]
    | cons a l =>
      simp only [List.isEmpty_cons, Bool.false_eq_true, if_false]
      refine State.agentRun_waits _ fun x hx => ?_
      refine hw x ?_
      rw [hq]
      exact hx
  · exact State.agentRun_waits _ hw

/-- A REQUEST for the part's own node is the row its payload spells (R22, R169). -/
theorem exec_request_own (hr : s.inReset = false) (hu : (s.dlv.port p).up = true)
    (hv : verdict s.device.node f = .accepted) (hk : frameKind f = 0x02) (hd : frameDest f = s.device.node)
    (hw : AgentWaits s) :
    exec (.frameReceived p f) s = .next ((accepted p s).requestArrives (requestOf p f)) := by
  rw [exec_request hr hu hv hk, State.classifyRequest, if_pos (show frameDest f = (accepted p s).device.node from hd),
    State.requestArrives_agentRun _ (accepted p s) (received_agentWaits s p _ hw)]

/-- A broadcast REQUEST is offered onward first, and then treated as one of the part's own (R22). -/
theorem exec_request_broadcast (hr : s.inReset = false) (hu : (s.dlv.port p).up = true)
    (hv : verdict s.device.node f = .accepted) (hk : frameKind f = 0x02) (hd : frameDest f = Config.broadcast)
    (hn : s.device.node ≠ Config.broadcast) :
    exec (.frameReceived p f) s =
      .next (((accepted p s).offerPass (otherPort p) f).requestArrives (requestOf p f)).agentRun := by
  have hother : ¬ frameDest f = (accepted p s).device.node := fun e => hn (by rw [← hd]; exact e.symm)
  rw [exec_request hr hu hv hk, State.classifyRequest, if_neg hother, if_pos hd]

theorem exec_request_other (hr : s.inReset = false) (hu : (s.dlv.port p).up = true)
    (hv : verdict s.device.node f = .accepted) (hk : frameKind f = 0x02) (hd : frameDest f ≠ s.device.node)
    (hb : frameDest f ≠ Config.broadcast) :
    exec (.frameReceived p f) s = .next ((accepted p s).offerPass (otherPort p) f).agentRun := by
  rw [exec_request hr hu hv hk, State.classifyRequest, if_neg (show ¬ frameDest f = (accepted p s).device.node from hd),
    if_neg hb]

/-- An offer onward lengthens no REPLY queue and moves no link. -/
theorem State.offerPass_room (o q : Port) (s : State) :
    ((s.offerPass o f).dlv.port q).up = (s.dlv.port q).up ∧
      ((s.offerPass o f).dlv.port q).replyQ.length ≤ (s.dlv.port q).replyQ.length := by
  have hmod (g : PortState → PortState) (hup : ∀ x, (g x).up = x.up) (hreply : ∀ x, (g x).replyQ = x.replyQ) :
      ((s.dlv.modPort o g).port q).up = (s.dlv.port q).up ∧
        ((s.dlv.modPort o g).port q).replyQ.length ≤ (s.dlv.port q).replyQ.length := by
    by_cases e : q = o
    · subst e; simp [hup, hreply]
    · rw [Delivery.modPort_port_other _ _ _ _ e]; exact ⟨rfl, le_rfl⟩
  rw [State.offerPass]
  split
  · exact hmod _ (fun _ => rfl) fun _ => rfl
  · split
    · obtain ⟨hup, hlen⟩ := hmod (fun x => { x with pass := x.pass ++ [f] }) (fun _ => rfl) fun _ => rfl
      exact ⟨(run_up _ _ _).trans hup, (run_replyQ_length_le _ _ _).trans hlen⟩
    · obtain ⟨hup, hlen⟩ := hmod (fun x => { x with ctr := { x.ctr with passOverflow := x.ctr.passOverflow + 1 } })
        (fun _ => rfl) fun _ => rfl
      exact ⟨(run_up _ _ _).trans hup, (run_replyQ_length_le _ _ _).trans hlen⟩

/-- A port that is up, and has room for a reply, takes a request of any kind. -/
theorem canTake_of_room {s : State} {r : Request} (h : (s.dlv.port r.port).up = true →
    (s.dlv.port r.port).replyQ.length < Config.replyRoom) : canTake s r = true := by
  rw [canTake_iff]
  cases hup : (s.dlv.port r.port).up with
  | false => exact .inr (.inl rfl)
  | true => exact .inr (.inr (h hup))

theorem accepted_port (p q : Port) (s : State) :
    ((accepted p s).dlv.port q).up = (s.dlv.port q).up ∧ ((accepted p s).dlv.port q).replyQ = (s.dlv.port q).replyQ := by
  by_cases e : q = p
  · subst e; simp [accepted, Delivery.received]
  · simp only [accepted, Delivery.received, Delivery.modPort_port_other _ _ _ _ e, and_self]

/-- A request row outside reset is the arrival of the request it makes. -/
theorem exec_requestRow_arrives {c : Instr} {t : State} {h : ReqHeader} {k : ReqKind} {space : Byte} {index count : BitVec 16}
    {data : List Byte} (hrow : rowFields c = some (h, k, space, index, count, data)) (hr : t.inReset = false) :
    exec c t = .next (t.requestArrives (madeRequest t h k space index count data)) := by
  rw [exec_requestRow c t h k space index count data hrow, State.request, State.event_out_of_reset t _ hr]

/-- A broadcast REQUEST that is taken at once is the row its payload spells, behind the offer onward. -/
theorem exec_broadcast_row (hr : s.inReset = false) (hu : (s.dlv.port p).up = true)
    (hv : verdict s.device.node f = .accepted) (hk : frameKind f = 0x02) (hd : frameDest f = Config.broadcast)
    (hn : s.device.node ≠ Config.broadcast) {c : Instr} {h : ReqHeader} {k : ReqKind} {space : Byte} {index count : BitVec 16}
    {data : List Byte} (hrow : rowFields c = some (h, k, space, index, count, data)) (hport : h.port = p)
    (hsource : h.source = frameSource f) (hy : framePayload f = requestPayload h.tag (kindCode k) space index count data)
    (h0 : TakenAtOnce s h) :
    exec (.frameReceived p f) s = exec c (State.offerPass (otherPort p) f (accepted p s)) := by
  obtain ⟨-, hq, hroom⟩ := h0
  set t := State.offerPass (otherPort p) f (accepted p s) with ht
  have hsame := State.offerPass_same (otherPort p) f (accepted p s)
  rw [← ht] at hsame
  obtain ⟨hreset, -, -, -, -, -, -, hagent⟩ := hsame
  have hqueue : t.agent.queue = [] := by rw [hagent]; exact hq
  have htake : ∀ r : Request, r.port = p → canTake t r = true := by
    intro r hp
    refine canTake_of_room fun hup => ?_
    obtain ⟨h1, h2⟩ := State.offerPass_room (f := f) (otherPort p) r.port (accepted p s)
    rw [← ht] at h1 h2
    rw [(accepted_port p r.port s).1] at h1
    rw [(accepted_port p r.port s).2] at h2
    rw [hp, ← hport] at h1 h2 hup ⊢
    exact lt_of_le_of_lt h2 (hroom (by rw [← h1]; exact hup))
  rw [exec_request_broadcast hr hu hv hk hd hn, exec_requestRow_arrives hrow (by rw [hreset]; exact hr),
    State.requestArrives_served t _ hqueue (htake _ rfl), State.requestArrives_served t _ hqueue (htake _ hport),
    State.agentRun_nil _ (by rw [State.serveRequest_queue]; exact hqueue)]
  exact congrArg _ (serveRequest_congr _ _ _ hport.symm hsource.symm hy)

theorem exec_own_row (hr : s.inReset = false) (hu : (s.dlv.port p).up = true)
    (hv : verdict s.device.node f = .accepted) (hk : frameKind f = 0x02) (hd : frameDest f = s.device.node)
    (hf : frameFlags f = 0) (hw : AgentWaits s) {c : Instr} {h : ReqHeader} {k : ReqKind} {space : Byte}
    {index count : BitVec 16} {data : List Byte} (hrow : rowFields c = some (h, k, space, index, count, data))
    (hport : h.port = p) (hsource : h.source = frameSource f)
    (hy : framePayload f = requestPayload h.tag (kindCode k) space index count data) :
    exec (.frameReceived p f) s = exec c (accepted p s) := by
  have hmade : requestOf p f = madeRequest (accepted p s) h k space index count data := by
    rw [requestOf, madeRequest, ← hport, hsource, hd, hf, hy]; rfl
  rw [exec_request_own hr hu hv hk hd hw, exec_requestRow_arrives hrow (t := accepted p s) hr, hmade]

/-! ## Requests the part refuses as they are (R171, R177) -/

theorem serve_short {r : Request} (h : r.payload.length < 8) (s : State) : serve r s = refuse .short s := by
  rw [serve]; exact if_pos h

theorem serve_badKind {r : Request} (h : 8 ≤ r.payload.length) (hk : kindOf (reqKind r.payload) = none) (s : State) :
    serve r s = refuse .badKind s := by
  rw [serve]
  simp only [hk]
  exact if_neg (by omega)

/-- A refused request is answered, or, when posted, counted and raised as MGMT_ERROR. -/
theorem State.serveRequest_refused {r : Request} {st : Status} (s : State) (hst : st ≠ .ok) (h : serve r s = refuse st s) :
    (reqKind r.payload ≠ 0x03 → s.serveRequest r =
      s.placeReply r.port { dest := r.source, source := s.device.node, tag := reqTag r.payload, status := st
                            kind := BitVec.ofNat 8 (reqKind r.payload), count := 0, data := [] }) ∧
    (reqKind r.payload = 0x03 → s.serveRequest r =
      State.raise { s with agent := { s.agent with postedRefused := s.agent.postedRefused + 1 } } 16
        ((reqTag r.payload).toNat * 65536 + statusCode st)) := by
  have hcode : kindCode .writePosted = 0x03 := by decide
  rw [State.serveRequest, h]
  refine ⟨fun hn => ?_, fun he => ?_⟩
  · have hp : r.posted = false := by simpa [Request.posted, hcode] using hn
    simp only [hp, Bool.false_eq_true, if_false]
    rfl
  · have hp : r.posted = true := by simp [Request.posted, hcode, he]
    simp only [hp, if_true, State.endPosted]
    exact if_neg hst

end Requests

/-- Settles O11: the classifier's ways for a SAMPLE frame, the slot's event as the points and the alerts see it, and the
agent's ways for a REQUEST frame. -/
theorem consumedFramesAreNotForwarded : Obligations.ConsumedFramesAreNotForwarded := by
  refine ⟨?_, ?_, enabledTarget_eq_some_iff, ?_, applySlot_spec, ?_, ?_, ?_, fun off w y h => ?_⟩
  · intro s p f i hr hu hw hv hk hlen hsearch hsink htarget
    have hway := sample_sink_missed (s := accepted p s) (otherPort p) hlen hsearch hsink htarget
    rw [exec_sample hr hu hv hk, hway]
    exact congrArg _ (State.agentRun_waits _ (received_agentWaits s p _ hw))
  · intro s p f hr hu hw hv hk hd hfull
    rw [exec_request_own hr hu hv hk hd hw, State.requestArrives]
    refine congrArg _ (if_neg ?_)
    have : (accepted p s).agent.queue.length = s.agent.queue.length := rfl
    have : Config.requestRoom = 8 := rfl
    omega
  · intro s p f hr hu hq hv hk
    have goesTo {t : State} := exec_sample_goesTo (t := t) hr hu hq hv hk
    refine ⟨fun hlen => ?_, fun hlen hs => ?_, fun i hlen hs =>
      ⟨fun hpass => ?_, fun k htarget => ⟨fun hsink => ?_, fun htap => ?_⟩, fun htarget htap => ?_⟩⟩
    · exact goesTo (State.classifySample_noTag (s := accepted p s) _ hlen) (State.offerPass_agent _ _)
    · exact goesTo (State.classifySample_noHit (s := accepted p s) _ hlen hs) (State.offerPass_agent _ _)
    · exact goesTo (sample_pass (s := accepted p s) _ hlen hs hpass) (State.offerPass_agent _ _)
    · exact goesTo ((sample_target (s := accepted p s) _ hlen hs htarget).1 hsink) (State.applySlot_agent _ _ _)
    · exact goesTo ((sample_target (s := accepted p s) _ hlen hs htarget).2 htap)
        ((State.applySlot_agent _ _ _).trans (State.offerPass_agent _ _))
    · exact goesTo (sample_tap_missed (s := accepted p s) _ hlen hs htap htarget) (State.offerPass_agent (otherPort p) _)
  · intro s p f hr hu hv hk hd hb
    have hexec := exec_request_other hr hu hv hk hd hb
    refine ⟨hexec, fun hq => ?_⟩
    rw [hexec, State.agentRun_nil _ (by rw [State.offerPass_agent]; exact hq)]
  · exact fun s o f => ⟨State.offerPass_down o f s, State.offerPass_busy o f s⟩
  · intro s p f hr hu hv hk
    refine ⟨fun c h k space index count data hrow hport hsource hy => ⟨fun hd hf hw => ?_, fun hd hn h0 => ?_⟩,
      fun st hd hq hroom hbad => ?_⟩
    · exact exec_own_row hr hu hv hk hd hf hw hrow hport hsource hy
    · exact exec_broadcast_row hr hu hv hk hd hn hrow hport hsource hy h0
    · have hexec := exec_request_own hr hu hv hk hd fun r hr => by rw [hq] at hr; cases hr
      have htake : canTake (accepted p s) (requestOf p f) = true :=
        canTake_of_room fun _ => by rw [(accepted_port p _ s).2]; exact hroom
      rw [State.requestArrives_served (accepted p s) _ hq htake] at hexec
      have hserve : st ≠ .ok ∧ serve (requestOf p f) (joined (accepted p s)) = refuse st (joined (accepted p s)) := by
        rcases hbad with ⟨hlen, rfl⟩ | ⟨hlen, hkind, rfl⟩
        · exact ⟨by decide, serve_short hlen _⟩
        · exact ⟨by decide, serve_badKind hlen hkind _⟩
      obtain ⟨hanswered, hposted⟩ := State.serveRequest_refused _ hserve.1 hserve.2
      exact ⟨fun hn => hexec.trans (congrArg _ (hanswered hn)), fun he => hexec.trans (congrArg _ (hposted he))⟩
  · rw [reqField, if_neg (by omega)]

end Sys2Proof.Machine
end


section
/-! SUPPORT. LOSS_TIMEOUT, and what the loss and the return of a source leave of a point (R36, R38, R59, R65, R66, R74 to
R76). -/

namespace Sys2Proof.Machine

/-! ## The LOST slots -/

/-- A map with a bit set is not 0. -/
theorem mapOf_ne_zero {n : Nat} {f : Fin n → Bool} {k : Fin n} (h : f k = true) : mapOf f ≠ 0 := by
  have hle : 2 ^ k.val ≤ mapOf f := by
    refine List.single_le_sum (fun _ _ => Nat.zero_le _) _ (List.mem_map.mpr ⟨k, List.mem_finRange k, ?_⟩)
    rw [bitAt, if_pos h]
  have := Nat.two_pow_pos k.val
  omega

/-- A slot's event without a lock report and a set leaves the points and the Finisher as they are. -/
theorem State.applySlot_unreported (k : Fin 32) (x : SlotStep) (s : State) (hl : x.left = false) (he : x.entered = false)
    (hd : x.delivered = []) : (s.applySlot k x).points = s.points ∧ (s.applySlot k x).finisher = s.finisher := by
  have run (c : Bool) (t : State) (ts : List Task) :
      (if c then t.run ts else t).points = t.points ∧ (if c then t.run ts else t).finisher = t.finisher := by
    cases c <;> exact ⟨rfl, rfl⟩
  rw [State.applySlot, State.slotReports]
  simp only [hl, he, hd, Bool.false_eq_true, if_false, List.foldl_nil]
  obtain ⟨h1, h2⟩ := run x.reacquired (if x.lostChanged then (s.setSlot k x.slot).run
    [.levels [streamLostReport (s.setSlot k x.slot).slots]] else s.setSlot k x.slot) [.edge 1 (BitVec.ofNat 32 k.val)]
  obtain ⟨h3, h4⟩ := run x.lostChanged (s.setSlot k x.slot) [.levels [streamLostReport (s.setSlot k x.slot).slots]]
  exact ⟨h1.trans h3, h2.trans h4⟩

/-- LOSS_TIMEOUT at the deadline is the slot's loss, and before it nothing (R36). -/
theorem exec_lossTimeout (s : State) (k : Fin 32) (hr : s.inReset = false) :
    ((s.slot k).lossDue (timebase s) = false → exec (.lossTimeout k) s = .next s) ∧
      ((s.slot k).lossDue (timebase s) = true → exec (.lossTimeout k) s = .next (s.applySlot k (s.slot k).lose)) := by
  rw [exec, execLossTimeout, State.event_out_of_reset s _ hr]
  exact ⟨fun h => by rw [h]; rfl, fun h => by rw [h]; rfl⟩

theorem applySlot_lose (s : State) (k : Fin 32) :
    (let t := s.applySlot k (s.slot k).lose
     (t.dlv.alert 0).active = true ∧
      (t.dlv.alert 0).detail = BitVec.ofNat 32 (mapOf fun j : Fin 32 => decide ((t.slot j).st = .lost))) := by
  obtain ⟨-, hlost, -⟩ := State.applySlot_alerts k (s.slot k).lose s
  obtain ⟨hact, hdet⟩ := hlost rfl
  obtain ⟨hact', hdet'⟩ := streamLostReport_tells (s.slots.set k (s.slot k).lose.slot)
  have hslot (j : Fin 32) : (s.applySlot k (s.slot k).lose).slot j = (s.slots.set k (s.slot k).lose.slot)[j] := by
    rw [State.slot, State.applySlot_slots]
  have hself : decide ((s.slots.set k (s.slot k).lose.slot)[k].st = .lost) = true := by simp [Slot.lose]
  refine ⟨?_, ?_⟩
  · rw [hact, hact', decide_eq_true_eq]
    exact mapOf_ne_zero hself
  · rw [hdet, hdet']
    simp only [hslot]

/-! ## A source lost (R59, R74, R76) -/

/-- The point in WAITING, its window given up and its ACTIVE bank FREE (R74). -/
def Point.withoutWindow (p : Point) : Point := { p.dropWindow with framer := { p.dropWindow.framer with st := .waiting } }

theorem Point.withoutWindow_banks (p : Point) (ix : BankIx) (b : BankSums) :
    p.withoutWindow.framer.bank ix ≠ .active b ∧
      (p.framer.bank ix = .out b → p.withoutWindow.framer.bank ix = .out b) := by
  have hbank : p.withoutWindow.framer.bank ix = (p.framer.bank ix).released := by cases ix <;> rfl
  rw [hbank]
  cases p.framer.bank ix <;> simp [Bank.released]

/-- With no configuration pending and a source not LOCKED, the framer that leaves COLLECTING waits (R74). -/
theorem Point.toWaiting_alone (ctx : PointCtx) {p : Point} (hw : p.waitingCfg = none) (hb : p.bothLocked = false) :
    p.toWaiting ctx = (p.withoutWindow, []) := by
  have happly : p.withoutWindow.applyPending ctx = (p.withoutWindow, []) := by
    rw [Point.applyPending, show p.withoutWindow.waitingCfg = none from hw]
  have henter : p.withoutWindow.enterIfLocked ctx = p.withoutWindow := by
    rw [Point.enterIfLocked, if_neg]
    rw [Bool.and_eq_true, not_and]
    exact fun _ h => by rw [show p.withoutWindow.bothLocked = p.bothLocked from rfl, hb] at h; cases h
  change (((p.withoutWindow.applyPending ctx).1.enterIfLocked ctx, (p.withoutWindow.applyPending ctx).2) : PointStep) = _
  rw [happly, henter]

theorem follows_of_names {k : Fin 32} {p : Point} (hen : p.cfg.enabled = true) (h : p.cfg.vSlot = k ∨ p.cfg.iSlot = k) :
    p.follows k = true := by
  simpa [Point.follows, hen] using h

theorem follows_eq_true_iff (k : Fin 32) (p : Point) :
    p.follows k = true ↔ p.cfg.enabled = true ∧ (p.cfg.vSlot = k ∨ p.cfg.iSlot = k) := by
  simp [Point.follows]

section SourceLost

variable (ctx : PointCtx) {k : Fin 32} {p : Point}

theorem Point.sourceOff_bothLocked (h : p.cfg.vSlot = k ∨ p.cfg.iSlot = k) : (p.sourceOff k).bothLocked = false := by
  rcases h with h | h <;> simp [Point.sourceOff, Point.emptyQueues, Point.bothLocked, h]

/-- The four ways of a point whose source leaves LOCKED, with no configuration pending (R59, R74, R76). -/
theorem Point.slotLeft_ways (hen : p.cfg.enabled = true) (hk : p.cfg.vSlot = k ∨ p.cfg.iSlot = k)
    (hp : p.waitingCfg = none) :
    (p.framer.st ≠ .collecting → p.slotLeft ctx k = (p.sourceOff k, [])) ∧
    (p.framer.st = .collecting → p.framer.window = none → p.slotLeft ctx k = ((p.sourceOff k).withoutWindow, [])) ∧
    ∀ w, p.framer.st = .collecting → p.framer.window = some w →
      (w.start = none → p.slotLeft ctx k =
        (({ p.sourceOff k with changeMark := p.changeMark || w.flags.firstAfterChange } : Point).withoutWindow, [])) ∧
      (∀ first, w.start = some first → w.cfg.policy = .restart → p.slotLeft ctx k =
        (((p.sourceOff k).discard .source (w.expected.getD 0 - first) w).1.withoutWindow, [.discarded .source])) ∧
      (∀ first, w.start = some first → w.cfg.policy ≠ .restart → p.slotLeft ctx k =
        ({ p.sourceOff k with framer := { p.framer with st := .held } }, [])) := by
  have hoff := Point.sourceOff_bothLocked hk
  rw [Point.slotLeft_eq, if_neg (by simp [follows_of_names hen hk])]
  have hsource : (p.sourceOff k).framer = p.framer := rfl
  refine ⟨fun hst => if_neg hst, fun hst hw => ?_, fun w hst hw =>
    ⟨fun hs => ?_, fun first hs hpol => ?_, fun first hs hpol => ?_⟩⟩
  · rw [if_pos hst, Point.sourceLost, hsource, hw]
    exact Point.toWaiting_alone ctx hp hoff
  · rw [if_pos hst, Point.sourceLost, hsource, hw]
    simp only [hs, Option.isNone_none, if_true]
    exact Point.toWaiting_alone ctx (p := { p.sourceOff k with changeMark := p.changeMark || w.flags.firstAfterChange }) hp hoff
  · rw [if_pos hst, Point.sourceLost, hsource, hw]
    simp only [hs, Option.isNone_some, Bool.false_eq_true, if_false, hpol, if_true, Window.elapsed, Option.getD_some]
    rw [PointStep.andThen, Point.toWaiting_alone ctx (p := ((p.sourceOff k).discard .source (w.expected.getD 0 - first) w).1) hp hoff]
    rfl
  · rw [if_pos hst, Point.sourceLost, hsource, hw]
    simp only [hs, Option.isNone_some, Bool.false_eq_true, if_false, hpol]

/-- A discard counts its reason and its samples, and the open interval counts it (R76, R82, R118). -/
theorem Point.discard_discarded (r : DiscardReason) (elapsed : Nat) (w : Window) (p : Point) :
    Discarded r elapsed p (p.discard r elapsed w).1 := by
  refine ⟨?_, rfl, rfl⟩
  cases r <;> simp [Point.discard, FramerCounters.discard]

/-- Whatever becomes of the window, the source state goes and both queues are emptied (R59). -/
theorem Point.slotLeft_pairing (hen : p.cfg.enabled = true) (hk : p.cfg.vSlot = k ∨ p.cfg.iSlot = k)
    (hp : p.waitingCfg = none) :
    (let q := (p.slotLeft ctx k).1
     q.cfg = p.cfg ∧ q.vLocked = (p.vLocked && decide (p.cfg.vSlot ≠ k)) ∧
       q.iLocked = (p.iLocked && decide (p.cfg.iSlot ≠ k)) ∧ q.vQueue = [] ∧ q.iQueue = [] ∧
       q.pair = { p.pair with unpaired := p.pair.unpaired + BitVec.ofNat 32 (p.vQueue.length + p.iQueue.length) }) := by
  obtain ⟨hidle, hnone, hsome⟩ := Point.slotLeft_ways ctx hen hk hp
  by_cases hst : p.framer.st = .collecting
  · cases hw : p.framer.window with
    | none => rw [hnone hst hw]; exact ⟨rfl, rfl, rfl, rfl, rfl, rfl⟩
    | some w =>
      obtain ⟨hunstarted, hrestart, hheld⟩ := hsome w hst hw
      cases hs : w.start with
      | none => rw [hunstarted hs]; exact ⟨rfl, rfl, rfl, rfl, rfl, rfl⟩
      | some first =>
        by_cases hpol : w.cfg.policy = .restart
        · rw [hrestart first hs hpol]; exact ⟨rfl, rfl, rfl, rfl, rfl, rfl⟩
        · rw [hheld first hs hpol]; exact ⟨rfl, rfl, rfl, rfl, rfl, rfl⟩
  · rw [hidle hst]; exact ⟨rfl, rfl, rfl, rfl, rfl, rfl⟩

end SourceLost

/-! ## A source LOCKED again (R65, R66, R75) -/

section SourceReturned

variable (ctx : PointCtx) {k : Fin 32} {p : Point}

theorem Point.sourceOn_bothLocked : (p.sourceOn k).bothLocked = true ↔
    (p.vLocked || decide (p.cfg.vSlot = k)) = true ∧ (p.iLocked || decide (p.cfg.iSlot = k)) = true := by
  rw [Point.bothLocked, Bool.and_eq_true]
  rfl

/-- HELD goes back to COLLECTING with the window as it stands, once both sources are LOCKED (R75). -/
theorem Point.slotEntered_held (hf : p.follows k = true) (hst : p.framer.st = .held) :
    p.slotEntered ctx k =
      ({ p.sourceOn k with
         framer := { p.framer with st := if (p.sourceOn k).bothLocked = true then .collecting else .held } }, []) := by
  rw [Point.slotEntered_eq, if_neg (by simp [hf])]
  cases hb : (p.sourceOn k).bothLocked with
  | true =>
    rw [if_pos (by simp [hst]), if_pos rfl]
  | false =>
    have hself : ({ p.framer with st := .held } : Framer) = p.framer := by rw [← hst]
    rw [if_neg (by simp), if_neg Bool.false_ne_true, Point.enterIfLocked, if_neg (by simp [hb]), hself]
    rfl

/-- Outside HELD and short of both sources, only the source state is taken (R65). -/
theorem Point.slotEntered_sourceOn (hf : p.follows k = true) (hst : p.framer.st ≠ .held)
    (h : p.framer.st ≠ .waiting ∨ (p.sourceOn k).bothLocked = false) : p.slotEntered ctx k = (p.sourceOn k, []) := by
  rw [Point.slotEntered_eq, if_neg (by simp [hf]), if_neg (by simp [hst]), Point.enterIfLocked, if_neg]
  have hsource : (p.sourceOn k).framer.st = p.framer.st := rfl
  rw [hsource, Bool.and_eq_true, decide_eq_true_eq]
  rintro ⟨hwait, hboth⟩
  rcases h with h | h
  · exact h hwait
  · rw [h] at hboth; cases hboth

/-- WAITING begins a window in a FREE bank once both sources are LOCKED (R66). -/
theorem Point.slotEntered_begins (hf : p.follows k = true) (hst : p.framer.st = .waiting)
    (hb : (p.sourceOn k).bothLocked = true) :
    p.slotEntered ctx k = ((p.sourceOn k).beginWindow ctx p.framer.freeIx, []) := by
  rw [Point.slotEntered_eq, if_neg (by simp [hf]), if_neg (by simp [hst]), Point.enterIfLocked, if_pos]
  · rfl
  · have hsource : (p.sourceOn k).framer.st = p.framer.st := rfl
    rw [hsource, hst, hb]; rfl

theorem Point.beginWindow_begun (ix : BankIx) (p : Point) : WindowBegun ctx ix p.changeMark (p.beginWindow ctx ix) := by
  cases ix <;> exact ⟨rfl, rfl, rfl, newWindow p _, rfl, rfl, rfl, rfl, rfl, rfl, rfl, rfl, rfl, rfl, rfl, rfl, rfl, rfl, rfl⟩

theorem Point.beginWindow_otherBank (ix : BankIx) (p : Point) :
    (p.beginWindow ctx ix).framer.bank (otherBank ix) = p.framer.bank (otherBank ix) ∧
      (p.beginWindow ctx ix).framer.ctr = p.framer.ctr := by
  cases ix <;> exact ⟨rfl, rfl⟩

end SourceReturned

/-- Settles O17: the loss as the slot's event, and the point's ways of losing a source and of having it again. -/
theorem lossTimeoutMakesTheSlotLost : Obligations.LossTimeoutMakesTheSlotLost := by
  refine ⟨fun s k hr => ?_, fun ctx k p hen hk => ?_, fun ctx k p hen hk hst => ?_, fun ctx k p => ⟨fun hn => ?_, fun hf hst =>
    ⟨fun h => ?_, fun hwait hv hc => ?_⟩⟩⟩
  · obtain ⟨hearly, hdue⟩ := exec_lossTimeout s k hr
    refine ⟨hearly, fun h => ⟨s.applySlot k (s.slot k).lose, hdue h, State.applySlot_slots k _ s, (applySlot_lose s k).1,
      (applySlot_lose s k).2, fun hacq => ?_, fun hlock i => ?_, ?_⟩⟩
    · exact State.applySlot_unreported k _ s (by simp [Slot.lose, hacq]) rfl rfl
    · have hleft : (s.slot k).lose.left = true := by simp [Slot.lose, hlock]
      rw [State.applySlot_point, State.applySlot_slots, SlotStep.told, SlotStep.reported, if_pos hleft]
      rfl
    · obtain ⟨-, -, hclock, -, hdevice, hclassifier, -, hagent⟩ := State.applySlot_same k (s.slot k).lose s
      exact ⟨hdevice, hclassifier, hagent, hclock⟩
  · intro x q hp
    have hx : x = p.slotLeft ctx k := rfl
    have hq : q = x.1 := rfl
    obtain ⟨hidle, -, hsome⟩ := Point.slotLeft_ways ctx hen hk hp
    refine ⟨Point.slotLeft_pairing ctx hen hk hp, fun hst => ?_, fun w hst hw => ?_⟩
    · rw [hq, hx, hidle hst]
      exact ⟨rfl, rfl, rfl⟩
    · obtain ⟨hunstarted, hrestart, hheld⟩ := hsome w hst hw
      refine ⟨fun hs => ?_, fun first hs hpol => ?_, fun first hs hpol => ?_⟩
      · rw [hq, hx, hunstarted hs]
        exact ⟨⟨rfl, rfl, rfl, fun ix b => (Point.withoutWindow_banks _ ix b).1,
          fun ix b => (Point.withoutWindow_banks _ ix b).2, rfl⟩, rfl, rfl, rfl⟩
      · rw [hq, hx, hrestart first hs hpol]
        refine ⟨⟨rfl, rfl, rfl, fun ix b => (Point.withoutWindow_banks _ ix b).1,
          fun ix b => (Point.withoutWindow_banks _ ix b).2, rfl⟩, rfl, ?_⟩
        exact Point.discard_discarded .source _ w p
      · rw [hq, hx, hheld first hs hpol]
        exact ⟨rfl, rfl, rfl, rfl⟩
  · intro v c
    rw [Point.slotEntered_held ctx (follows_of_names hen hk) hst]
    simp only [Point.sourceOn_bothLocked]
    rfl
  · have hn' : p.follows k = false := by
      rw [← Bool.not_eq_true, follows_eq_true_iff]; exact hn
    exact ⟨Point.slotEntered_other ctx k p hn', Point.slotLeft_other ctx k p hn'⟩
  · refine Point.slotEntered_sourceOn ctx ((follows_eq_true_iff k p).mpr hf) hst (h.imp_right fun hboth => ?_)
    rw [← Bool.not_eq_true, Point.sourceOn_bothLocked]
    exact hboth
  · have heq := Point.slotEntered_begins ctx ((follows_eq_true_iff k p).mpr hf) hwait (Point.sourceOn_bothLocked.mpr ⟨hv, hc⟩)
    have hbegun := Point.beginWindow_begun ctx p.framer.freeIx (p.sourceOn k)
    obtain ⟨hother, hctr⟩ := Point.beginWindow_otherBank ctx p.framer.freeIx (p.sourceOn k)
    obtain ⟨-, -, htrk, hseq, -⟩ := Point.beginWindow_framer ctx p.framer.freeIx (p.sourceOn k)
    rw [heq]
    exact ⟨rfl, hbegun, hother, htrk, hseq, hctr, Point.beginWindow_frame ctx p.framer.freeIx (p.sourceOn k)⟩

end Sys2Proof.Machine
end


section
/-! SUPPORT. A run of written entries that passes its checks: every entry is valid, each place is written once, and what each
space stores (R23, R91, R92, R151, R175, R176). -/

namespace Sys2Proof.Machine

/-! ## The checks (R175) -/

section Checks

variable {s : State} {sp : Space} {first count : Nat} {data : List Byte}

/-- A run that passes writes at least one entry, and each is valid. -/
theorem checkWrite_none (h : checkWrite s sp first count data = none) :
    0 < count ∧ ∀ j < count, (decodeEntry s.device.metrologyLock sp (entryBytes sp data j)).isSome = true := by
  rw [checkWrite] at h
  split at h
  · cases h
  · rename_i hplaces
    split at h
    · cases h
    · split at h
      · cases h
      · split at h
        · cases h
        · split at h
          · cases h
          · rw [checkValues] at h
            split at h
            · cases h
            · rw [Option.map_eq_none_iff, valueFailure, Option.map_eq_none_iff, List.find?_eq_none] at h
              refine ⟨?_, fun j hj => ?_⟩
              · have hcount : ¬ count = 0 := fun e => hplaces (by rw [e]; rfl)
                omega
              · simpa [Option.isSome_iff_ne_none] using h j (List.mem_range.mpr hj)

/-- No refusal of a write is OK. -/
theorem checkWrite_refused {e : WriteRefusal} (h : checkWrite s sp first count data = some e) : e.status ≠ .ok := by
  have named (st : Status) (o : Option Nat) (hst : st ≠ .ok) (he : o.map (WriteRefusal.mk st) = some e) : e.status ≠ .ok := by
    obtain ⟨i, -, rfl⟩ := Option.map_eq_some_iff.mp he
    exact hst
  have first (st : Status) (hst : st ≠ .ok) (he : some (WriteRefusal.mk st first) = some e) : e.status ≠ .ok :=
    named st (some first) hst he
  rw [checkWrite] at h
  split at h
  · exact first _ (by decide) h
  · split at h
    · exact first _ (by decide) h
    · split at h
      · rename_i hlock
        exact named .locked _ (by decide) (hlock.trans h)
      · split at h
        · exact first _ (by decide) h
        · split at h
          · rename_i huse
            exact named .inUse _ (by decide) (huse.trans h)
          · rw [checkValues] at h
            split at h
            · exact first _ (by decide) h
            · exact named _ _ (by decide) h

end Checks

/-! ## The entries of a run (R176) -/

theorem State.writeRun_append (a b : List Entry) : ∀ (i : Nat) (s : State),
    s.writeRun i (a ++ b) = (s.writeRun i a).writeRun (i + a.length) b := by
  induction a with
  | nil => exact fun i s => rfl
  | cons e a ih =>
    intro i s
    rw [List.cons_append, State.writeRun, ih, State.writeRun, List.length_cons, Nat.add_right_comm, Nat.add_assoc]

/-- A run writes its entries in ascending index, from the first. -/
theorem State.writeRun_range (first : Nat) (c : Nat → Entry) (count : Nat) (s : State) :
    s.writeRun first ((List.range count).map c) = (List.range count).foldl (fun u j => u.writeEntry (first + j) (c j)) s := by
  induction count with
  | zero => rfl
  | succ n ih =>
    rw [List.range_succ, List.map_append, State.writeRun_append, List.foldl_append, ih, List.length_map, List.length_range]
    rfl

theorem mapM_of_some {α β : Type} {f : α → Option β} {g : α → β} (l : List α) (h : ∀ a ∈ l, f a = some (g a)) :
    l.mapM f = some (l.map g) := by
  induction l with
  | nil => rfl
  | cons a l ih =>
    obtain ⟨ha, hl⟩ := List.forall_mem_cons.mp h
    rw [List.mapM_cons, ha, ih hl]
    rfl

/-- A run that passes its checks: its entries, as their space reads them, are written one after the other. -/
theorem State.applyWrite_entries {A : Type} {sp : Space} (mk : A → Entry) (dec : List Byte → Option A)
    (hdec : ∀ lock l, decodeEntry lock sp l = (dec l).map mk) {s : State} {first count : Nat} {data : List Byte}
    (h : checkWrite s sp first count data = none) :
    ∃ c : Nat → A, (∀ j < count, dec (entryBytes sp data j) = some (c j)) ∧
      s.applyWrite sp first count data =
        ((List.range count).foldl (fun u j => u.writeEntry (first + j) (mk (c j))) s).offersAfter sp := by
  obtain ⟨hpos, hvalid⟩ := checkWrite_none h
  have hread : ∀ j < count, ∃ a, dec (entryBytes sp data j) = some a := fun j hj => by
    have hj' := hvalid j hj
    rw [hdec, Option.isSome_map] at hj'
    exact Option.isSome_iff_exists.mp hj'
  obtain ⟨a, -⟩ := hread 0 hpos
  have hc : ∀ j < count, dec (entryBytes sp data j) = some ((dec (entryBytes sp data j)).getD a) := fun j hj => by
    obtain ⟨b, hb⟩ := hread j hj
    rw [hb]; rfl
  refine ⟨fun j => (dec (entryBytes sp data j)).getD a, hc, ?_⟩
  have hrun : decodeRun s.device.metrologyLock sp count data =
      some ((List.range count).map fun j => mk ((dec (entryBytes sp data j)).getD a)) := by
    refine mapM_of_some _ fun j hj => ?_
    rw [hdec, hc j (List.mem_range.mp hj)]
    rfl
  rw [State.applyWrite, hrun]
  exact congrArg (State.offersAfter sp) (State.writeRun_range first _ count s)

/-! ## Each place once -/

theorem foldl_range_keeps {S : Type} (f : S → Nat → S) (P : S → Prop) (hP : ∀ u j, P u → P (f u j)) (count : Nat) (s : S)
    (hs : P s) : P ((List.range count).foldl f s) :=
  List.foldlRecOn (motive := P) (List.range count) f hs fun u hu j _ => hP u j hu

/-- A run of writes that keeps P and touches place i only where its index says: the place is written once, or stays. -/
theorem foldl_range_place {S B : Type} (f : S → Nat → S) (get : S → B) (P : S → Prop) (new : B → B) (first i : Nat)
    (hP : ∀ u j, P u → P (f u j)) (hhere : ∀ u j, P u → first + j = i → get (f u j) = new (get u))
    (hthere : ∀ u j, P u → first + j ≠ i → get (f u j) = get u) (count : Nat) (s : S) (hs : P s) :
    get ((List.range count).foldl f s) = if first ≤ i ∧ i < first + count then new (get s) else get s := by
  induction count with
  | zero => exact (if_neg (by omega)).symm
  | succ n ih =>
    have hkept := foldl_range_keeps f P hP n s hs
    rw [List.range_succ, List.foldl_append, List.foldl_cons, List.foldl_nil]
    by_cases hi : first + n = i
    · rw [hhere _ _ hkept hi, ih, if_neg (by omega), if_pos (by omega)]
    · rw [hthere _ _ hkept hi, ih]
      by_cases hin : first ≤ i ∧ i < first + n
      · rw [if_pos hin, if_pos (by omega)]
      · rw [if_neg hin, if_neg (by omega)]

/-- The place's value is what its entry makes of it, when it is written. -/
theorem written_place {B : Type} {first count i : Nat} {old new value : B}
    (h : value = if first ≤ i ∧ i < first + count then new else old) :
    (first ≤ i ∧ i < first + count → value = new) ∧ (¬ (first ≤ i ∧ i < first + count) → value = old) :=
  ⟨fun hi => h.trans (if_pos hi), fun hi => h.trans (if_neg hi)⟩

theorem toIndex_val {n : Nat} (k : Fin n) : toIndex n k.val = some k := by
  rw [toIndex, dif_pos k.isLt]

theorem toIndex_eq_some_iff {n i : Nat} {k : Fin n} : toIndex n i = some k ↔ i = k.val := by
  constructor
  · intro h
    rw [toIndex] at h
    split at h
    · rw [Option.some.injEq] at h
      rw [← h]
    · cases h
  · rintro rfl
    exact toIndex_val k

/-! ## Spaces that are a table of the state (R23, R91, R92) -/

section Stores

variable {s : State} {first count : Nat} {data : List Byte}

/-- The bytes of a written place are those of its entry in the run. -/
theorem decoded_place {A : Type} {sp : Space} {dec : List Byte → Option A} {c : Nat → A}
    (h : ∀ j < count, dec (entryBytes sp data j) = some (c j)) {i : Nat} (hi : first ≤ i ∧ i < first + count) :
    dec (entryBytes sp data (i - first)) = some (c (i - first)) := h _ (by omega)

/-- A space that stores its entries in a table of the state: a run changes the written places of the table alone. -/
theorem State.applyWrite_table {A : Type} {n : Nat} {sp : Space} (mk : A → Entry) (dec : List Byte → Option A)
    (table : State → Vector A n) (put : Vector A n → State → State)
    (hdec : ∀ lock l, decodeEntry lock sp l = (dec l).map mk)
    (htable : ∀ v u, table (put v u) = v) (hself : ∀ u, put (table u) u = u) (hput : ∀ v w u, put v (put w u) = put v u)
    (hwrite : ∀ i a u, State.writeEntry i (mk a) u = put ((table u).setIfInBounds i a) u)
    (hoffers : ∀ u, State.offersAfter sp u = u) (h : checkWrite s sp first count data = none) :
    (let t := s.applyWrite sp first count data
     t = put (table t) s ∧
       ∀ i : Fin n, (first ≤ i.val ∧ i.val < first + count →
           some (table t)[i] = dec (entryBytes sp data (i.val - first))) ∧
         (¬ (first ≤ i.val ∧ i.val < first + count) → (table t)[i] = (table s)[i])) := by
  obtain ⟨c, hc, heq⟩ := State.applyWrite_entries mk dec hdec h
  rw [hoffers] at heq
  have hkept : ∀ u j, u = put (table u) s → State.writeEntry (first + j) (mk (c j)) u =
      put (table (State.writeEntry (first + j) (mk (c j)) u)) s := fun u j hu => by
    rw [hwrite, htable]
    exact (congrArg (put _) hu).trans (hput _ _ _)
  have hplace := fun i : Fin n => foldl_range_place (fun u j => State.writeEntry (first + j) (mk (c j)) u)
    (fun u => (table u)[i]) (fun u => u = put (table u) s) (fun _ => c (i.val - first)) first i.val hkept
    (fun u j _ hi => by
      have hj : i.val - first = j := by omega
      rw [hwrite, htable, hi, hj]
      simp)
    (fun u j _ hi => by
      rw [hwrite, htable]
      simp [hi]) count s (hself s).symm
  rw [heq]
  refine ⟨foldl_range_keeps _ _ hkept count s (hself s).symm, fun i => ?_⟩
  obtain ⟨hin, hout⟩ := written_place (hplace i)
  exact ⟨fun hi => (congrArg some (hin hi)).trans (decoded_place hc hi).symm, hout⟩

/-! ## Alert entries (R151, R162) -/

theorem State.storeAlert_same (n : Fin 20) (c : AlertCfg) (s : State) :
    (s.storeAlert n.val c).dlv.alert n = { s.dlv.alert n with cfg := c } := by
  rw [State.storeAlert, toIndex_val]
  exact Delivery.setAlert_alert_same _ _ _

theorem State.storeAlert_other {i : Nat} {n : Fin 20} (c : AlertCfg) (s : State) (h : i ≠ n.val) :
    (s.storeAlert i c).dlv.alert n = s.dlv.alert n := by
  rw [State.storeAlert]
  split
  · rfl
  · rename_i m hm
    refine Delivery.setAlert_alert_other _ _ _ _ fun e => h ?_
    rw [toIndex_eq_some_iff] at hm
    rw [hm, e]

theorem State.storeAlert_alerts (i : Nat) (c : AlertCfg) (v : Vector AlertEntry 20) (s : State) :
    ∃ w, State.storeAlert i c { s with dlv := { s.dlv with alerts := v } } = { s with dlv := { s.dlv with alerts := w } } := by
  rw [State.storeAlert]
  split
  · exact ⟨v, rfl⟩
  · exact ⟨_, rfl⟩

theorem State.applyWrite_alert (h : checkWrite s .alert first count data = none) :
    ∃ d : Delivery, d = { s.dlv with alerts := d.alerts } ∧
      s.applyWrite .alert first count data = State.run { s with dlv := d } [.offers .a, .offers .b] ∧
      ∀ n : Fin 20, (first ≤ n.val ∧ n.val < first + count → ∃ c,
          decodeAlertCfg (entryBytes .alert data (n.val - first)) = some c ∧ d.alert n = { s.dlv.alert n with cfg := c }) ∧
        (¬ (first ≤ n.val ∧ n.val < first + count) → d.alert n = s.dlv.alert n) := by
  obtain ⟨c, hc, heq⟩ := State.applyWrite_entries Entry.alert decodeAlertCfg (fun _ _ => rfl) h
  rw [heq]
  have hkept : ∀ u j, (∃ v, u = { s with dlv := { s.dlv with alerts := v } }) →
      ∃ v, State.writeEntry (first + j) (.alert (c j)) u = { s with dlv := { s.dlv with alerts := v } } := by
    rintro u j ⟨v, rfl⟩
    exact State.storeAlert_alerts _ _ v s
  have hplace := fun n : Fin 20 => foldl_range_place (fun u j => State.writeEntry (first + j) (.alert (c j)) u)
    (fun u => u.dlv.alert n) (fun u => ∃ v, u = { s with dlv := { s.dlv with alerts := v } })
    (fun e => { e with cfg := c (n.val - first) }) first n.val hkept
    (fun u j _ hn => by
      have hj : n.val - first = j := by omega
      rw [State.writeEntry, hn, hj]; exact State.storeAlert_same n _ u)
    (fun u j _ hn => State.storeAlert_other _ u hn) count s ⟨_, rfl⟩
  obtain ⟨v, hv⟩ := foldl_range_keeps _ _ hkept count s ⟨_, rfl⟩
  refine ⟨{ s.dlv with alerts := v }, rfl, by rw [hv]; rfl, fun n => ?_⟩
  have hn := hplace n
  rw [hv] at hn
  obtain ⟨hin, hout⟩ := written_place hn
  exact ⟨fun hi => ⟨c (n.val - first), decoded_place hc hi, hin hi⟩, hout⟩

/-! ## POINT and PUSH entries, written by their own rules (R48, R138) -/

theorem State.applyWrite_point (h : checkWrite s .point first count data = none) :
    ∃ c : Nat → PointCfg, (∀ j < count, decodePointCfg (entryBytes .point data j) = some (c j)) ∧
      s.applyWrite .point first count data = (List.range count).foldl (fun u j => u.writePoint (first + j) (c j)) s := by
  obtain ⟨c, hc, heq⟩ := State.applyWrite_entries Entry.point decodePointCfg (fun _ _ => rfl) h
  exact ⟨c, hc, heq⟩

theorem State.applyWrite_push (h : checkWrite s .push first count data = none) :
    ∃ c : Nat → PushCfg, (∀ j < count, decodePushCfg (entryBytes .push data j) = some (c j)) ∧
      s.applyWrite .push first count data = (List.range count).foldl (fun u j => u.writePush (first + j) (c j)) s := by
  obtain ⟨c, hc, heq⟩ := State.applyWrite_entries Entry.push decodePushCfg (fun _ _ => rfl) h
  exact ⟨c, hc, heq⟩

end Stores

end Sys2Proof.Machine
end


section
/-! SUPPORT. Written slots (R40), and the answers of a write: applied whole, or refused by name (R171, R175 to R177). -/

namespace Sys2Proof.Machine

/-! ## A slot leaving LOCKED hands no window over -/

theorem Point.toWaiting_quiet (ctx : PointCtx) (p : Point) : Quiet (p.toWaiting ctx).2 :=
  Point.applyPending_quiet ctx p.withoutWindow

theorem Point.sourceLost_quiet (ctx : PointCtx) (p : Point) : Quiet (p.sourceLost ctx).2 := by
  rw [Point.sourceLost]
  split
  · exact Point.toWaiting_quiet ctx p
  · split
    · exact Point.toWaiting_quiet ctx _
    · split
      · refine Quiet.append (fun e he => ?_) (Point.toWaiting_quiet ctx _)
        rw [Point.discard, List.mem_singleton] at he
        cases he
      · exact Quiet.nil

theorem Point.slotLeft_quiet (ctx : PointCtx) (k : Fin 32) (p : Point) : Quiet (p.slotLeft ctx k).2 := by
  rw [Point.slotLeft_eq]
  split
  · exact Quiet.nil
  · split
    · exact Point.sourceLost_quiet ctx _
    · exact Quiet.nil

/-- A point's event that hands no window over leaves the Finisher as it is. -/
theorem State.onPoint_finisher_of_quiet (i : Fin 24) (f : PointCtx → Point → PointStep) (s : State)
    (h : Quiet (f s.ctx (s.point i)).2) : (s.onPoint i f).finisher = s.finisher := by
  have events : ∀ (l : List PointEvent) (t : State), Quiet l → (l.foldl (State.pointEvent i) t).finisher = t.finisher := by
    intro l
    induction l with
    | nil => exact fun t _ => rfl
    | cons e l ih =>
      intro t hl
      rw [List.foldl_cons, ih _ fun x hx => hl x (List.mem_cons_of_mem e hx)]
      cases e with
      | handOver e => exact absurd List.mem_cons_self (hl e)
      | overflow => rw [State.pointEvent, State.raise, State.run_finisher]
      | discarded r => rw [State.pointEvent, State.raise, State.run_finisher]
      | untracked b => rw [State.pointEvent, State.run_finisher]
  rw [State.onPoint]
  exact (events _ _ h).trans (State.setPoint_finisher _ _ _)

theorem State.onPoints_finisher_of_quiet (f : PointCtx → Point → PointStep) (s : State) (h : ∀ ctx p, Quiet (f ctx p).2) :
    (s.onPoints f).finisher = s.finisher :=
  List.foldlRecOn (motive := fun t : State => t.finisher = s.finisher) (List.finRange 24) _ rfl fun t ht i _ =>
    (State.onPoint_finisher_of_quiet i f t (h _ _)).trans ht

/-- A slot's event that enters no LOCKED state and delivers nothing leaves the Finisher as it is. -/
theorem State.applySlot_finisher (k : Fin 32) (x : SlotStep) (s : State) (he : x.entered = false) (hd : x.delivered = []) :
    (s.applySlot k x).finisher = s.finisher := by
  have run (c : Bool) (t : State) (ts : List Task) : (if c then t.run ts else t).finisher = t.finisher := by
    cases c <;> rfl
  have left : (if x.left then (s.setSlot k x.slot).onPoints fun ctx => Point.slotLeft ctx k else s.setSlot k x.slot).finisher =
      s.finisher := by
    cases x.left
    · rfl
    · exact State.onPoints_finisher_of_quiet _ _ fun ctx p => Point.slotLeft_quiet ctx k p
  rw [State.applySlot, State.slotReports]
  simp only [hd, he, Bool.false_eq_true, if_false, List.foldl_nil, State.raise]
  rw [run, run]
  exact left

/-! ## A written slot (R40) -/

/-- The slot a write of its entry leaves: enabled afresh, dropped, kept, or LOST when its new deadline has passed. -/
def Slot.rewritten (now : Nat) (c : SlotCfg) (old : Slot) : Slot :=
  if old.cfg.enabled then
    if c.enabled then
      if (old.st = .acquiring ∨ old.st = .locked) ∧ old.lastUsable.getD 0 + c.lossTimeout ≤ now then
        { old with cfg := c, st := .lost, tag := none, good := 0, lateRun := 0, lostSeen := true }
      else { old with cfg := c }
    else { Slot.init with cfg := c, st := .disabled }
  else if c.enabled then { Slot.init with cfg := c, st := .idle }
  else { old with cfg := c }

/-- A write leaves the rewritten slot, and neither enters LOCKED nor delivers. -/
theorem Slot.write_rewritten (now : Nat) (c : SlotCfg) (old : Slot) :
    (old.write now c).slot = old.rewritten now c ∧ (old.write now c).entered = false ∧ (old.write now c).delivered = [] := by
  rw [Slot.write, Slot.rewritten]
  split
  · split
    · by_cases hdue : ({ old with cfg := c } : Slot).lossDue now = true
      · rw [if_pos ((lossDue_iff now { old with cfg := c }).mp hdue)]
        simp only [hdue, if_true]
        exact ⟨rfl, rfl, rfl⟩
      · rw [if_neg fun h => hdue ((lossDue_iff now { old with cfg := c }).mpr h)]
        simp only [hdue]
        exact ⟨rfl, rfl, rfl⟩
    · exact ⟨rfl, rfl, rfl⟩
  · split <;> exact ⟨rfl, rfl, rfl⟩

theorem State.writeSlot_slot (i : Nat) (c : SlotCfg) (k : Fin 32) (s : State) :
    (s.writeSlot i c).slot k = if i = k.val then (s.slot k).rewritten (timebase s) c else s.slot k := by
  rw [State.writeSlot]
  split
  · rename_i hnone
    rw [if_neg]
    rintro rfl
    rw [toIndex_val] at hnone
    cases hnone
  · rename_i m hm
    rw [toIndex_eq_some_iff] at hm
    rw [State.slot, State.applySlot_slots]
    by_cases hk : m = k
    · subst hk
      rw [if_pos hm, (Slot.write_rewritten _ _ _).1]
      simp
    · rw [if_neg (by omega)]
      exact Vector.getElem_set_ne m.isLt k.isLt fun e => hk (Fin.ext e)

/-- A slot written changes slots, points and the delivery side alone. -/
theorem State.writeSlot_frame (i : Nat) (c : SlotCfg) (s : State) :
    s.writeSlot i c =
      { s with slots := (s.writeSlot i c).slots, points := (s.writeSlot i c).points, dlv := (s.writeSlot i c).dlv } := by
  rw [State.writeSlot]
  split
  · rfl
  · rename_i k _
    obtain ⟨-, hentered, hdelivered⟩ := Slot.write_rewritten (timebase s) c (s.slot k)
    have hsame := (State.applySlot_same k ((s.slot k).write (timebase s) c) s).eq
    rw [State.applySlot_finisher k _ s hentered hdelivered] at hsame
    rw [State.applySlot_slots]
    exact hsame

theorem State.applyWrite_slot {s : State} {first count : Nat} {data : List Byte} (h : checkWrite s .slot first count data = none) :
    (let t := s.applyWrite .slot first count data
     t = { s with slots := t.slots, points := t.points, dlv := t.dlv } ∧
       ∀ k : Fin 32,
         (first ≤ k.val ∧ k.val < first + count → ∃ c, decodeSlotCfg (entryBytes .slot data (k.val - first)) = some c ∧
           t.slot k = (s.slot k).rewritten (timebase s) c) ∧
         (¬ (first ≤ k.val ∧ k.val < first + count) → t.slot k = s.slot k)) := by
  obtain ⟨c, hc, heq⟩ := State.applyWrite_entries Entry.slot decodeSlotCfg (fun _ _ => rfl) h
  have hkept : ∀ u j, u = { s with slots := u.slots, points := u.points, dlv := u.dlv } →
      State.writeEntry (first + j) (.slot (c j)) u =
        { s with
          slots := (State.writeEntry (first + j) (.slot (c j)) u).slots
          points := (State.writeEntry (first + j) (.slot (c j)) u).points
          dlv := (State.writeEntry (first + j) (.slot (c j)) u).dlv } := fun u j hu => by
    refine (State.writeSlot_frame (first + j) (c j) u).trans ?_
    rw [State.writeEntry]
    exact congrArg (fun v : State => { v with
      slots := (u.writeSlot (first + j) (c j)).slots, points := (u.writeSlot (first + j) (c j)).points
      dlv := (u.writeSlot (first + j) (c j)).dlv }) hu
  have htime : ∀ u : State, u = { s with slots := u.slots, points := u.points, dlv := u.dlv } → timebase u = timebase s :=
    fun u hu => by rw [hu]; rfl
  have hplace := fun k : Fin 32 => foldl_range_place (fun u j => State.writeEntry (first + j) (.slot (c j)) u)
    (fun u => u.slot k) (fun u => u = { s with slots := u.slots, points := u.points, dlv := u.dlv })
    (Slot.rewritten (timebase s) (c (k.val - first))) first k.val hkept
    (fun u j hu hk => by
      have hj : k.val - first = j := by omega
      rw [← htime u hu, hj]
      exact (State.writeSlot_slot _ _ k u).trans (if_pos hk))
    (fun u j _ hk => (State.writeSlot_slot _ _ k u).trans (if_neg hk)) count s rfl
  rw [heq]
  refine ⟨foldl_range_keeps _ _ hkept count s rfl, fun k => ?_⟩
  obtain ⟨hin, hout⟩ := written_place (hplace k)
  exact ⟨fun hk => ⟨c (k.val - first), decoded_place hc hk, hin hk⟩, hout⟩

/-! ## The answers (R171, R175 to R177) -/

/-- The row of a WRITE makes a request of the space's code. -/
theorem exec_writeRow (sp : Space) (h : ReqHeader) (index count : BitVec 16) (data : List Byte) (s : State) :
    ∃ space : Byte, spaceOf space.toNat = some sp ∧
      exec (writeRow sp h index count data) s = s.request h .write space index count data := by
  cases sp with
  | device => exact ⟨0x01, rfl, rfl⟩
  | window => exact ⟨0x02, rfl, rfl⟩
  | slot => exact ⟨0x03, rfl, rfl⟩
  | point => exact ⟨0x04, rfl, rfl⟩
  | hset => exact ⟨0x05, rfl, rfl⟩
  | limit => exact ⟨0x06, rfl, rfl⟩
  | alert => exact ⟨0x07, rfl, rfl⟩
  | push => exact ⟨0x08, rfl, rfl⟩
  | counters => exact ⟨0x09, rfl, rfl⟩
  | result => exact ⟨0x0A, rfl, rfl⟩

section Served

variable {s : State} {code : Nat} {sp : Space} {first count : Nat} {data : List Byte}

theorem serveWrite_applied (hc : spaceOf code = some sp) (h : checkWrite s sp first count data = none) :
    serveWrite code first count data s = answerOk count (s.applyWrite sp first count data) := by
  rw [serveWrite, hc]
  simp only [h]

theorem serveWrite_refused (hc : spaceOf code = some sp) {e : WriteRefusal} (h : checkWrite s sp first count data = some e) :
    serveWrite code first count data s = refuseAt e.status e.index s := by
  rw [serveWrite, hc]
  simp only [h]

theorem serveWrite_badSpace (hc : spaceOf code = none) :
    serveWrite code first count data s = refuseAt .badSpace first s := by
  rw [serveWrite, hc]

end Served

section Rows

variable {s : State} {h : ReqHeader} {space : Byte} {index count : BitVec 16} {data : List Byte} (h0 : TakenAtOnce s h)
  (hm : Manages s h)

include h0 hm

/-- A WRITE is answered with what its service answers. -/
theorem request_write_answered {st : Status} {n : Nat} {reply : List Byte} {t : State}
    (hx : serveWrite space.toNat index.toNat count.toNat data (joined s) = { state := t, status := st, count := n, data := reply }) :
    s.request h .write space index count data = .next (answered h .write st n reply t) :=
  request_served s h .write space index count data h0 hm (by decide) _ hx

/-- A WRITE-POSTED ends with its service, or with the count and the alert of a refusal (R177). -/
theorem request_posted_ends {x : Served} (hx : serveWrite space.toNat index.toNat count.toNat data (joined s) = x) :
    s.request h .writePosted space index count data =
      .next (if x.status = .ok then x.state else
        State.raise { x.state with agent := { x.state.agent with postedRefused := x.state.agent.postedRefused + 1 } } 16
          (h.tag.toNat * 65536 + statusCode x.status)) := by
  have hp : permitted (joined s).device h.source .writePosted space.toNat = true := permitted_of_manages s h .writePosted _ hm
  have htag : reqTag (madeRequest s h .writePosted space index count data).payload = h.tag := reqTag_requestPayload ..
  rw [request_posted s h space index count data h0 x (by rw [serve_madeRequest, if_pos hp]; exact hx), State.endPosted, htag]

theorem request_posted_refused {st : Status} (hst : st ≠ .ok) {i : Nat}
    (hx : serveWrite space.toNat index.toNat count.toNat data (joined s) = refuseAt st i (joined s)) :
    s.request h .writePosted space index count data =
      .next (State.raise { joined s with agent := { (joined s).agent with postedRefused := s.agent.postedRefused + 1 } } 16
        (h.tag.toNat * 65536 + statusCode st)) := by
  rw [request_posted_ends h0 hm hx]
  exact congrArg _ (if_neg hst)

end Rows

/-- Settles O36: the checks decide whether the run is applied, each space's store says what is written, and the answer is the
service's. -/
theorem writesAreAllOrNothing : Obligations.WritesAreAllOrNothing := by
  refine ⟨fun s sp h index count data h0 hm => ?_, fun s h space sp index count data h0 hm hsp => ⟨fun hcheck => ?_,
    fun e hcheck => ?_⟩, fun s sp first count data hcheck => ⟨?_, ?_, ?_, ?_, ?_, ?_, ?_⟩,
    fun s h space index count data h0 hm hsp => ⟨?_, ?_⟩⟩
  · obtain ⟨space, hspace, hexec⟩ := exec_writeRow sp h index count data s
    refine ⟨fun hcheck => ?_, fun e hcheck => ?_⟩
    · exact hexec.trans (request_write_answered h0 hm (serveWrite_applied hspace hcheck))
    · exact hexec.trans (request_write_answered h0 hm (serveWrite_refused hspace hcheck))
  · rw [exec, execWritePosted, request_posted_ends h0 hm (serveWrite_applied (s := joined s) hsp hcheck)]
    exact congrArg _ (if_pos rfl)
  · exact request_posted_refused h0 hm (checkWrite_refused hcheck) (serveWrite_refused (s := joined s) hsp hcheck)
  · rintro rfl
    exact State.applyWrite_table Entry.window decodeWindow (fun u => u.classifier.windows)
      (fun v u => { u with classifier := { u.classifier with windows := v } }) (fun _ _ => rfl) (fun _ _ => rfl) (fun _ => rfl)
      (fun _ _ _ => rfl) (fun _ _ _ => rfl) (fun _ => rfl) hcheck
  · rintro rfl
    exact State.applyWrite_table Entry.hset decodeHset (fun u => u.finisher.hsets)
      (fun v u => { u with finisher := { u.finisher with hsets := v } }) (fun _ _ => rfl) (fun _ _ => rfl) (fun _ => rfl)
      (fun _ _ _ => rfl) (fun _ _ _ => rfl) (fun _ => rfl) hcheck
  · rintro rfl
    exact State.applyWrite_table Entry.limit decodeLimit (fun u => u.finisher.limits)
      (fun v u => { u with finisher := { u.finisher with limits := v } }) (fun _ _ => rfl) (fun _ _ => rfl) (fun _ => rfl)
      (fun _ _ _ => rfl) (fun _ _ _ => rfl) (fun _ => rfl) hcheck
  · rintro rfl
    exact State.applyWrite_alert hcheck
  · rintro rfl
    exact State.applyWrite_slot hcheck
  · rintro rfl
    exact State.applyWrite_point hcheck
  · rintro rfl
    exact State.applyWrite_push hcheck
  · exact request_write_answered h0 hm (serveWrite_badSpace hsp)
  · have hrefused := request_posted_refused h0 hm (by decide) (serveWrite_badSpace (data := data) (first := index.toNat)
      (count := count.toNat) (s := joined s) hsp)
    rw [show statusCode .badSpace = 0x05 from rfl] at hrefused
    exact hrefused

end Sys2Proof.Machine
end

section
/-! SUPPORT. Rounding, the clamp and calibration (R53; Conventions, Rounding). -/

namespace Sys2Proof.Machine

/-! ## Rounding and the clamp -/

/-- A non-negative quotient rounded lies within half the divisor, and above the quotient at a half. -/
theorem roundDiv_of_nonneg {n : Int} (hn : 0 ≤ n) {d : Nat} (hd : 0 < d) :
    0 ≤ roundDiv n d ∧ -(d : Int) < 2 * (d * roundDiv n d - n) ∧ 2 * (d * roundDiv n d - n) ≤ d := by
  have hpos : (0 : Int) < 2 * d := by omega
  have hdiv := Int.mul_ediv_add_emod (2 * n + d) (2 * d)
  have hlow := Int.emod_nonneg (2 * n + d) hpos.ne'
  have hhigh := Int.emod_lt_of_pos (2 * n + d) hpos
  rw [roundDiv, if_pos hn]
  rw [Int.mul_assoc] at hdiv
  exact ⟨Int.ediv_nonneg (by omega) hpos.le, by omega, by omega⟩

/-- Rounding treats a number and its opposite alike. -/
theorem roundDiv_neg (n : Int) (d : Nat) (hd : 0 < d) : roundDiv (-n) d = -roundDiv n d := by
  have hzero : (d : Int) / (2 * d) = 0 := Int.ediv_eq_zero_of_lt (by omega) (by omega)
  rcases lt_trichotomy n 0 with h | rfl | h
  · rw [roundDiv, roundDiv, if_pos (by omega), if_neg (by omega), Int.neg_neg]
  · simp [roundDiv, hzero]
  · rw [roundDiv, roundDiv, if_neg (by omega), if_pos (by omega), Int.neg_neg]

/-- Rounding is to the nearest integer, and away from zero at a half (Conventions, Rounding). -/
theorem roundDiv_nearest (n : Int) {d : Nat} (hd : 0 < d) :
    2 * |d * roundDiv n d - n| ≤ d ∧ (2 * |d * roundDiv n d - n| = d → |n| < d * |roundDiv n d|) := by
  wlog hn : 0 ≤ n generalizing n with h
  · have hopp := h (-n) (by omega)
    have hdist : (d : Int) * -roundDiv n d - -n = -(d * roundDiv n d - n) := by ring
    rwa [roundDiv_neg n d hd, hdist, abs_neg, abs_neg, abs_neg] at hopp
  · obtain ⟨hround, hlow, hhigh⟩ := roundDiv_of_nonneg hn hd
    rw [abs_of_nonneg hn, abs_of_nonneg hround]
    rcases abs_cases ((d : Int) * roundDiv n d - n) with ⟨habs, -⟩ | ⟨habs, -⟩ <;> rw [habs] <;> omega

/-- The clamp keeps a value within the bound and moves any other to the bound of its sign (R53). -/
theorem clampTo_spec {b : Int} (hb : 0 ≤ b) (x : Int) :
    -b ≤ clampTo b x ∧ clampTo b x ≤ b ∧ (clampTo b x = x ↔ -b ≤ x ∧ x ≤ b) ∧ (b < x → clampTo b x = b) ∧
      (x < -b → clampTo b x = -b) := by
  rw [clampTo]
  split
  · omega
  · split <;> omega

/-- Settles O18: rounding by its distance from the quotient, calibration as the clamp of the scaled value. -/
theorem calibratedValuesAreLimited : Obligations.CalibratedValuesAreLimited := by
  refine ⟨fun n d hd => roundDiv_nearest n hd, fun r g => ?_⟩
  obtain ⟨hlow, hhigh, hsame, habove, hbelow⟩ := clampTo_spec (b := Config.sampleMax) (by decide) (scaled r g)
  obtain ⟨hnear, hhalf⟩ := roundDiv_nearest (r * g) (d := 16384) (by decide)
  refine ⟨hlow, hhigh, hsame, habove, hbelow, hnear, hhalf, ?_⟩
  rintro rfl
  rw [calibrate, scaled, Int.zero_mul]
  decide

end Sys2Proof.Machine
end

section
/-! SUPPORT. The checks of a write one by one, the bytes the metrology lock protects, and the harmonic sets in use (R46, R91,
R175, R181). -/

namespace Sys2Proof.Machine

/-! ## The first entry that fails -/

section FirstFailure

variable (p : Nat → Bool) (first count : Nat) (st : Status)

/-- The refusal that names the first of `count` entries from `first` on that fails a check. -/
def firstFailure : Option WriteRefusal := (((List.range count).find? p).map (first + ·)).map (WriteRefusal.mk st)

theorem firstFailure_none_iff : firstFailure p first count st = none ↔ ∀ j < count, ¬ p j = true := by
  simp [firstFailure]

theorem firstFailure_some {j : Nat} (hj : j < count) (hp : p j = true) (hmin : ∀ i < j, ¬ p i = true) :
    firstFailure p first count st = some ⟨st, first + j⟩ := by
  have hfind : (List.range count).find? p = some j :=
    List.find?_range_eq_some.mpr ⟨hp, List.mem_range.mpr hj, fun i hi => by simpa using hmin i hi⟩
  rw [firstFailure, hfind]
  rfl

end FirstFailure

/-! ## The checks in order (R175) -/

section Chain

variable (s : State) (sp : Space) (first count : Nat) (data : List Byte)

theorem checkLock_eq : checkLock s sp first count data =
    firstFailure (fun j => s.device.metrologyLock && changesProtected s sp (first + j) (entryBytes sp data j))
      first count .locked := by
  rw [checkLock, lockFailure, firstFailure]
  cases s.device.metrologyLock <;> simp

theorem checkInUse_eq : checkInUse s sp first count =
    firstFailure (fun j => decide (sp = .hset) && hsetNamed s (first + j)) first count .inUse := by
  rw [checkInUse, inUseFailure, firstFailure]
  by_cases h : sp = .hset <;> simp [h]

theorem checkValues_short (h : data.length ≠ count * writeSize sp) :
    checkValues s sp first count data = some ⟨.short, first⟩ := if_pos h

theorem checkValues_whole (h : data.length = count * writeSize sp) : checkValues s sp first count data =
    firstFailure (fun j => (decodeEntry s.device.metrologyLock sp (entryBytes sp data j)).isNone) first count .badValue :=
  if_neg (not_not.mpr h)

theorem loadOpenOn_iff : loadOpenOn s sp = true ↔ ∃ l, s.agent.load = some l ∧ l.space = sp := by
  cases h : s.agent.load <;> simp [loadOpenOn, h]

theorem writeSize_eq_zero_iff : writeSize sp = 0 ↔ sp = .counters ∨ sp = .result := by cases sp <;> decide

theorem checkWrite_outside (h : ¬ (1 ≤ count ∧ first + count ≤ spaceEntries sp)) :
    checkWrite s sp first count data = some ⟨.badIndex, first⟩ := by
  rw [checkWrite, if_pos]
  simp only [Bool.or_eq_true, decide_eq_true_eq]
  omega

/-- Past the checks of the run and of the space come LOCKED, BUSY, IN-USE and the values, in this order. -/
theorem checkWrite_inside (h : 1 ≤ count ∧ first + count ≤ spaceEntries sp) : checkWrite s sp first count data =
    if sp = .counters ∨ sp = .result then some ⟨.readOnly, first⟩
    else (checkLock s sp first count data).or (if loadOpenOn s sp then some ⟨.busy, first⟩
      else (checkInUse s sp first count).or (checkValues s sp first count data)) := by
  rw [checkWrite, if_neg (by simp only [Bool.or_eq_true, decide_eq_true_eq]; omega)]
  simp only [writeSize_eq_zero_iff]
  cases checkLock s sp first count data <;> cases checkInUse s sp first count <;> rfl

theorem checkWrite_none_iff : checkWrite s sp first count data = none ↔
    (1 ≤ count ∧ first + count ≤ spaceEntries sp) ∧ ¬ (sp = .counters ∨ sp = .result) ∧
      checkLock s sp first count data = none ∧ ¬ loadOpenOn s sp = true ∧ checkInUse s sp first count = none ∧
        checkValues s sp first count data = none := by
  by_cases hin : 1 ≤ count ∧ first + count ≤ spaceEntries sp
  · rw [checkWrite_inside s sp first count data hin]
    split
    · simp_all
    · split <;> simp_all
  · rw [checkWrite_outside s sp first count data hin]
    simp [hin]

theorem checkLock_none_iff : checkLock s sp first count data = none ↔ ∀ j < count, ¬ (s.device.metrologyLock = true ∧
    changesProtected s sp (first + j) (entryBytes sp data j) = true) := by
  rw [checkLock_eq, firstFailure_none_iff]
  simp only [Bool.and_eq_true]

theorem checkLock_some {j : Nat} (hj : j < count)
    (hl : s.device.metrologyLock = true ∧ changesProtected s sp (first + j) (entryBytes sp data j) = true)
    (hmin : ∀ i < j, ¬ (s.device.metrologyLock = true ∧ changesProtected s sp (first + i) (entryBytes sp data i) = true)) :
    checkLock s sp first count data = some ⟨.locked, first + j⟩ := by
  rw [checkLock_eq]
  exact firstFailure_some _ first count .locked hj (by simpa only [Bool.and_eq_true] using hl)
    (by simpa only [Bool.and_eq_true] using hmin)

theorem checkInUse_none_iff : checkInUse s sp first count = none ↔
    ∀ j < count, ¬ (sp = .hset ∧ hsetNamed s (first + j) = true) := by
  rw [checkInUse_eq, firstFailure_none_iff]
  simp only [Bool.and_eq_true, decide_eq_true_eq]

theorem checkInUse_some {j : Nat} (hj : j < count) (hn : sp = .hset ∧ hsetNamed s (first + j) = true)
    (hmin : ∀ i < j, ¬ (sp = .hset ∧ hsetNamed s (first + i) = true)) :
    checkInUse s sp first count = some ⟨.inUse, first + j⟩ := by
  rw [checkInUse_eq]
  exact firstFailure_some _ first count .inUse hj (by simpa only [Bool.and_eq_true, decide_eq_true_eq] using hn)
    (by simpa only [Bool.and_eq_true, decide_eq_true_eq] using hmin)

theorem checkValues_none_iff : checkValues s sp first count data = none ↔ data.length = count * writeSize sp ∧
    ∀ j < count, (decodeEntry s.device.metrologyLock sp (entryBytes sp data j)).isSome = true := by
  by_cases hw : data.length = count * writeSize sp
  · rw [checkValues_whole s sp first count data hw, firstFailure_none_iff]
    simp [hw, Option.isSome_iff_ne_none]
  · simp [checkValues_short s sp first count data hw, hw]

theorem checkValues_bad (hw : data.length = count * writeSize sp) {j : Nat} (hj : j < count)
    (hbad : decodeEntry s.device.metrologyLock sp (entryBytes sp data j) = none)
    (hmin : ∀ i < j, ¬ decodeEntry s.device.metrologyLock sp (entryBytes sp data i) = none) :
    checkValues s sp first count data = some ⟨.badValue, first + j⟩ := by
  rw [checkValues_whole s sp first count data hw]
  exact firstFailure_some _ first count .badValue hj (by simpa only [Option.isNone_iff_eq_none] using hbad)
    (by simpa only [Option.isNone_iff_eq_none] using hmin)

end Chain

/-! ## Fields and the bytes they spell -/

/-- Two runs of bytes of one length spell the same number only if they are the same. -/
theorem beToNat_inj {a b : List Byte} (h : a.length = b.length) : beToNat a = beToNat b ↔ a = b := by
  refine ⟨fun he => ?_, fun he => he ▸ rfl⟩
  induction a generalizing b with
  | nil => exact (List.length_eq_zero_iff.mp h.symm).symm
  | cons x a ih =>
    obtain ⟨y, b, rfl⟩ : ∃ y b', b = y :: b' := List.exists_cons_of_length_pos (by simp [← h])
    have hlen : a.length = b.length := by simpa using h
    have ha := beToNat_lt a
    have hb := beToNat_lt b
    rw [beToNat_cons, beToNat_cons, hlen] at he
    rw [hlen] at ha
    have hhead : x.toNat = y.toNat := by
      have hx := congrArg (· / 256 ^ b.length) he
      simpa [Nat.add_comm _ (beToNat _), Nat.add_mul_div_right, Nat.div_eq_of_lt ha, Nat.div_eq_of_lt hb] using hx
    rw [hhead, Nat.add_left_cancel_iff] at he
    rw [BitVec.eq_of_toNat_eq hhead, ih hlen he]

/-- Entries agree on the bytes of some fields exactly when they agree on the fields. -/
theorem flatMap_fields_eq_iff {l m : List Byte} (places : List (Nat × Nat))
    (hl : ∀ x ∈ places, x.1 + x.2 ≤ l.length) (hm : ∀ x ∈ places, x.1 + x.2 ≤ m.length) :
    places.flatMap (fun x => (l.drop x.1).take x.2) = places.flatMap (fun x => (m.drop x.1).take x.2) ↔
      ∀ x ∈ places, field x.1 x.2 l = field x.1 x.2 m := by
  induction places with
  | nil => simp
  | cons x places ih =>
    have hlx := hl x List.mem_cons_self
    have hmx := hm x List.mem_cons_self
    have hlen : ((l.drop x.1).take x.2).length = ((m.drop x.1).take x.2).length := by
      simp only [List.length_take, List.length_drop]
      omega
    rw [List.flatMap_cons, List.flatMap_cons, List.forall_mem_cons,
      ← ih (fun y hy => hl y (List.mem_cons_of_mem _ hy)) fun y hy => hm y (List.mem_cons_of_mem _ hy), field, field,
      beToNat_inj hlen]
    exact ⟨fun h => List.append_inj h hlen, fun h => by rw [h.1, h.2]⟩

/-! ## The fields the lock protects (R46, R181) -/

/-- Offset and width of the fields of a POINT entry that the lock protects: V slot, I slot, C, harmonic set, the gains. -/
def protectedFields : List (Nat × Nat) :=
  [(1, 1), (2, 1), (5, 1), (6, 1)] ++ (List.range 7).map fun j => (14 + 2 * j, 2)

theorem protectedBytes_eq (l : List Byte) : protectedBytes l = protectedFields.flatMap fun x => (l.drop x.1).take x.2 := by
  have two (l : List Byte) : l.take 2 = l.take 1 ++ (l.drop 1).take 1 :=
    List.take_add (i := 1) (j := 1)
  have pair (l : List Byte) (n : Nat) : l.take (2 + n) = l.take 2 ++ (l.drop 2).take n := List.take_add
  rw [protectedBytes, two (l.drop 1), two (l.drop 5), show 14 = 2 + (2 + (2 + (2 + (2 + (2 + 2))))) from rfl]
  simp only [pair, List.drop_drop]
  simp [protectedFields, List.range_succ]

/-- The fields of a POINT entry before its gains (11.5). -/
def pointHead (c : PointCfg) : List (Nat × Nat) :=
  [(1, (flagByte c.enabled).toNat), (1, c.vSlot.val), (1, c.iSlot.val), (1, (flagByte c.useNeutral).toNat),
    (1, c.nominal.hz), (1, c.cycles), (1, c.hset.val), (1, c.limit.val),
    (1, match c.policy with | .restart => 0 | .bridge => 1 | .skip => 2), (1, c.bridgeLimit), (1, c.minCoverage), (1, 0),
    (2, c.tanLimit)]

theorem encodePointCfg_eq (c : PointCfg) :
    encodePointCfg c = fieldRow (pointHead c) ++ fieldRow (c.gains.toList.map fun g => (2, g)) := by
  have hpad : pad 1 = beNat 1 0 := by decide
  simp only [encodePointCfg, pointHead, fieldRow, hpad, singleton_eq_beNat (flagByte _), List.flatMap_map]
  cases c.policy <;> simp

/-- The fields before the gains are read back, and so is each gain, from a configuration in its ranges. -/
theorem field_pointHead (c : PointCfg) : ∀ x ∈ rowPlaces 0 (pointHead c),
    field x.1 x.2.1 (encodePointCfg c) = x.2.2 % 256 ^ x.2.1 := by
  rw [encodePointCfg_eq]
  exact field_fieldRow (pointHead c) [] _

theorem mem_rowPlaces_pairs (values : List Nat) : ∀ (off j g : Nat), values[j]? = some g →
    (off + 2 * j, 2, g) ∈ rowPlaces off (values.map fun v => (2, v)) := by
  induction values with
  | nil => simp
  | cons v values ih =>
    intro off j g h
    cases j with
    | zero => simp_all [rowPlaces]
    | succ j =>
      have hrest := ih (off + 2) j g (by simpa using h)
      rw [show off + 2 + 2 * j = off + 2 * (j + 1) by ring] at hrest
      exact List.mem_cons_of_mem _ hrest

theorem field_gain (c : PointCfg) (hc : c.Legal) {j g : Nat} (h : c.gains.toList[j]? = some g) :
    field (14 + 2 * j) 2 (encodePointCfg c) = g := by
  have hrow := field_fieldRow (c.gains.toList.map fun v => (2, v)) (fieldRow (pointHead c)) [] (14 + 2 * j, 2, g)
    (mem_rowPlaces_pairs _ 14 j g h)
  obtain ⟨-, -, -, -, -, -, -, hgains⟩ := hc
  have hg := hgains g (List.mem_of_getElem? h)
  rw [List.append_nil, ← encodePointCfg_eq] at hrow
  have hfit : g < 256 ^ 2 := by omega
  exact hrow.trans (Nat.mod_eq_of_lt hfit)

/-- A POINT entry differs in a protected byte exactly when one of the protected fields differs (R46, R181). -/
theorem protectedBytes_ne_iff (c : PointCfg) (hc : c.Legal) (l : List Byte) (hl : l.length = 28) :
    protectedBytes l ≠ protectedBytes (encodePointCfg c) ↔
      field 1 1 l ≠ c.vSlot.val ∨ field 2 1 l ≠ c.iSlot.val ∨ field 5 1 l ≠ c.cycles ∨ field 6 1 l ≠ c.hset.val ∨
        ∃ j g, c.gains.toList[j]? = some g ∧ field (14 + 2 * j) 2 l ≠ g := by
  have hlen : (encodePointCfg c).length = 28 := by
    rw [encodePointCfg_eq, List.length_append, length_fieldRow, length_fieldRow]
    rfl
  have hplaces : ∀ x ∈ protectedFields, x.1 + x.2 ≤ 28 := by decide
  have hhead := field_pointHead c
  simp only [pointHead, rowPlaces, List.forall_mem_cons, Nat.reduceAdd] at hhead
  obtain ⟨-, hv, hi, -, -, hcycles, hhset, -⟩ := hhead
  have hlegal := hc.2.1
  rw [Nat.mod_eq_of_lt (by omega)] at hv hi hcycles hhset
  have hgains : (∀ j < 7, field (14 + 2 * j) 2 l = field (14 + 2 * j) 2 (encodePointCfg c)) ↔
      ∀ j g, c.gains.toList[j]? = some g → field (14 + 2 * j) 2 l = g := by
    refine ⟨fun h j g hg => ?_, fun h j hj => ?_⟩
    · obtain ⟨hj, -⟩ := List.getElem?_eq_some_iff.mp hg
      rw [h j hj, field_gain c hc hg]
    · have hg : c.gains.toList[j]? = some (c.gains.toList[j]'hj) := List.getElem?_eq_getElem hj
      rw [h j _ hg, field_gain c hc hg]
  rw [Ne, protectedBytes_eq, protectedBytes_eq, flatMap_fields_eq_iff protectedFields (hl ▸ hplaces) (hlen ▸ hplaces)]
  simp only [protectedFields, List.forall_mem_append, List.forall_mem_cons, List.forall_mem_map, List.mem_range, hgains, hv, hi,
    hcycles, hhset, List.not_mem_nil, false_implies, forall_const, and_true]
  simp only [not_and_or, not_forall, exists_prop, ne_eq, or_assoc]

/-! ## Harmonic sets in use (R91) -/

theorem hsetNamed_iff (s : State) (j : Nat) : hsetNamed s j = true ↔ ∃ i : Fin 24, (s.point i).cfg.enabled = true ∧
    ((s.point i).cfg.hset.val = j ∨ ∃ c, (s.point i).waitingCfg = some c ∧ c.hset.val = j) := by
  have pending (p : Point) : (p.waitingCfg.map fun c => c.hset.val == j).getD false = true ↔
      ∃ c, p.waitingCfg = some c ∧ c.hset.val = j := by
    cases p.waitingCfg <;> simp
  rw [hsetNamed, Vector.any_iff_exists]
  simp only [Bool.and_eq_true, Bool.or_eq_true, pending, beq_iff_eq]
  exact ⟨fun ⟨i, hi, h⟩ => ⟨⟨i, hi⟩, h⟩, fun ⟨i, h⟩ => ⟨i.val, i.isLt, h⟩⟩

/-- Of a written entry the lock compares these fields alone (R46, R181). -/
theorem changesProtected_point (s : State) (i : Fin 24) (l : List Byte) (hc : (s.point i).comparedCfg.Legal)
    (hl : l.length = 28) : changesProtected s .point i.val l = true ↔
      field 1 1 l ≠ (s.point i).comparedCfg.vSlot.val ∨ field 2 1 l ≠ (s.point i).comparedCfg.iSlot.val ∨
        field 5 1 l ≠ (s.point i).comparedCfg.cycles ∨ field 6 1 l ≠ (s.point i).comparedCfg.hset.val ∨
          ∃ j g, (s.point i).comparedCfg.gains.toList[j]? = some g ∧ field (14 + 2 * j) 2 l ≠ g := by
  rw [← protectedBytes_ne_iff _ hc l hl]
  simp [changesProtected, toIndex_val, hl, writeSize]

theorem changesProtected_device (s : State) (i : Nat) (l : List Byte) (hl : l.length = 20) :
    changesProtected s .device i l = true ↔ field 12 2 l ≠ s.device.intervalLen := by
  simp [changesProtected, hl, writeSize]

/-- An entry cut short is not compared (notes/assumptions/23.md), and the other spaces have no protected field. -/
theorem changesProtected_unprotected (s : State) (i : Nat) (l : List Byte) (sp : Space)
    (h : sp = .point ∧ l.length ≠ 28 ∨ sp = .device ∧ l.length ≠ 20 ∨ sp ∈ [Space.window, .slot, .limit, .alert, .push]) :
    changesProtected s sp i l = false := by
  rcases h with ⟨rfl, hl⟩ | ⟨rfl, hl⟩ | h
  · rw [changesProtected]
    split <;> simp [hl, writeSize]
  · simp [changesProtected, hl, writeSize]
  · fin_cases h <;> rfl

/-- Settles O35: the chain of checks, each with its first failure, and what the lock and the use of a set compare. -/
theorem writeAcceptedExactlyWhenEveryCheckPasses : Obligations.WriteAcceptedExactlyWhenEveryCheckPasses := by
  refine ⟨fun s sp first count data => ?_, fun s sp first count data => ⟨fun hout => ?_, fun hin hro => ?_, fun hin hrw => ?_⟩,
    fun s i l hc hl => changesProtected_point s i l hc hl, fun s l hl => changesProtected_device s 0 l hl, fun s i l => rfl,
    fun s i l sp h => changesProtected_unprotected s i l sp h, hsetNamed_iff⟩
  · rw [checkWrite_none_iff, checkLock_none_iff, checkInUse_none_iff, checkValues_none_iff, loadOpenOn_iff]
    cases s.device.metrologyLock <;> by_cases hs : sp = .hset <;> simp [hs, and_assoc]
  · exact checkWrite_outside s sp first count data hout
  · exact (checkWrite_inside s sp first count data hin).trans (if_pos hro)
  · have hchain := (checkWrite_inside s sp first count data hin).trans (if_neg hrw)
    have hopen := loadOpenOn_iff s sp
    refine ⟨fun j hj hl hmin => ?_, fun hu hload => ?_, fun hu hload j hj hn hmin => ?_, fun hu hload hn hshort => ?_,
      fun hu hload hn hwhole j hj hbad hmin => ?_⟩
    · rw [hchain, checkLock_some s sp first count data hj hl hmin, Option.some_or]
    all_goals rw [hchain, (checkLock_none_iff s sp first count data).mpr hu, Option.none_or]
    · rw [if_pos (hopen.mpr hload)]
    all_goals rw [if_neg (mt hopen.mp hload)]
    · rw [checkInUse_some s sp first count hj hn hmin, Option.some_or]
    all_goals rw [(checkInUse_none_iff s sp first count).mpr hn, Option.none_or]
    · exact checkValues_short s sp first count data hshort
    · exact checkValues_bad s sp first count data hwhole hj hbad hmin

end Sys2Proof.Machine
end

section
/-! SUPPORT. The sets a point takes: their calibration, their alignment, and the pairs handed to the framer (R51 to R58). -/

namespace Sys2Proof.Machine

/-! ## Calibrated sets (R52, R53, R55) -/

theorem needed_iff (need : Bool) (c : Option Int) : needed need c = true ↔ (need = true → c.isSome = true) := by
  cases need <;> simp [needed]

/-- A set is usable when each channel a side needs is valid, IN with use neutral on alone (R52). -/
theorem usableSet_iff (useNeutral vSide iSide : Bool) (r : RawSet) : usableSet useNeutral vSide iSide r = true ↔
    (vSide = true → r.chan.va.isSome = true ∧ r.chan.vb.isSome = true ∧ r.chan.vc.isSome = true) ∧
      (iSide = true → r.chan.ia.isSome = true ∧ r.chan.ib.isSome = true ∧ r.chan.ic.isSome = true ∧
        (useNeutral = true → r.chan.inn.isSome = true)) := by
  simp only [usableSet, Bool.and_eq_true, needed_iff]
  tauto

theorem calibrated_taken (taken : Bool) (c : Option Int) (g : Nat) : calibrated (if taken then c else none) g =
    if taken then (c.map fun raw => calibrate raw g).getD 0 else 0 := by
  cases taken <;> cases c <;> rfl

theorem clamps_taken (taken : Bool) (c : Option Int) (g : Nat) : clamps (if taken then c else none) g =
    (taken && (c.map fun raw => decide (calibrate raw g ≠ scaled raw g)).getD false) := by
  cases taken <;> cases c <;> rfl

/-- The number of values the clamp changed is the count of the channels it changed (R53). -/
theorem calibrateSet_count (cfg : PointCfg) (vSide iSide : Bool) (r : RawSet) : (calibrateSet cfg vSide iSide r).2 =
    ((takenChannels cfg.useNeutral vSide iSide r).zipWith clamps cfg.gains).toList.count true := by
  have hpred : (fun b : Bool => b == true) = id := funext fun b => by cases b <;> rfl
  rw [List.count_eq_length_filter, hpred]
  rfl

/-! ## Alignment (R56, R57) -/

/-- The partner entries before the arriving index go; what the next one is decides what becomes of the set. -/
theorem align_ways (own partner : List AlignEntry) (x : AlignEntry) :
    ∃ low rest, partner = low ++ rest ∧ (∀ y ∈ low, y.index < x.index) ∧ (∀ y ∈ rest.head?, x.index ≤ y.index) ∧
      (∀ y ys, rest = y :: ys → y.index = x.index →
        align own partner x = { own := own, partner := ys, unpaired := low.length, overflow := false, pairWith := some y }) ∧
      (∀ y ys, rest = y :: ys → x.index < y.index →
        align own partner x = { own := own, partner := rest, unpaired := low.length + 1, overflow := false, pairWith := none }) ∧
      (rest = [] → own.length < 16 →
        align own partner x = { own := own ++ [x], partner := [], unpaired := low.length, overflow := false, pairWith := none }) ∧
      (rest = [] → 16 ≤ own.length → align own partner x =
        { own := own.drop 1 ++ [x], partner := [], unpaired := low.length + 1, overflow := true, pairWith := none }) := by
  set older : AlignEntry → Bool := fun y => decide (y.index < x.index) with holder
  have hsplit : partner = partner.takeWhile older ++ partner.dropWhile older := List.takeWhile_append_dropWhile.symm
  have hlen : partner.length - (partner.dropWhile older).length = (partner.takeWhile older).length := by
    have := congrArg List.length hsplit
    rw [List.length_append] at this
    omega
  have hfirst : ∀ y ∈ (partner.dropWhile older).head?, x.index ≤ y.index := fun y hy => by
    have hnot := List.head?_dropWhile_not older partner
    rw [Option.mem_def.mp hy] at hnot
    simpa [holder] using hnot
  refine ⟨_, _, hsplit, fun y hy => by simpa [holder] using List.mem_takeWhile_imp hy, hfirst, fun y ys hr hy => ?_,
    fun y ys hr hy => ?_, fun hr hroom => ?_, fun hr hfull => ?_⟩ <;> rw [← hlen, align] <;> simp only [← holder, hr]
  · exact if_pos hy
  · exact if_neg (by omega)
  · exact if_pos hroom
  · exact if_neg (show ¬ own.length < 16 by omega)

/-- Every set and entry is in a queue, paired or counted UNPAIRED, and no queue grows past 16 (R55, R57). -/
theorem align_accounts (own partner : List AlignEntry) (x : AlignEntry) :
    own.length + partner.length + 1 = (align own partner x).own.length + (align own partner x).partner.length +
        (align own partner x).unpaired + (if (align own partner x).pairWith.isSome then 2 else 0) ∧
      (own.length ≤ 16 → (align own partner x).own.length ≤ 16) ∧ (align own partner x).partner.length ≤ partner.length := by
  obtain ⟨low, rest, hsplit, -, hfirst, hpair, hlater, hroom, hfull⟩ := align_ways own partner x
  have hlen : partner.length = low.length + rest.length := by rw [hsplit, List.length_append]
  cases rest with
  | nil =>
    rcases Nat.lt_or_ge own.length 16 with h | h
    · rw [hroom rfl h]
      simp_all; omega
    · rw [hfull rfl h]
      simp_all; omega
  | cons y ys =>
    rcases (hfirst y rfl).eq_or_lt with h | h
    · rw [hpair y ys rfl h.symm]
      simp_all; omega
    · rw [hlater y ys rfl h]
      simp_all; omega

/-! ## What a point makes of a set (R51 to R54, R58) -/

section Taken

variable (ctx : PointCtx) (p : Point)

/-- The set against the partner queue of its side. -/
def Point.aligned (vSide : Bool) (x : AlignEntry) : Aligned :=
  if vSide then align p.vQueue p.iQueue x else align p.iQueue p.vQueue x

theorem Point.alignSet_alone (vSide : Bool) (x : AlignEntry) (h : (p.aligned vSide x).pairWith = none) :
    p.alignSet ctx vSide x =
      (p.putAligned vSide (p.aligned vSide x), if (p.aligned vSide x).overflow then [.overflow] else []) := by
  rw [Point.aligned] at h ⊢
  simp only [Point.alignSet, h]

theorem Point.alignSet_pairs (vSide : Bool) (x y : AlignEntry) (h : (p.aligned vSide x).pairWith = some y) :
    p.alignSet ctx vSide x = (p.putAligned vSide (p.aligned vSide x)).paired ctx (joinSides x y) := by
  rw [Point.aligned] at h ⊢
  simp only [Point.alignSet, h]

/-- A point takes a set only while it is enabled with both sources LOCKED, on a side the slot feeds (R51). -/
theorem Point.offerSet_eq (k : Fin 32) (r : RawSet) : p.offerSet ctx k r =
    if p.cfg.enabled = true ∧ p.vLocked = true ∧ p.iLocked = true ∧
        (decide (p.cfg.vSlot = k) = true ∨ decide (p.cfg.iSlot = k) = true) then
      p.takeSet ctx (decide (p.cfg.vSlot = k)) (decide (p.cfg.iSlot = k)) r
    else (p, []) := by
  simp only [Point.offerSet, Point.bothLocked, Bool.and_eq_true, Bool.or_eq_true, and_assoc]

theorem Point.takeSet_invalid (vSide iSide : Bool) (r : RawSet) (h : ¬ usableSet p.cfg.useNeutral vSide iSide r = true) :
    p.takeSet ctx vSide iSide r = ({ p with pair := { p.pair with invalidSets := p.pair.invalidSets + 1 } }, []) :=
  if_pos (by simpa using h)

/-- The point with the values counted that the clamp changed (R53). -/
def Point.clampCounted (n : Nat) : Point :=
  { p with pair := { p.pair with clampValues := p.pair.clampValues + BitVec.ofNat 32 n } }

theorem Point.takeSet_usable (vSide iSide : Bool) (r : RawSet) (h : usableSet p.cfg.useNeutral vSide iSide r = true) :
    p.takeSet ctx vSide iSide r =
      if vSide && iSide then (p.clampCounted (calibrateSet p.cfg vSide iSide r).2).paired ctx
        { index := r.index, vals := (calibrateSet p.cfg vSide iSide r).1.vals, clamp := (calibrateSet p.cfg vSide iSide r).1.clamp }
      else (p.clampCounted (calibrateSet p.cfg vSide iSide r).2).alignSet ctx vSide (calibrateSet p.cfg vSide iSide r).1 :=
  if_neg (by simp [h])

end Taken

/-- Settles O19: alignment by what the partner's next entry is, taking by the validity of the channels, calibration channel by
channel. -/
theorem alignmentAccountsForEverySet : Obligations.AlignmentAccountsForEverySet := by
  refine ⟨fun own partner x => ⟨align_accounts own partner x, align_ways own partner x⟩, fun ctx vSide x p =>
    ⟨p.alignSet_alone ctx vSide x, p.alignSet_pairs ctx vSide x⟩, fun ctx k r p => ?_, fun cfg vSide iSide r => ?_⟩
  · intro x v c takes valid
    have hx : x = if takes then p.takeSet ctx v c r else (p, []) := p.offerSet_eq ctx k r
    have hvalid : usableSet p.cfg.useNeutral v c r = true ↔ valid := usableSet_iff p.cfg.useNeutral v c r
    refine ⟨fun hn => hx.trans (if_neg hn), fun ht hn => ?_, fun ht hok => ?_⟩
    · rw [hx, if_pos ht, p.takeSet_invalid ctx v c r (mt hvalid.mp hn)]
    · rw [hx, if_pos ht, p.takeSet_usable ctx v c r (hvalid.mpr hok)]
      intro y q
      refine ⟨fun hv hc => ?_, fun hv hc => ?_, fun hv hc => if_pos (by rw [hv, hc]; rfl)⟩
      · exact (if_neg (by simp [hc])).trans (congrArg (fun side => q.alignSet ctx side y.1) hv)
      · exact (if_neg (by simp [hv])).trans (congrArg (fun side => q.alignSet ctx side y.1) hv)
  · intro y value changed inn
    have hcount : y.2 = _ := calibrateSet_count cfg vSide iSide r
    refine ⟨rfl, calibrated_taken _ _ _, calibrated_taken _ _ _, calibrated_taken _ _ _, calibrated_taken _ _ _,
      calibrated_taken _ _ _, calibrated_taken _ _ _, calibrated_taken _ _ _, ?_, decide_eq_true_iff⟩
    rw [hcount]
    simp only [takenChannels, Seven.zipWith, Seven.toList, clamps_taken]
    rfl

end Sys2Proof.Machine
end

section
/-! SUPPORT. Cascades of reports: LEVEL conditions reported together stand when the cascade is done, and while no port is free
and no channel ARMED no record leaves the Record Queue (R11, R141 to R144, R155). -/

namespace Sys2Proof.Machine

/-! ## Reports taken together (R155) -/

/-- An entry takes its report: condition and detail (R155). -/
theorem AlertEntry.level_reports (r : LevelReport) (e : AlertEntry) :
    (e.level r).active = r.active ∧ (e.level r).detail = r.detail := by
  rw [AlertEntry.level]
  split
  · rename_i h
    simp only [Bool.and_eq_true] at h
    exact ⟨h.1.symm, rfl⟩
  · exact ⟨rfl, rfl⟩

/-- Of the reports stored in order, the one of source n stands when no later one is of n. -/
theorem foldl_level_reported {reports : List LevelReport} {r : LevelReport} (hr : r ∈ reports)
    (hdistinct : (reports.map (·.number)).Nodup) (d : Delivery) :
    (let e := (reports.foldl (fun d r => d.setAlert r.number ((d.alert r.number).level r)) d).alert r.number
     e.active = r.active ∧ e.detail = r.detail) := by
  induction reports generalizing d with
  | nil => exact absurd hr List.not_mem_nil
  | cons x reports ih =>
    rw [List.map_cons, List.nodup_cons] at hdistinct
    rcases List.mem_cons.mp hr with rfl | hr
    · have hlater := (recordLevels_untold reports r.number (d.setAlert r.number ((d.alert r.number).level r))
        fun y hy e => hdistinct.1 (e ▸ List.mem_map_of_mem hy)).1
      rw [recordLevels] at hlater
      rw [List.foldl_cons, hlater, Delivery.setAlert_alert_same]
      exact AlertEntry.level_reports r _
    · exact ih hr hdistinct.2 _

theorem recordLevels_tasks_untold (reports : List LevelReport) (n : Fin 20) (d : Delivery) :
    ∀ u ∈ (recordLevels reports d).2, ¬ u.tells n := by
  intro u hu
  rw [recordLevels] at hu
  rcases List.mem_append.mp hu with hu | hu
  · obtain ⟨x, -, hx⟩ := List.mem_flatMap.mp hu
    exact sourceTriggers_untold d x.number n u hx
  · obtain ⟨x, -, rfl⟩ := List.mem_map.mp hu
    exact id

/-- Reports of distinct sources, taken as a cascade of their own, each stand when it is done. -/
theorem State.run_levels_reported {reports : List LevelReport} (hdistinct : (reports.map (·.number)).Nodup) {r : LevelReport}
    (hr : r ∈ reports) (hn : OutsideCascade r.number) (s : State) :
    ((s.run [.levels reports]).dlv.alert r.number).active = r.active ∧
      ((s.run [.levels reports]).dlv.alert r.number).detail = r.detail := by
  have hnew : ∀ u ∈ follow (recordLevels reports s.dlv).2 [], ¬ u.tells r.number := fun u hu => by
    rw [mem_follow] at hu
    exact hu.elim (recordLevels_tasks_untold reports r.number s.dlv u) (fun h => absurd h List.not_mem_nil)
  obtain ⟨-, hact, hdet, -⟩ := settle_untold s.env r.number hn 4095 _ (recordLevels reports s.dlv).1 hnew
  obtain ⟨hact', hdet'⟩ := foldl_level_reported hr hdistinct s.dlv
  rw [run_cons]
  exact ⟨hact.trans hact', hdet.trans hdet'⟩

/-! ## The push side at rest -/

/-- No transmitter is free and no channel is ARMED, so that no record is removed (R11, R141). -/
def PushAtRest (d : Delivery) : Prop := (∀ o : Port, (d.port o).free = false) ∧ ∀ k : Fin 4, (d.channel k).st ≠ .armed

/-- The task makes no send attempt and leads to none while the push side is at rest. -/
def Task.atRest : Task → Prop
  | .attempt _ _ | .sent _ _ | .waitList _ | .freed _ => False
  | _ => True

theorem sourceTriggers_atRest (d : Delivery) (n : Fin 20) : ∀ u ∈ sourceTriggers d n, u.atRest := by
  intro u hu
  rw [sourceTriggers, List.mem_map] at hu
  obtain ⟨c, -, rfl⟩ := hu
  trivial

theorem intervalTriggers_atRest (d : Delivery) : ∀ u ∈ intervalTriggers d, u.atRest := by
  intro u hu
  rw [intervalTriggers, List.mem_map] at hu
  obtain ⟨c, -, rfl⟩ := hu
  trivial

theorem recordEdge_tasks_atRest (n : Fin 20) (detail : BitVec 32) (d : Delivery) :
    ∀ u ∈ (recordEdge n detail d).2, u.atRest := by
  rw [recordEdge]
  split
  · exact sourceTriggers_atRest d n
  · intro u hu
    rcases List.mem_append.mp hu with hu | hu
    · exact sourceTriggers_atRest d n u hu
    · rw [List.mem_singleton] at hu; subst hu; trivial

theorem recordLevels_tasks_atRest (reports : List LevelReport) (d : Delivery) : ∀ u ∈ (recordLevels reports d).2, u.atRest := by
  intro u hu
  rw [recordLevels] at hu
  rcases List.mem_append.mp hu with hu | hu
  · obtain ⟨r, -, hr⟩ := List.mem_flatMap.mp hu
    exact sourceTriggers_atRest d r.number u hr
  · obtain ⟨r, -, rfl⟩ := List.mem_map.mp hu
    trivial

/-- A trigger to a channel that is not ARMED makes no attempt and arms no channel (R141). -/
theorem takeTrigger_atRest (c : Fin 4) (d : Delivery) (h : ∀ k : Fin 4, (d.channel k).st ≠ .armed) :
    (takeTrigger c d).2 = [] ∧ ∀ k : Fin 4, ((takeTrigger c d).1.channel k).st ≠ .armed := by
  have stored (x : Channel) (hx : x.st = .sending) (k : Fin 4) : ((d.setChannel c x).channel k).st ≠ .armed := by
    by_cases e : k = c
    · subst e; rw [Delivery.setChannel_channel_same, hx]; decide
    · rw [Delivery.setChannel_channel_other d c k x e]; exact h k
  rw [takeTrigger]
  split
  · rename_i hst; exact absurd hst (h c)
  · rename_i hst
    split
    · exact ⟨rfl, h⟩
    · split <;> exact ⟨rfl, stored _ hst⟩
  · exact ⟨rfl, h⟩
  · exact ⟨rfl, h⟩

/-- The ports stay busy through any task. -/
theorem perform_busy (env : Env) (t : Task) (d : Delivery) (o : Port) (h : (d.port o).free = false) :
    ((perform env t d).1.port o).free = false := by
  rw [((perform_portMove env t d o).of_busy h).1]
  exact h

theorem perform_atRest (env : Env) (records : List IntervalRecord) (t : Task) (d : Delivery) (ht : t.atRest)
    (hd : PushAtRest d ∧ d.recq.records = records) :
    (PushAtRest (perform env t d).1 ∧ (perform env t d).1.recq.records = records) ∧ ∀ u ∈ (perform env t d).2, u.atRest := by
  obtain ⟨⟨hbusy, hidle⟩, hrec⟩ := hd
  have hports (o : Port) : ((perform env t d).1.port o).free = false := perform_busy env t d o (hbusy o)
  have kept (hc : (perform env t d).1.channels = d.channels) (hr : (perform env t d).1.recq = d.recq) :
      PushAtRest (perform env t d).1 ∧ (perform env t d).1.recq.records = records :=
    ⟨⟨hports, fun k => by rw [Delivery.channel, hc]; exact hidle k⟩, by rw [hr]; exact hrec⟩
  cases t with
  | edge n detail =>
    obtain ⟨hr, hc, -⟩ := recordEdge_frame n detail d
    exact ⟨kept hc hr, recordEdge_tasks_atRest n detail d⟩
  | levels reports =>
    exact ⟨kept (by rw [perform, recordLevels_eq]) (by rw [perform, recordLevels_eq]), recordLevels_tasks_atRest reports d⟩
  | queueHigh => exact ⟨kept rfl rfl, fun u hu => by rw [perform, List.mem_singleton] at hu; subst hu; trivial⟩
  | trigger c =>
    obtain ⟨hnone, harmed⟩ := takeTrigger_atRest c d hidle
    refine ⟨⟨⟨hports, harmed⟩, by rw [perform, takeTrigger_eq]; exact hrec⟩, fun u hu => ?_⟩
    rw [perform, hnone] at hu
    exact absurd hu List.not_mem_nil
  | offers p =>
    obtain ⟨hr, hc, -⟩ := offerOne_frame env p d
    refine ⟨kept hc hr, fun u hu => ?_⟩
    rcases offerOne_tasks env p d with h | h <;> rw [perform, h] at hu <;>
      simp only [List.mem_cons, List.not_mem_nil, or_false] at hu
    rcases hu with rfl | rfl <;> trivial
  | grant p =>
    refine ⟨kept ?_ ?_, fun u hu => ?_⟩
    · rw [perform, grant_busy env p d (hbusy p)]
    · rw [perform, grant_busy env p d (hbusy p)]
    · rw [perform, grant_busy env p d (hbusy p)] at hu
      exact absurd hu List.not_mem_nil
  | attempt _ _ => exact ht.elim
  | sent _ _ => exact ht.elim
  | waitList _ => exact ht.elim
  | freed _ => exact ht.elim

/-- Through such a cascade the push side stays at rest and the Record Queue keeps its records. -/
theorem State.run_atRest (ts : List Task) (ht : ∀ t ∈ ts, t.atRest) (s : State) (h : PushAtRest s.dlv) :
    PushAtRest (s.run ts).dlv ∧ (s.run ts).dlv.recq.records = s.dlv.recq.records :=
  settle_keeps s.env (fun d => PushAtRest d ∧ d.recq.records = s.dlv.recq.records) Task.atRest
    (perform_atRest s.env s.dlv.recq.records) cascadeBound ts s.dlv ht ⟨h, rfl⟩

end Sys2Proof.Machine
end

section
/-! SUPPORT. What a written configuration makes of a point: stored in force, enabled, or disabled (R48 to R50, R66, R81, R83). -/

namespace Sys2Proof.Machine

/-! ## A configuration put in force (R49, R81) -/

/-- Another V slot, I slot, use neutral or gain (R49, 1). -/
theorem bindingDiffers_iff (a b : PointCfg) : bindingDiffers a b = true ↔
    a.vSlot ≠ b.vSlot ∨ a.iSlot ≠ b.iSlot ∨ a.useNeutral ≠ b.useNeutral ∨ a.gains ≠ b.gains := by
  simp only [bindingDiffers, Bool.or_eq_true, decide_eq_true_eq, or_assoc]

/-- The tracker once a configuration is in force: nominal after a change of C or of the nominal frequency (R81). -/
def Tracker.under (old new : PointCfg) (t : Tracker) : Tracker :=
  if old.cycles ≠ new.cycles ∨ old.nominal ≠ new.nominal then nominalTracker new else t

section Apply

variable (ctx : PointCtx) (mark : Bool) (new : PointCfg) (p : Point)

/-- The point with the configuration, the change mark and the tracker of R49, its queues and source states as they were. -/
def Point.withCfg : Point :=
  { p with
    cfg := new, changeMark := p.changeMark || (mark && differsBeyondTan p.cfg new)
    framer := { p.framer with trk := p.framer.trk.under p.cfg new } }

theorem Point.applyCfg_point : (p.applyCfg ctx mark new).1 =
    if bindingDiffers p.cfg new then ((p.withCfg mark new).emptyQueues).takeSources ctx else p.withCfg mark new := by
  simp only [Point.applyCfg, Point.withCfg, Tracker.under, Bool.or_eq_true, decide_eq_true_eq]
  split <;> split <;> rfl

theorem untrackedEvents_self (t : Tracker) : untrackedEvents t t = [] := if_pos rfl

theorem Point.applyCfg_events : (p.applyCfg ctx mark new).2 = untrackedEvents p.framer.trk (p.framer.trk.under p.cfg new) := by
  simp only [Point.applyCfg, Tracker.under, Bool.or_eq_true, decide_eq_true_eq]
  split
  · split <;> rfl
  · exact (untrackedEvents_self _).symm

/-- With the untracked flag clear after it, an event reports the flag exactly when it was set (R80). -/
theorem untrackedEvents_cleared (a b : Tracker) (hb : b.untracked = false) :
    untrackedEvents a b = if a.untracked then [.untracked false] else [] := by
  rw [untrackedEvents, hb]
  cases a.untracked <;> rfl

end Apply

/-! ## Entry from WAITING (R66, R67) -/

/-- With both sources LOCKED a framer in WAITING begins a window, otherwise it stays as it is. -/
theorem Point.enterIfLocked_waiting (ctx : PointCtx) {p : Point} (h : p.framer.st = .waiting) :
    (¬ (p.vLocked = true ∧ p.iLocked = true) → p.enterIfLocked ctx = p) ∧
      (p.vLocked = true → p.iLocked = true → p.enterIfLocked ctx = p.beginWindow ctx p.framer.freeIx) := by
  have hboth : p.bothLocked = true ↔ p.vLocked = true ∧ p.iLocked = true := Bool.and_eq_true_iff
  rcases Point.enterIfLocked_cases ctx p with ⟨-, hl, heq⟩ | ⟨hn, heq⟩
  · exact ⟨fun hu => absurd (hboth.mp hl) hu, fun _ _ => heq⟩
  · exact ⟨fun _ => heq, fun hv hi => absurd ⟨h, hboth.mpr ⟨hv, hi⟩⟩ hn⟩

/-- The entry changes the framer and the change mark alone, and of the framer it keeps tracker, sequence and counters. -/
theorem Point.enterIfLocked_keeps (ctx : PointCtx) (p : Point) :
    p.enterIfLocked ctx =
        { p with framer := (p.enterIfLocked ctx).framer, changeMark := (p.enterIfLocked ctx).changeMark } ∧
      (p.enterIfLocked ctx).framer.trk = p.framer.trk ∧ (p.enterIfLocked ctx).framer.seq = p.framer.seq ∧
        (p.enterIfLocked ctx).framer.ctr = p.framer.ctr ∧
          (p.framer.st ≠ .disabled → (p.enterIfLocked ctx).framer.st ≠ .disabled) := by
  rcases Point.enterIfLocked_cases ctx p with ⟨-, -, heq⟩ | ⟨-, heq⟩
  · obtain ⟨hst, -, htrk, hseq, -⟩ := Point.beginWindow_framer ctx p.framer.freeIx p
    rw [heq]
    exact ⟨Point.beginWindow_frame ctx _ p, htrk, hseq, (Point.beginWindow_otherBank ctx _ p).2, fun _ => by rw [hst]; decide⟩
  · rw [heq]
    exact ⟨rfl, rfl, rfl, rfl, id⟩

/-! ## In force at once (R48, R49) -/

/-- Whatever the binding, configuration, change mark and framer follow R49, and nothing pending is touched. -/
theorem Point.applyCfg_stored (ctx : PointCtx) (mark : Bool) (new : PointCfg) (p : Point) :
    (p.applyCfg ctx mark new).1.cfg = new ∧ (p.applyCfg ctx mark new).1.waitingCfg = p.waitingCfg ∧
      (p.applyCfg ctx mark new).1.changeMark = (p.changeMark || (mark && differsBeyondTan p.cfg new)) ∧
        (p.applyCfg ctx mark new).1.framer = { p.framer with trk := p.framer.trk.under p.cfg new } := by
  rw [Point.applyCfg_point]
  split <;> exact ⟨rfl, rfl, rfl, rfl⟩

/-- Another binding empties the queues, counted UNPAIRED, and takes the source states afresh (R49, 1). -/
theorem Point.applyCfg_rebinds (ctx : PointCtx) (mark : Bool) (new : PointCfg) (p : Point)
    (h : bindingDiffers p.cfg new = true) : (p.applyCfg ctx mark new).1 = { p.withCfg mark new with
      vQueue := [], iQueue := []
      pair := { p.pair with unpaired := p.pair.unpaired + BitVec.ofNat 32 (p.vQueue.length + p.iQueue.length) }
      vLocked := ctx.locked new.vSlot, iLocked := ctx.locked new.iSlot } := by
  rw [Point.applyCfg_point, if_pos h]
  rfl

theorem Point.applyCfg_bound (ctx : PointCtx) (mark : Bool) (new : PointCfg) (p : Point)
    (h : ¬ bindingDiffers p.cfg new = true) : (p.applyCfg ctx mark new).1 = p.withCfg mark new := by
  rw [Point.applyCfg_point, if_neg h]

/-! ## Enabled (R50, R81) -/

/-- An enabled point in WAITING, short of the entry (R50). -/
def Point.enabledWith (ctx : PointCtx) (cfg : PointCfg) (p : Point) : Point :=
  { p with
    cfg := cfg, changeMark := true, vQueue := [], iQueue := []
    pair := { p.pair with unpaired := p.pair.unpaired + BitVec.ofNat 32 (p.vQueue.length + p.iQueue.length) }
    vLocked := ctx.locked cfg.vSlot, iLocked := ctx.locked cfg.iSlot
    framer := { p.framer with st := .waiting, trk := nominalTracker cfg } }

theorem Point.enable_eq (ctx : PointCtx) (cfg : PointCfg) (p : Point) : p.enable ctx cfg =
    ((p.enabledWith ctx cfg).enterIfLocked ctx, if p.framer.trk.untracked then [.untracked false] else []) :=
  congrArg (Prod.mk ((p.enabledWith ctx cfg).enterIfLocked ctx))
    (untrackedEvents_cleared p.framer.trk (nominalTracker cfg) rfl)

/-! ## Disabled (R50, R83, R104) -/

/-- A disabled point as its pairing and framing side leaves it (R50, R83); that R49 then takes the source states and the tracker
is the model's reading (notes/assumptions/18.md). -/
def Point.disabledWith (ctx : PointCtx) (cfg : PointCfg) (p : Point) : Point :=
  { p with
    cfg := cfg, waitingCfg := none, changeMark := false, vQueue := [], iQueue := []
    pair := { p.pair with unpaired := p.pair.unpaired + BitVec.ofNat 32 (p.vQueue.length + p.iQueue.length) }
    vLocked := if p.cfg.vSlot ≠ cfg.vSlot ∨ p.cfg.iSlot ≠ cfg.iSlot ∨ p.cfg.useNeutral ≠ cfg.useNeutral ∨
        p.cfg.gains ≠ cfg.gains then ctx.locked cfg.vSlot else p.vLocked
    iLocked := if p.cfg.vSlot ≠ cfg.vSlot ∨ p.cfg.iSlot ≠ cfg.iSlot ∨ p.cfg.useNeutral ≠ cfg.useNeutral ∨
        p.cfg.gains ≠ cfg.gains then ctx.locked cfg.iSlot else p.iLocked
    framer := { p.framer with
      st := .disabled, window := none, bank1 := p.framer.bank1.released, bank2 := p.framer.bank2.released
      trk := { p.framer.trk.under p.cfg cfg with untracked := false } }
    harmFlag := false, excessFlag := false }

/-- Queues that are empty already are emptied without a count. -/
theorem Point.emptyQueues_of_empty {p : Point} (hv : p.vQueue = []) (hi : p.iQueue = []) : p.emptyQueues = p := by
  cases p
  simp_all [Point.emptyQueues]

/-- The framing side of a disable, once the configuration is stored (R83). -/
def Point.shutDown (p : Point) : Point :=
  { p with
    waitingCfg := none, changeMark := false, harmFlag := false, excessFlag := false
    framer := { p.framer with
      st := .disabled, window := none, bank1 := p.framer.bank1.released, bank2 := p.framer.bank2.released
      trk := { p.framer.trk with untracked := false } } }

theorem Point.disable_eq (ctx : PointCtx) (cfg : PointCfg) (p : Point) :
    (p.disable ctx cfg).1 = (p.emptyQueues.applyCfg ctx false cfg).1.shutDown ∧
      (p.disable ctx cfg).2 = (p.emptyQueues.applyCfg ctx false cfg).2 ++
        untrackedEvents (p.emptyQueues.applyCfg ctx false cfg).1.framer.trk
          { (p.emptyQueues.applyCfg ctx false cfg).1.framer.trk with untracked := false } := ⟨rfl, rfl⟩

theorem Point.disable_point (ctx : PointCtx) (cfg : PointCfg) (p : Point) :
    (p.disable ctx cfg).1 = p.disabledWith ctx cfg := by
  rw [(Point.disable_eq ctx cfg p).1, Point.applyCfg_point, Point.disabledWith]
  have hempty : (p.emptyQueues.withCfg false cfg).emptyQueues = p.emptyQueues.withCfg false cfg :=
    Point.emptyQueues_of_empty rfl rfl
  have hcfg : p.emptyQueues.cfg = p.cfg := rfl
  rw [hempty, hcfg]
  simp only [← bindingDiffers_iff]
  cases bindingDiffers p.cfg cfg <;> rfl

/-- A disable reports the untracked flag when it clears it (R80, R83). -/
theorem Point.disable_events (ctx : PointCtx) (cfg : PointCfg) (p : Point) :
    (p.disable ctx cfg).2 = if p.framer.trk.untracked then [.untracked false] else [] := by
  have htrk : (p.emptyQueues.applyCfg ctx false cfg).1.framer.trk = p.framer.trk.under p.cfg cfg := by
    rw [Point.applyCfg_point]
    split <;> rfl
  have hstored : (p.emptyQueues.applyCfg ctx false cfg).2 = untrackedEvents p.framer.trk (p.framer.trk.under p.cfg cfg) :=
    Point.applyCfg_events ctx false cfg p.emptyQueues
  rw [(Point.disable_eq ctx cfg p).2, htrk, hstored, untrackedEvents_cleared (p.framer.trk.under p.cfg cfg) _ rfl, Tracker.under]
  split
  · rw [untrackedEvents_cleared _ _ rfl]
    exact List.append_nil _
  · rw [untrackedEvents_self]
    rfl

end Sys2Proof.Machine
end

section
/-! SUPPORT. A write of a POINT entry in the whole part: FREQ_UNTRACKED, the Finish Queue, the open interval and the conditions
(R48 to R50, R80, R95, R104, R123). -/

namespace Sys2Proof.Machine

/-! ## FREQ_UNTRACKED (R80) -/

theorem outsideCascade_of_lt {n : Fin 20} (h : n.val < 8) : OutsideCascade n := by
  unfold OutsideCascade
  exact ⟨fun e => by subst e; exact absurd h (by decide), fun c => by omega⟩

theorem pointFlagReport_tells (n : Fin 20) (points : Vector Point 24) (flag : Fin 24 → Point → Bool) :
    (pointFlagReport n points flag).number = n ∧
      (pointFlagReport n points flag).active =
        decide (mapOf (fun j : Fin 24 => points[j].cfg.enabled && flag j points[j]) ≠ 0) ∧
      (pointFlagReport n points flag).detail =
        BitVec.ofNat 32 (mapOf fun j : Fin 24 => points[j].cfg.enabled && flag j points[j]) := by
  rw [pointFlagReport]
  generalize (mapOf fun j : Fin 24 => points[j].cfg.enabled && flag j points[j]) = m
  exact ⟨rfl, rfl, rfl⟩

/-- The map of the untracked flags of the enabled points (R80). -/
def State.untrackedMap (t : State) : Nat :=
  mapOf fun j : Fin 24 => (t.point j).cfg.enabled && (t.point j).framer.trk.untracked

theorem untrackedTold_iff (t : State) : UntrackedTold t ↔
    (t.dlv.alert 4).active = decide (t.untrackedMap ≠ 0) ∧ (t.dlv.alert 4).detail = BitVec.ofNat 32 t.untrackedMap := Iff.rfl

/-- A report of the flags with that of point i clear tells them as they stand, when i's is clear. -/
theorem untrackedTold_run (t : State) (i : Fin 24) (h : (t.point i).framer.trk.untracked = false) :
    UntrackedTold (t.run [.levels [freqUntrackedAt t.points i false]]) := by
  have hflags : (fun j : Fin 24 => t.points[j].cfg.enabled && if j = i then false else t.points[j].framer.trk.untracked) =
      fun j : Fin 24 => (t.point j).cfg.enabled && (t.point j).framer.trk.untracked := funext fun j => by
    by_cases e : j = i
    · subst e; rw [if_pos rfl, h]; rfl
    · rw [if_neg e]; rfl
  obtain ⟨hnumber, hact, hdet⟩ := pointFlagReport_tells 4 t.points fun j p => if j = i then false else p.framer.trk.untracked
  rw [← freqUntrackedAt] at hnumber hact hdet
  obtain ⟨hact', hdet'⟩ := State.run_reported (freqUntrackedAt t.points i false)
    (by rw [hnumber]; exact outsideCascade_of_lt (by decide)) t
  rw [hnumber, hact, hflags, ← State.untrackedMap] at hact'
  rw [hnumber, hdet, hflags, ← State.untrackedMap] at hdet'
  have hmap : (t.run [.levels [freqUntrackedAt t.points i false]]).untrackedMap = t.untrackedMap := by
    simp only [State.untrackedMap, State.run_point]
  rw [untrackedTold_iff, hmap]
  exact ⟨hact', hdet'⟩

/-- What is told stays told while the entry keeps its report and the points their flags. -/
theorem untrackedTold_of_same {t u : State} (h : UntrackedTold t) (hr : SameReport (t.dlv.alert 4) (u.dlv.alert 4))
    (hp : ∀ j : Fin 24, ((u.point j).cfg.enabled && (u.point j).framer.trk.untracked) =
      ((t.point j).cfg.enabled && (t.point j).framer.trk.untracked)) : UntrackedTold u := by
  obtain ⟨-, hact, hdet, -⟩ := hr
  have hmap : u.untrackedMap = t.untrackedMap := by simp only [State.untrackedMap, hp]
  rw [untrackedTold_iff, hmap, hact, hdet]
  exact h

section ClearedFlag

variable {s : State} {i : Fin 24} {f : PointCtx → Point → PointStep} {q : Point}
  (hf : f s.ctx (s.point i) = (q, if (s.point i).framer.trk.untracked then [.untracked false] else []))

include hf

/-- A treatment that reports the flag it has cleared, and no more. -/
theorem State.onPoint_cleared : s.onPoint i f = if (s.point i).framer.trk.untracked then
    (s.setPoint i q).run [.levels [freqUntrackedAt (s.setPoint i q).points i false]] else s.setPoint i q := by
  rw [State.onPoint, hf]
  cases (s.point i).framer.trk.untracked <;> rfl

theorem State.onPoint_cleared_told (hq : q.framer.trk.untracked = false) (h : (s.point i).framer.trk.untracked = true) :
    UntrackedTold (s.onPoint i f) := by
  rw [State.onPoint_cleared hf, if_pos h]
  exact untrackedTold_run _ i (by rw [State.setPoint_point_same]; exact hq)

theorem State.onPoint_cleared_silent (h : (s.point i).framer.trk.untracked = false) : s.onPoint i f = s.setPoint i q := by
  rw [State.onPoint_cleared hf, if_neg (by simp [h])]

end ClearedFlag

/-- A treatment that hands no window over changes the points and the delivery side alone. -/
theorem State.onPoint_frame (i : Fin 24) (f : PointCtx → Point → PointStep) (s : State) (h : Quiet (f s.ctx (s.point i)).2) :
    s.onPoint i f = { s with points := (s.onPoint i f).points, dlv := (s.onPoint i f).dlv } := by
  have hframe := (State.onPoint_same i f s).eq
  rw [State.onPoint_finisher_of_quiet i f s h] at hframe
  exact hframe

/-! ## The Finish Queue entry of a disabled point (R95) -/

/-- The head entry is point i's and its finish is under way. -/
def Finisher.under (i : Fin 24) (f : Finisher) : Prop :=
  ∃ e rest, f.queue = e :: rest ∧ e.point = i ∧ f.active.isSome = true

section DropFinish

variable {s : State} {i : Fin 24}

theorem State.dropFinish_under (h : s.finisher.under i) : s.dropFinish i =
    { s with finisher := { s.finisher with active := s.finisher.active.map fun a => { a with abandoned := true } } } := by
  obtain ⟨e, rest, hq, he, ha⟩ := h
  obtain ⟨a, ha⟩ := Option.isSome_iff_exists.mp ha
  simp only [State.dropFinish, ha, hq, he, if_true]
  rfl

/-- Without a finish under way for the point, its waiting entry is searched in the whole queue. -/
theorem State.dropFinish_absent (hf : s.finisher.queue.find? (fun x => x.point = i) = none) :
    s.dropFinish i = s := by
  rw [State.dropFinish]
  split
  · rename_i a e rest ha hq
    rw [hq, List.find?_eq_none] at hf
    rw [if_neg (by simpa using hf e List.mem_cons_self), List.find?_eq_none.mpr fun x hx => hf x (List.mem_cons_of_mem e hx)]
  · rw [hf]
  · rfl

theorem State.dropFinish_waiting (h : ¬ s.finisher.under i) {x : FinishEntry}
    (hf : s.finisher.queue.find? (fun x => x.point = i) = some x) : s.dropFinish i =
      { s with finisher := { s.finisher with queue := s.finisher.queue.filter fun y => y.point ≠ i } }.setPoint i
        ((s.point i).freeBank x.bank) := by
  rw [State.dropFinish]
  split
  · rename_i a e rest ha hq
    have he : e.point ≠ i := fun he => h ⟨e, rest, hq, he, by rw [ha]; rfl⟩
    have hqueue : s.finisher.queue.filter (fun y => y.point ≠ i) = e :: rest.filter fun y => y.point ≠ i := by
      rw [hq, List.filter_cons_of_pos (by simpa using he)]
    rw [hq, List.find?_cons_of_neg (by simpa using he)] at hf
    rw [if_neg he, hf, hqueue]
  · rw [hf]
  · rename_i hq
    rw [hq] at hf
    cases hf

end DropFinish

/-! ### What the drop leaves of the point and of the queue -/

/-- Beyond the Finish Queue and the banks of the point, a drop changes nothing. -/
theorem State.dropFinish_frame (i : Fin 24) (s : State) :
    (s.dropFinish i).dlv = s.dlv ∧ SameBeyondPoints s (s.dropFinish i) ∧
      (∀ j : Fin 24, j ≠ i → (s.dropFinish i).point j = s.point j) ∧
        (s.dropFinish i).point i = { s.point i with framer := { (s.point i).framer with
          bank1 := ((s.dropFinish i).point i).framer.bank1, bank2 := ((s.dropFinish i).point i).framer.bank2 } } := by
  by_cases hu : s.finisher.under i
  · rw [State.dropFinish_under hu]
    exact ⟨rfl, ⟨rfl, rfl, rfl, rfl, rfl, rfl, rfl, rfl⟩, fun _ _ => rfl, rfl⟩
  · cases hf : s.finisher.queue.find? (fun x => x.point = i) with
    | none =>
      rw [State.dropFinish_absent hf]
      exact ⟨rfl, .refl s, fun _ _ => rfl, rfl⟩
    | some x =>
      rw [State.dropFinish_waiting hu hf]
      refine ⟨rfl, ⟨rfl, rfl, rfl, rfl, rfl, rfl, rfl, rfl⟩, fun j hj => State.setPoint_point_other _ i j _ hj, ?_⟩
      rw [State.setPoint_point_same]
      cases x.bank <;> rfl

/-- A bank of the point stays or becomes FREE. -/
theorem State.dropFinish_bank (i : Fin 24) (s : State) (ix : BankIx) :
    ((s.dropFinish i).point i).framer.bank ix = (s.point i).framer.bank ix ∨
      ((s.dropFinish i).point i).framer.bank ix = .free := by
  by_cases hu : s.finisher.under i
  · rw [State.dropFinish_under hu]
    exact .inl rfl
  · cases hf : s.finisher.queue.find? (fun x => x.point = i) with
    | none =>
      rw [State.dropFinish_absent hf]
      exact .inl rfl
    | some x =>
      rw [State.dropFinish_waiting hu hf, State.setPoint_point_same]
      rcases BankIx.eq_or_other x.bank ix with rfl | rfl
      · exact .inr (Framer.setBank_bank_same _ _ _)
      · exact .inl (Framer.setBank_bank_other _ _ _)

/-- A finish under way is abandoned and its bank stays OUT (R95). -/
theorem State.dropFinish_abandons {i : Fin 24} {s : State} (hu : s.finisher.under i) :
    (s.dropFinish i).finisher =
        { s.finisher with active := s.finisher.active.map fun a => { a with abandoned := true } } ∧
      (s.dropFinish i).point i = s.point i := by
  rw [State.dropFinish_under hu]
  exact ⟨rfl, rfl⟩

/-- A waiting entry leaves the queue, the entries of other points stay, and its bank alone becomes FREE (R95). -/
theorem State.dropFinish_removes {i : Fin 24} {s : State} (hu : ¬ s.finisher.under i) :
    (let t := s.dropFinish i
     let f := s.finisher
     t.finisher = { f with queue := t.finisher.queue } ∧ (∀ e ∈ t.finisher.queue, e.point ≠ i) ∧
       t.finisher.queue.filter (fun e => e.point ≠ i) = (f.queue.filter fun e => e.point ≠ i) ∧
       (∀ e ∈ f.queue, e.point = i → (∀ x ∈ f.queue, x.point = i → x = e) → (t.point i).framer.bank e.bank = .free) ∧
       ∀ ix, (∀ e ∈ f.queue, e.point = i → e.bank ≠ ix) → (t.point i).framer.bank ix = (s.point i).framer.bank ix) := by
  cases hf : s.finisher.queue.find? (fun x => x.point = i) with
  | none =>
    have hnone : ∀ e ∈ s.finisher.queue, e.point ≠ i := by simpa using hf
    rw [State.dropFinish_absent hf]
    exact ⟨rfl, hnone, rfl, fun e he hi => absurd hi (hnone e he), fun _ _ => rfl⟩
  | some x =>
    have hx := List.mem_of_find?_eq_some hf
    have hxi : x.point = i := by simpa using List.find?_some hf
    rw [State.dropFinish_waiting hu hf]
    simp only [State.setPoint_point_same]
    refine ⟨rfl, fun e he => by simpa using (List.mem_filter.mp he).2, ?_, fun e _ _ honly => ?_, fun ix hix => ?_⟩
    · rw [State.setPoint_finisher, List.filter_filter]
      simp only [Bool.and_self]
    · rw [← honly x hx hxi]
      exact Framer.setBank_bank_same _ _ _
    · rcases BankIx.eq_or_other x.bank ix with rfl | rfl
      · exact absurd rfl (hix x hx hxi)
      · exact Framer.setBank_bank_other _ _ _

/-- A window given up leaves no bank ACTIVE, and the OUT banks as they are (R83). -/
theorem Bank.released_spec (b : Bank) :
    (∀ x, b.released ≠ .active x) ∧ ∀ x, b = .out x → b.released = .out x := by
  cases b <;> simp [Bank.released]

/-! ## The close of the open interval (R123) -/

/-- The record of a close reads the accumulators and the interval alone. -/
theorem buildRecord_congr {p q : Point} (ha : q.acc = p.acc) (hv : q.ivl = p.ivl) (i : Fin 24) (reconfigured timeStep cut : Bool)
    (f : OpenFields) : buildRecord i reconfigured timeStep cut f q = buildRecord i reconfigured timeStep cut f p := by
  simp only [buildRecord, ha, hv]

/-- A close is the same whatever the rest of the point, which it leaves as it is. -/
theorem Point.closeNow_congr {p q : Point} (ha : q.acc = p.acc) (hv : q.ivl = p.ivl) (hu : q.iau = p.iau) (i : Fin 24) (cut : Bool)
    (room : Nat) : (q.closeNow i cut room).2 = (p.closeNow i cut room).2 ∧
      (q.closeNow i cut room).1 = { q with
        acc := (p.closeNow i cut room).1.acc, ivl := (p.closeNow i cut room).1.ivl, iau := (p.closeNow i cut room).1.iau } := by
  cases hf : p.ivl.fields with
  | none =>
    have hf' : q.ivl.fields = none := by rw [hv]; exact hf
    simp only [Point.closeNow, hf, hf', ← ha, ← hu, and_self]
  | some f =>
    have hf' : q.ivl.fields = some f := by rw [hv]; exact hf
    simp only [Point.closeNow, hf, hf', buildRecord_congr ha hv]
    split
    · exact ⟨rfl, by simp only [Point.afterClose, ha, hu]⟩
    · exact ⟨rfl, by simp only [Point.afterDiscardedInterval, ha, hu]⟩

theorem Point.closeNow_ivl (i : Fin 24) (cut : Bool) (room : Nat) (p : Point) : (p.closeNow i cut room).1.ivl = .empty := by
  cases hf : p.ivl.fields with
  | none => simp only [Point.closeNow, hf]
  | some f =>
    simp only [Point.closeNow, hf]
    split <;> rfl

section AppendIf

variable (i : Fin 24) (o : Option IntervalRecord) (s : State)

theorem State.appendIf_appended : (s.appendIf i o).dlv.recq.appended = s.dlv.recq.appended + (if o.isSome then 1 else 0) := by
  cases o with
  | none => simp [State.appendIf]
  | some r => exact (run_recq _ _).2

/-- An append tells of QUEUE_HIGH and INTERVAL_CLOSED alone (R121, R131). -/
theorem State.appendIf_sameReport {n : Fin 20} (hn : n.val < 7) :
    SameReport (s.dlv.alert n) ((s.appendIf i o).dlv.alert n) := by
  cases o with
  | none => exact .refl _
  | some r =>
    refine State.run_untold n (outsideCascade_of_lt (by omega)) _ { s with dlv := { s.dlv with recq := s.dlv.recq.append r } }
      fun t ht => ?_
    rcases List.mem_append.mp ht with ht | ht
    · simp only [List.mem_cons, List.not_mem_nil, or_false] at ht
      rcases ht with rfl | rfl
      · exact id
      · intro e
        rw [Task.tells] at e
        subst e
        exact absurd hn (by decide)
    · rw [intervalTriggers, List.mem_map] at ht
      obtain ⟨c, -, rfl⟩ := ht
      exact id

/-- With the push side at rest the record stays at the tail of the queue. -/
theorem State.appendIf_atRest (h : PushAtRest s.dlv) :
    PushAtRest (s.appendIf i o).dlv ∧ (s.appendIf i o).dlv.recq.records = s.dlv.recq.records ++ o.toList := by
  cases o with
  | none => exact ⟨h, (List.append_nil _).symm⟩
  | some r =>
    refine State.run_atRest _ (fun t ht => ?_) { s with dlv := { s.dlv with recq := s.dlv.recq.append r } } h
    rcases List.mem_append.mp ht with ht | ht
    · simp only [List.mem_cons, List.not_mem_nil, or_false] at ht
      rcases ht with rfl | rfl <;> trivial
    · exact intervalTriggers_atRest _ t ht

end AppendIf

/-! ## HARMONIC_LIMIT and REACTIVE_EXCESS (R104) -/

theorem harmonicReport_number (points : Vector Point 24) : (harmonicReport points).number = 5 := rfl

theorem excessReport_number (points : Vector Point 24) : (excessReport points).number = 6 := rfl

/-- An update tells of these two sources alone. -/
theorem State.updateConditions_sameReport (s : State) {n : Fin 20} (hn : n.val < 5) :
    SameReport (s.dlv.alert n) (s.updateConditions.dlv.alert n) := by
  refine State.run_untold n (outsideCascade_of_lt (by omega)) _ s fun t ht => ?_
  rw [List.mem_singleton] at ht
  subst ht
  rintro ⟨r, hr, e⟩
  simp only [List.mem_cons, List.not_mem_nil, or_false] at hr
  rcases hr with rfl | rfl
  · rw [harmonicReport_number] at e; omega
  · rw [excessReport_number] at e; omega

/-- Both conditions tell the flags of the enabled points once they are updated (R104). -/
theorem State.updateConditions_told (s : State) {n : Fin 20} (hn : n = 5 ∨ n = 6) :
    (let m := mapOf fun j : Fin 24 => (s.point j).cfg.enabled &&
       (if n = 5 then (s.point j).harmFlag else (s.point j).excessFlag)
     (s.updateConditions.dlv.alert n).active = decide (m ≠ 0) ∧
       (s.updateConditions.dlv.alert n).detail = BitVec.ofNat 32 m) := by
  have hdistinct : ([harmonicReport s.points, excessReport s.points].map (·.number)).Nodup :=
    show ([5, 6] : List (Fin 20)).Nodup by decide
  have told {r : LevelReport} (hr : r ∈ [harmonicReport s.points, excessReport s.points]) (h : r.number.val < 8) :=
    State.run_levels_reported hdistinct hr (outsideCascade_of_lt h) s
  rw [← State.updateConditions] at told
  rcases hn with rfl | rfl
  · obtain ⟨hnumber, hact, hdet⟩ := pointFlagReport_tells 5 s.points fun _ p => p.harmFlag
    rw [← harmonicReport] at hnumber hact hdet
    obtain ⟨hact', hdet'⟩ := told (r := harmonicReport s.points) (by simp) (by rw [hnumber]; decide)
    rw [hnumber, hact] at hact'
    rw [hnumber, hdet] at hdet'
    exact ⟨hact', hdet'⟩
  · obtain ⟨hnumber, hact, hdet⟩ := pointFlagReport_tells 6 s.points fun _ p => p.excessFlag
    rw [← excessReport] at hnumber hact hdet
    obtain ⟨hact', hdet'⟩ := told (r := excessReport s.points) (by simp) (by rw [hnumber]; decide)
    rw [hnumber, hact] at hact'
    rw [hnumber, hdet] at hdet'
    exact ⟨hact', hdet'⟩

end Sys2Proof.Machine
end

section
/-! SUPPORT. A disable of a point stage by stage, and the write of a POINT entry by the framer state (R48 to R50, R83, R95, R104,
R123). -/

namespace Sys2Proof.Machine

/-! ## The stages of a disable -/

section Disable

variable (s : State) (i : Fin 24) (c : PointCfg)

/-- The state after the pairing and framing side of a disable (R50, R83). -/
def State.framingDisabled : State := s.onPoint i fun ctx => Point.disable ctx c

/-- The state after the point's Finish Queue entry is dropped too (R95). -/
def State.entryDropped : State := (s.framingDisabled i c).dropFinish i

/-- The room the close of the open interval finds (R123; notes/assumptions/42.md). -/
def State.closeRoom : Nat := (s.entryDropped i c).dlv.recq.freeWords

/-- The state after the open interval is closed too (R123). -/
def State.intervalClosed : State := (s.entryDropped i c).closeInterval i false

theorem State.disablePoint_eq : s.disablePoint i c = (s.intervalClosed i c).updateConditions := rfl

theorem State.disable_step : Point.disable s.ctx c (s.point i) = ((s.point i).disabledWith s.ctx c,
    if (s.point i).framer.trk.untracked then [.untracked false] else []) :=
  Prod.ext (Point.disable_point s.ctx c (s.point i)) (Point.disable_events s.ctx c (s.point i))

theorem quiet_cleared (b : Bool) : Quiet (if b then [.untracked false] else []) := by
  cases b <;> simp [Quiet]

/-! ### The framing side -/

theorem State.framingDisabled_point : (s.framingDisabled i c).point i = (s.point i).disabledWith s.ctx c := by
  rw [State.framingDisabled, State.onPoint_point_same]
  exact Point.disable_point s.ctx c (s.point i)

theorem State.framingDisabled_finisher : (s.framingDisabled i c).finisher = s.finisher :=
  State.onPoint_finisher_of_quiet i _ s (by rw [State.disable_step]; exact quiet_cleared _)

theorem State.framingDisabled_dlv : (s.framingDisabled i c).dlv =
    if (s.point i).framer.trk.untracked then ((s.setPoint i ((s.point i).disabledWith s.ctx c)).run
      [.levels [freqUntrackedAt (s.setPoint i ((s.point i).disabledWith s.ctx c)).points i false]]).dlv else s.dlv := by
  rw [State.framingDisabled, State.onPoint_cleared (f := fun ctx => Point.disable ctx c) (s.disable_step i c)]
  split <;> rfl

/-- The report of FREQ_UNTRACKED appends no record, and frees room if anything. -/
theorem State.framingDisabled_recq : (s.framingDisabled i c).dlv.recq.appended = s.dlv.recq.appended ∧
    s.dlv.recq.freeWords ≤ (s.framingDisabled i c).dlv.recq.freeWords := by
  rw [State.framingDisabled_dlv]
  split
  · exact ⟨(run_recq _ _).2, Nat.sub_le_sub_left (run_words_le (s.setPoint i _) _) _⟩
  · exact ⟨rfl, le_rfl⟩

theorem State.framingDisabled_atRest (h : PushAtRest s.dlv) : PushAtRest (s.framingDisabled i c).dlv ∧
    (s.framingDisabled i c).dlv.recq.records = s.dlv.recq.records := by
  rw [State.framingDisabled_dlv]
  split
  · exact State.run_atRest _ (fun t ht => by rw [List.mem_singleton] at ht; subst ht; trivial) (s.setPoint i _) h
  · exact ⟨h, rfl⟩

/-! ### The Finish Queue entry and the interval -/

theorem State.entryDropped_dlv : (s.entryDropped i c).dlv = (s.framingDisabled i c).dlv :=
  (State.dropFinish_frame i (s.framingDisabled i c)).1

/-- The point after the framing side, but for the bank its dropped entry frees. -/
theorem State.entryDropped_point : (s.entryDropped i c).point i =
    { (s.point i).disabledWith s.ctx c with framer := { ((s.point i).disabledWith s.ctx c).framer with
      bank1 := ((s.entryDropped i c).point i).framer.bank1, bank2 := ((s.entryDropped i c).point i).framer.bank2 } } := by
  obtain ⟨-, -, -, hpoint⟩ := State.dropFinish_frame i (s.framingDisabled i c)
  rw [State.framingDisabled_point] at hpoint
  exact hpoint

theorem State.intervalClosed_eq : s.intervalClosed i c =
    ((s.entryDropped i c).setPoint i (((s.entryDropped i c).point i).closeNow i false (s.closeRoom i c)).1).appendIf i
      (((s.entryDropped i c).point i).closeNow i false (s.closeRoom i c)).2 := rfl

/-- The close is that of the point as it was before the disable: nothing before it touches what it reads. -/
theorem State.disable_close : (((s.entryDropped i c).point i).closeNow i false (s.closeRoom i c)).2 =
      ((s.point i).closeNow i false (s.closeRoom i c)).2 ∧
    (((s.entryDropped i c).point i).closeNow i false (s.closeRoom i c)).1 = { (s.entryDropped i c).point i with
      acc := ((s.point i).closeNow i false (s.closeRoom i c)).1.acc
      ivl := ((s.point i).closeNow i false (s.closeRoom i c)).1.ivl
      iau := ((s.point i).closeNow i false (s.closeRoom i c)).1.iau } := by
  have hpoint := s.entryDropped_point i c
  exact Point.closeNow_congr (by rw [hpoint]; rfl) (by rw [hpoint]; rfl) (by rw [hpoint]; rfl) i false _

/-! ### The whole disable -/

theorem State.disablePoint_points : (s.disablePoint i c).points = (s.intervalClosed i c).points := by
  rw [State.disablePoint_eq, State.updateConditions_points]

theorem State.intervalClosed_point : (s.intervalClosed i c).point i =
    (((s.entryDropped i c).point i).closeNow i false (s.closeRoom i c)).1 := by
  rw [State.intervalClosed_eq, State.appendIf_eq]
  exact State.setPoint_point_same _ i _

theorem State.disablePoint_point : (s.disablePoint i c).point i = { (s.entryDropped i c).point i with
      acc := ((s.point i).closeNow i false (s.closeRoom i c)).1.acc
      ivl := ((s.point i).closeNow i false (s.closeRoom i c)).1.ivl
      iau := ((s.point i).closeNow i false (s.closeRoom i c)).1.iau } := by
  rw [State.point_congr (s.disablePoint_points i c), State.intervalClosed_point, (s.disable_close i c).2]

/-- The banks the disable leaves are those its dropped entry leaves. -/
theorem State.disablePoint_bank (ix : BankIx) :
    ((s.disablePoint i c).point i).framer.bank ix = ((s.entryDropped i c).point i).framer.bank ix := by
  rw [State.disablePoint_point]

theorem State.disablePoint_other (j : Fin 24) (h : j ≠ i) : (s.disablePoint i c).point j = s.point j := by
  obtain ⟨-, -, hother, -⟩ := State.dropFinish_frame i (s.framingDisabled i c)
  rw [State.point_congr (s.disablePoint_points i c), State.intervalClosed_eq, State.appendIf_eq]
  exact (State.setPoint_point_other _ i j _ h).trans ((hother j h).trans (State.onPoint_point_other i j _ s h))

theorem State.disablePoint_finisher : (s.disablePoint i c).finisher = (s.entryDropped i c).finisher := by
  rw [State.disablePoint_eq, State.updateConditions_finisher, State.intervalClosed_eq, State.appendIf_eq]
  rfl

theorem State.disablePoint_same : SameBeyondPoints s (s.disablePoint i c) := by
  obtain ⟨-, hdrop, -, -⟩ := State.dropFinish_frame i (s.framingDisabled i c)
  refine ((State.onPoint_same i _ s).trans hdrop).trans (SameBeyondPoints.trans (t := s.intervalClosed i c) ?_ (State.run_same _ _))
  rw [State.intervalClosed_eq, State.appendIf_eq]
  exact ⟨rfl, rfl, rfl, rfl, rfl, rfl, rfl, rfl⟩

/-- No bank is left ACTIVE, and a bank the drop leaves alone keeps a window that is OUT (R83, R95). -/
theorem State.disablePoint_banks (ix : BankIx) (b : BankSums) :
    ((s.disablePoint i c).point i).framer.bank ix ≠ .active b ∧
      (((s.entryDropped i c).point i).framer.bank ix = ((s.framingDisabled i c).point i).framer.bank ix →
        (s.point i).framer.bank ix = .out b → ((s.disablePoint i c).point i).framer.bank ix = .out b) := by
  have hreleased : ((s.framingDisabled i c).point i).framer.bank ix = ((s.point i).framer.bank ix).released := by
    rw [State.framingDisabled_point]
    cases ix <;> rfl
  obtain ⟨hactive, hout⟩ := Bank.released_spec ((s.point i).framer.bank ix)
  rw [State.disablePoint_bank, hreleased]
  refine ⟨?_, fun h hb => h.trans (hout b hb)⟩
  rcases State.dropFinish_bank i (s.framingDisabled i c) ix with h | h <;> rw [State.entryDropped, h]
  · rw [hreleased]; exact hactive b
  · exact fun e => by cases e

theorem State.intervalClosed_dlv : (s.intervalClosed i c).dlv =
    (((s.entryDropped i c).setPoint i (((s.entryDropped i c).point i).closeNow i false (s.closeRoom i c)).1).appendIf i
      ((s.point i).closeNow i false (s.closeRoom i c)).2).dlv := by
  rw [State.intervalClosed_eq, (s.disable_close i c).1]

theorem State.disablePoint_appended : (s.disablePoint i c).dlv.recq.appended = s.dlv.recq.appended +
    (if ((s.point i).closeNow i false (s.closeRoom i c)).2.isSome then 1 else 0) := by
  rw [State.disablePoint_eq, State.updateConditions, (run_recq _ _).2, State.intervalClosed_dlv, State.appendIf_appended,
    State.setPoint_dlv, State.entryDropped_dlv, (s.framingDisabled_recq i c).1]

theorem State.disablePoint_records (h : PushAtRest s.dlv) : (s.disablePoint i c).dlv.recq.records =
    s.dlv.recq.records ++ ((s.point i).closeNow i false (s.closeRoom i c)).2.toList := by
  obtain ⟨hrest, hrecords⟩ := s.framingDisabled_atRest i c h
  rw [← State.entryDropped_dlv] at hrest hrecords
  obtain ⟨hrest', hrecords'⟩ := State.appendIf_atRest i ((s.point i).closeNow i false (s.closeRoom i c)).2
    ((s.entryDropped i c).setPoint i (((s.entryDropped i c).point i).closeNow i false (s.closeRoom i c)).1) hrest
  rw [← State.intervalClosed_dlv] at hrest' hrecords'
  obtain ⟨-, hkept⟩ := State.run_atRest [.levels [harmonicReport (s.intervalClosed i c).points,
    excessReport (s.intervalClosed i c).points]] (fun t ht => by rw [List.mem_singleton] at ht; subst ht; trivial) _ hrest'
  rw [State.disablePoint_eq, State.updateConditions, hkept, hrecords', State.setPoint_dlv, hrecords]

theorem State.closeRoom_bounds : s.dlv.recq.freeWords ≤ s.closeRoom i c ∧ s.closeRoom i c ≤ Config.queueWords ∧
    ((s.point i).framer.trk.untracked = false → s.closeRoom i c = s.dlv.recq.freeWords) := by
  rw [State.closeRoom, State.entryDropped_dlv]
  refine ⟨(s.framingDisabled_recq i c).2, Nat.sub_le _ _, fun h => ?_⟩
  rw [State.framingDisabled_dlv, if_neg (by simp [h])]

/-- What follows the framing side tells nothing of FREQ_UNTRACKED. -/
theorem State.disablePoint_untold : SameReport ((s.framingDisabled i c).dlv.alert 4) ((s.disablePoint i c).dlv.alert 4) := by
  have hclose := State.appendIf_sameReport i ((s.point i).closeNow i false (s.closeRoom i c)).2
    ((s.entryDropped i c).setPoint i (((s.entryDropped i c).point i).closeNow i false (s.closeRoom i c)).1) (n := 4) (by decide)
  rw [← State.intervalClosed_dlv, State.setPoint_dlv, State.entryDropped_dlv] at hclose
  exact hclose.trans (State.updateConditions_sameReport _ (by decide))

theorem State.disablePoint_flags (j : Fin 24) :
    (((s.disablePoint i c).point j).cfg.enabled && ((s.disablePoint i c).point j).framer.trk.untracked) =
      (((s.framingDisabled i c).point j).cfg.enabled && ((s.framingDisabled i c).point j).framer.trk.untracked) := by
  by_cases e : j = i
  · subst e
    rw [State.disablePoint_point, State.entryDropped_point, State.framingDisabled_point]
  · rw [State.disablePoint_other s i c j e, State.framingDisabled, State.onPoint_point_other i j _ s e]

theorem State.disablePoint_untracked :
    ((s.point i).framer.trk.untracked = true → UntrackedTold (s.disablePoint i c)) ∧
      ((s.point i).framer.trk.untracked = false →
        ((s.disablePoint i c).dlv.alert 4).active = (s.dlv.alert 4).active ∧
          ((s.disablePoint i c).dlv.alert 4).detail = (s.dlv.alert 4).detail) := by
  have huntold := s.disablePoint_untold i c
  refine ⟨fun h => ?_, fun h => ?_⟩
  · have htold : UntrackedTold (s.framingDisabled i c) :=
      State.onPoint_cleared_told (f := fun ctx => Point.disable ctx c) (s.disable_step i c) rfl h
    exact untrackedTold_of_same htold huntold (s.disablePoint_flags i c)
  · obtain ⟨-, hact, hdet, -⟩ := huntold
    rw [State.framingDisabled_dlv, if_neg (by simp [h])] at hact hdet
    exact ⟨hact, hdet⟩

theorem State.disablePoint_conditions {n : Fin 20} (hn : n = 5 ∨ n = 6) :
    (let m := mapOf fun j : Fin 24 => ((s.disablePoint i c).point j).cfg.enabled &&
       (if n = 5 then ((s.disablePoint i c).point j).harmFlag else ((s.disablePoint i c).point j).excessFlag)
     ((s.disablePoint i c).dlv.alert n).active = decide (m ≠ 0) ∧
       ((s.disablePoint i c).dlv.alert n).detail = BitVec.ofNat 32 m) := by
  have htold := State.updateConditions_told (s.intervalClosed i c) hn
  rw [← State.disablePoint_eq] at htold
  simp only [State.point_congr (s.disablePoint_points i c)]
  exact htold

end Disable

/-! ## The write by the framer state (R48) -/

section Write

variable {s : State} {i : Fin 24} {c : PointCfg}

theorem State.writePoint_pending (hst : (s.point i).framer.st = .collecting ∨ (s.point i).framer.st = .held)
    (hc : c.enabled = true) : s.writePoint i.val c = s.setPoint i { s.point i with waitingCfg := some c } := by
  have hquiet : s.onPoint i (fun _ => Point.storePending c) = s.setPoint i { s.point i with waitingCfg := some c } :=
    State.onPoint_quiet i _ s rfl
  rcases hst with hst | hst <;> simp only [State.writePoint, toIndex_val, hst, hc, hquiet]

theorem State.writePoint_storeNow (h : (s.point i).framer.st = .waiting ∧ c.enabled = true ∨
    (s.point i).framer.st = .disabled ∧ c.enabled = false) :
    s.writePoint i.val c = s.onPoint i fun ctx => Point.storeNow ctx c := by
  rcases h with ⟨hst, hc⟩ | ⟨hst, hc⟩ <;> simp only [State.writePoint, toIndex_val, hst, hc]

theorem State.writePoint_enable (hst : (s.point i).framer.st = .disabled) (hc : c.enabled = true) :
    s.writePoint i.val c = s.onPoint i fun ctx => Point.enable ctx c := by
  simp only [State.writePoint, toIndex_val, hst, hc]

theorem State.writePoint_disable (hst : (s.point i).framer.st ≠ .disabled) (hc : c.enabled = false) :
    s.writePoint i.val c = s.disablePoint i c := by
  cases h : (s.point i).framer.st with
  | disabled => exact absurd h hst
  | waiting => simp only [State.writePoint, toIndex_val, h, hc]
  | collecting => simp only [State.writePoint, toIndex_val, h, hc]
  | held => simp only [State.writePoint, toIndex_val, h, hc]

end Write

/-! ## The clauses of the statement -/

/-- A configuration stored in WAITING (R49, R66, R81). -/
theorem writePoint_waiting (s : State) (i : Fin 24) (c : PointCfg) (hst : (s.point i).framer.st = .waiting)
    (hc : c.enabled = true) :
    (let o := s.point i
     let t := s.writePoint i.val c
     let p := t.point i
     let rebinds := o.cfg.vSlot ≠ c.vSlot ∨ o.cfg.iSlot ≠ c.iSlot ∨ o.cfg.useNeutral ≠ c.useNeutral ∨ o.cfg.gains ≠ c.gains
     let mark := o.changeMark || decide ({ o.cfg with tanLimit := c.tanLimit } ≠ c)
     p.cfg = c ∧ p.waitingCfg = o.waitingCfg ∧
     (rebinds → p.vQueue = [] ∧ p.iQueue = [] ∧
       p.pair.unpaired = o.pair.unpaired + BitVec.ofNat 32 (o.vQueue.length + o.iQueue.length) ∧
       (p.vLocked = true ↔ (s.slot c.vSlot).st = .locked) ∧ (p.iLocked = true ↔ (s.slot c.iSlot).st = .locked)) ∧
     (¬ rebinds → p.vQueue = o.vQueue ∧ p.iQueue = o.iQueue ∧ p.pair = o.pair ∧ p.vLocked = o.vLocked ∧
       p.iLocked = o.iLocked) ∧
     p.framer.trk = (if o.cfg.cycles ≠ c.cycles ∨ o.cfg.nominal ≠ c.nominal then nominalTracker c else o.framer.trk) ∧
     (¬ (p.vLocked = true ∧ p.iLocked = true) → p.framer.st = .waiting ∧ p.changeMark = mark ∧
       p.framer = { o.framer with trk := p.framer.trk }) ∧
     (p.vLocked = true → p.iLocked = true →
       WindowBegun s.ctx (if o.framer.bank1 = .free then .first else .second) mark p) ∧
     (∀ j : Fin 24, j ≠ i → t.point j = s.point j) ∧ t = { s with points := t.points, dlv := t.dlv }) := by
  have hwrite := State.writePoint_storeNow (s := s) (i := i) (c := c) (.inl ⟨hst, hc⟩)
  obtain ⟨q, hq⟩ : ∃ q, q = ((s.point i).applyCfg s.ctx true c).1 := ⟨_, rfl⟩
  obtain ⟨hcfg, hwait, hmark, hframer⟩ := Point.applyCfg_stored s.ctx true c (s.point i)
  rw [← hq] at hcfg hwait hmark hframer
  have hqst : q.framer.st = .waiting := by rw [hframer]; exact hst
  intro o t p rebinds mark
  have hp : p = q.enterIfLocked s.ctx := by
    rw [hq]
    exact (congrArg (fun u : State => u.point i) hwrite).trans (State.onPoint_point_same i _ s)
  obtain ⟨hkeep, htrk, -, -, -⟩ := Point.enterIfLocked_keeps s.ctx q
  obtain ⟨hstays, hbegins⟩ := Point.enterIfLocked_waiting s.ctx hqst
  rw [← hp] at hkeep htrk hstays hbegins
  have hv : p.vLocked = q.vLocked := by rw [hkeep]
  have hi : p.iLocked = q.iLocked := by rw [hkeep]
  refine ⟨?_, ?_, fun hr => ?_, fun hr => ?_, ?_, fun hn => ?_, fun hvl hil => ?_, fun j hj => ?_, ?_⟩
  · rw [hkeep]; exact hcfg
  · rw [hkeep]; exact hwait
  · have hbound := Point.applyCfg_rebinds s.ctx true c (s.point i) ((bindingDiffers_iff _ _).mpr hr)
    rw [← hq] at hbound
    rw [hkeep, hbound]
    exact ⟨rfl, rfl, rfl, decide_eq_true_iff, decide_eq_true_iff⟩
  · have hbound := Point.applyCfg_bound s.ctx true c (s.point i) (mt (bindingDiffers_iff _ _).mp hr)
    rw [← hq] at hbound
    rw [hkeep, hbound]
    exact ⟨rfl, rfl, rfl, rfl, rfl⟩
  · rw [htrk, hframer]
    rfl
  · rw [hstays (by rw [← hv, ← hi]; exact hn)]
    exact ⟨hqst, hmark, by rw [hframer]⟩
  · have hbegun := Point.beginWindow_begun s.ctx q.framer.freeIx q
    rw [← hbegins (hv ▸ hvl) (hi ▸ hil), hmark, hframer] at hbegun
    exact hbegun
  · exact (congrArg (fun u : State => u.point j) hwrite).trans (State.onPoint_point_other i j _ s hj)
  · have hframe := State.onPoint_frame i (fun ctx => Point.storeNow ctx c) s (Point.applyCfg_quiet s.ctx true c (s.point i))
    rw [← hwrite] at hframe
    exact hframe

/-- A point enabled (R50, R66, R81). -/
theorem writePoint_enabled (s : State) (i : Fin 24) (c : PointCfg) (hst : (s.point i).framer.st = .disabled)
    (hc : c.enabled = true) :
    (let o := s.point i
     let t := s.writePoint i.val c
     let p := t.point i
     let ix : BankIx := if o.framer.bank1 = .free then .first else .second
     p = { o with
       cfg := c, vQueue := [], iQueue := []
       pair := { o.pair with unpaired := o.pair.unpaired + BitVec.ofNat 32 (o.vQueue.length + o.iQueue.length) }
       vLocked := decide ((s.slot c.vSlot).st = .locked), iLocked := decide ((s.slot c.iSlot).st = .locked)
       changeMark := p.changeMark, framer := p.framer } ∧
     p.framer.trk = nominalTracker c ∧ p.framer.seq = o.framer.seq ∧ p.framer.ctr = o.framer.ctr ∧
     (¬ (p.vLocked = true ∧ p.iLocked = true) →
       p.changeMark = true ∧ p.framer = { o.framer with st := .waiting, trk := nominalTracker c }) ∧
     (p.vLocked = true → p.iLocked = true →
       WindowBegun s.ctx ix true p ∧ p.framer.bank (otherBank ix) = o.framer.bank (otherBank ix)) ∧
     (o.framer.trk.untracked = false → t.dlv = s.dlv) ∧ (o.framer.trk.untracked = true → UntrackedTold t) ∧
     (∀ j : Fin 24, j ≠ i → t.point j = s.point j) ∧ t = { s with points := t.points, dlv := t.dlv }) := by
  have hwrite := State.writePoint_enable (s := s) (i := i) (c := c) hst hc
  have hstep := Point.enable_eq s.ctx c (s.point i)
  obtain ⟨q, hq⟩ : ∃ q, q = (s.point i).enabledWith s.ctx c := ⟨_, rfl⟩
  rw [← hq] at hstep
  obtain ⟨hkeep, htrk, hseq, hctr, -⟩ := Point.enterIfLocked_keeps s.ctx q
  have hqtrk : q.framer.trk = nominalTracker c := by rw [hq]; rfl
  obtain ⟨hstays, hbegins⟩ := Point.enterIfLocked_waiting s.ctx (p := q) (by rw [hq]; rfl)
  intro o t p ix
  have hp : p = q.enterIfLocked s.ctx :=
    (congrArg (fun u : State => u.point i) hwrite).trans ((State.onPoint_point_same i _ s).trans (congrArg Prod.fst hstep))
  have hclear : p.framer.trk.untracked = false := by rw [hp, htrk, hqtrk]; rfl
  rw [← hp] at hstep hkeep htrk hseq hctr hstays hbegins
  have hv : p.vLocked = q.vLocked := by rw [hkeep]
  have hi : p.iLocked = q.iLocked := by rw [hkeep]
  refine ⟨?_, htrk.trans hqtrk, ?_, ?_, fun hn => ?_, fun hvl hil => ?_, fun h => ?_, fun h => ?_, fun j hj => ?_, ?_⟩
  · rw [hq] at hkeep
    exact hkeep
  · rw [hseq, hq]; rfl
  · rw [hctr, hq]; rfl
  · rw [hstays (by rw [← hv, ← hi]; exact hn), hq]
    exact ⟨rfl, rfl⟩
  · have hix : q.framer.freeIx = ix := by rw [hq]; rfl
    have hmark : q.changeMark = true := by rw [hq]; rfl
    have hbegun := Point.beginWindow_begun s.ctx q.framer.freeIx q
    have hother := (Point.beginWindow_otherBank s.ctx q.framer.freeIx q).1
    rw [← hbegins (hv ▸ hvl) (hi ▸ hil), hix] at hbegun hother
    rw [hmark] at hbegun
    refine ⟨hbegun, hother.trans ?_⟩
    rw [hq]
    cases otherBank ix <;> rfl
  · have hsilent := State.onPoint_cleared_silent (f := fun ctx => Point.enable ctx c) hstep h
    rw [← hwrite] at hsilent
    exact (congrArg State.dlv hsilent).trans (State.setPoint_dlv s i p)
  · have htold := State.onPoint_cleared_told (f := fun ctx => Point.enable ctx c) hstep hclear h
    rw [← hwrite] at htold
    exact htold
  · exact (congrArg (fun u : State => u.point j) hwrite).trans (State.onPoint_point_other i j _ s hj)
  · have hframe := State.onPoint_frame i (fun ctx => Point.enable ctx c) s (by rw [hstep]; exact quiet_cleared _)
    rw [← hwrite] at hframe
    exact hframe

/-- Settles O20: the write by the framer state, each of its treatments followed through the part. -/
theorem pointWriteFollowsTheFramerState : Obligations.PointWriteFollowsTheFramerState := by
  refine fun s i c => ⟨fun hst hc => State.writePoint_pending hst hc, fun hst hc => ?_, fun hst hc => ?_, fun hst hc => ?_,
    writePoint_waiting, writePoint_enabled, fun s i c hst hc => ?_, fun c => ?_⟩
  · obtain ⟨hcfg, -, -, hframer⟩ := Point.applyCfg_stored s.ctx true c (s.point i)
    have hkept : ((s.point i).applyCfg s.ctx true c).1.enterIfLocked s.ctx = ((s.point i).applyCfg s.ctx true c).1 :=
      if_neg (by rw [hframer]; simp [hst])
    rw [State.writePoint_storeNow (.inr ⟨hst, hc⟩), State.onPoint_point_same, Point.storeNow]
    dsimp only
    rw [hkept, hframer]
    exact ⟨hcfg, hst⟩
  · obtain ⟨hkeep, -, -, -, hentered⟩ := Point.enterIfLocked_keeps s.ctx ((s.point i).enabledWith s.ctx c)
    rw [State.writePoint_enable hst hc, State.onPoint_point_same, Point.enable_eq]
    refine ⟨by rw [hkeep]; rfl, hentered (by simp [Point.enabledWith]), by rw [hkeep]; rfl⟩
  · rw [State.writePoint_disable hst hc, State.disablePoint_point, State.entryDropped_point]
    exact ⟨rfl, rfl, rfl, Point.closeNow_ivl i false _ (s.point i)⟩
  · intro o t p rebinds tracker f under
    have ht : t = s.disablePoint i c := State.writePoint_disable hst hc
    have hp : p = (s.disablePoint i c).point i := congrArg (fun u : State => u.point i) ht
    have hpoint := State.disablePoint_point s i c
    have hfinisher : t.finisher = (s.entryDropped i c).finisher := (congrArg State.finisher ht).trans (s.disablePoint_finisher i c)
    have hf : (s.framingDisabled i c).finisher = f := s.framingDisabled_finisher i c
    have hframe := (s.disablePoint_same i c).eq
    refine ⟨?_, fun ix b => ?_, fun hu => ?_, fun hu => ?_, ⟨s.closeRoom i c, ?_⟩, ?_, ?_, fun n hn => ?_, fun j hj => ?_, ?_⟩
    · rw [hp, hpoint, s.entryDropped_point i c]
      rfl
    · rw [hp]
      exact (s.disablePoint_banks i c ix b).1
    · obtain ⟨hfin, hsame⟩ := State.dropFinish_abandons (i := i) (s := s.framingDisabled i c) (by rw [hf]; exact hu)
      rw [hf] at hfin
      refine ⟨hfinisher.trans hfin, fun ix b hb => ?_⟩
      rw [hp]
      exact (s.disablePoint_banks i c ix b).2 (congrArg (fun q : Point => q.framer.bank ix) hsame) hb
    · obtain ⟨hfin, hnone, hrest, hfreed, hkept⟩ := State.dropFinish_removes (i := i) (s := s.framingDisabled i c)
        (by rw [hf]; exact hu)
      rw [hf] at hfin hrest hfreed hkept
      rw [hfinisher, hp]
      refine ⟨hfin, hnone, hrest, fun e he hi honly => ?_, fun ix b hb hnot => ?_⟩
      · rw [State.disablePoint_bank]
        exact hfreed e he hi honly
      · exact (s.disablePoint_banks i c ix b).2 (hkept ix hnot) hb
    · obtain ⟨hlow, hhigh, hsame⟩ := s.closeRoom_bounds i c
      rw [hp, ht]
      exact ⟨hlow, hhigh, hsame, by rw [hpoint], by rw [hpoint], by rw [hpoint], s.disablePoint_appended i c,
        fun hbusy hidle => s.disablePoint_records i c ⟨hbusy, hidle⟩⟩
    · rw [ht]
      exact (s.disablePoint_untracked i c).1
    · rw [ht]
      exact (s.disablePoint_untracked i c).2
    · rw [ht]
      exact s.disablePoint_conditions i c hn
    · rw [ht]
      exact s.disablePoint_other i c j hj
    · rw [ht]
      exact hframe
  · cases h : c.nominal <;> simp [nominalTracker, nominalLength, Nominal.hz, h, Config.sampleRate, roundDivNat]

end Sys2Proof.Machine
end

section
/-! SUPPORT. The window after a window's end or discard, and what a window's end leaves of the point (R49, R66, R69, R74, R76). -/

namespace Sys2Proof.Machine

/-! ## The next window (R49, R69, R76) -/

/-- The configuration that was pending is in force, and none is pending (R49). -/
def Point.PendingInForce (p q : Point) : Prop := q.waitingCfg = none ∧ q.cfg = p.waitingCfg.getD p.cfg

theorem Point.PendingInForce.trans {p q r : Point} (h : p.PendingInForce q) (k : q.PendingInForce r) : p.PendingInForce r := by
  obtain ⟨hq, hc⟩ := h
  obtain ⟨hr, hd⟩ := k
  rw [hq] at hd
  exact ⟨hr, hd.trans hc⟩

/-- A change that keeps both configurations keeps what is still to be put in force. -/
theorem Point.PendingInForce.of_same {p p' q : Point} (hw : p'.waitingCfg = p.waitingCfg) (hc : p'.cfg = p.cfg)
    (h : p'.PendingInForce q) : p.PendingInForce q := by
  rw [Point.PendingInForce, hw, hc] at h
  exact h

theorem Point.applyPending_inForce (ctx : PointCtx) (p : Point) : p.PendingInForce (p.applyPending ctx).1 := by
  cases hw : p.waitingCfg with
  | none => rw [Point.PendingInForce, Point.applyPending, hw]; exact ⟨hw, rfl⟩
  | some c =>
    obtain ⟨hcfg, hwait, -, -⟩ := Point.applyCfg_stored ctx true c { p with waitingCfg := none }
    rw [Point.PendingInForce, Point.applyPending, hw]
    exact ⟨hwait, hcfg⟩

theorem Point.enterIfLocked_configs (ctx : PointCtx) (p : Point) :
    (p.enterIfLocked ctx).waitingCfg = p.waitingCfg ∧ (p.enterIfLocked ctx).cfg = p.cfg := by
  obtain ⟨hkeep, -, -, -, -⟩ := Point.enterIfLocked_keeps ctx p
  rw [hkeep]
  exact ⟨rfl, rfl⟩

theorem Point.toWaiting_inForce (ctx : PointCtx) (p : Point) : p.PendingInForce (p.toWaiting ctx).1 := by
  obtain ⟨hw, hc⟩ := Point.enterIfLocked_configs ctx (p.withoutWindow.applyPending ctx).1
  obtain ⟨hnone, hcfg⟩ := Point.applyPending_inForce ctx p.withoutWindow
  exact ⟨hw.trans hnone, hc.trans hcfg⟩

/-- With none pending, a reaction to the source states leaves the configuration in force, even where it goes to WAITING. -/
theorem Point.react_inForce (ctx : PointCtx) {p : Point} (h : p.waitingCfg = none) : p.PendingInForce (p.react ctx).1 := by
  have hself : p.PendingInForce p := ⟨h, by rw [h]; rfl⟩
  rw [Point.react]
  split
  · rw [Point.sourceLost]
    split
    · exact Point.toWaiting_inForce ctx p
    · rename_i w _
      split
      · exact (Point.toWaiting_inForce ctx { p with changeMark := p.changeMark || w.flags.firstAfterChange }).of_same rfl rfl
      · split
        · exact (Point.toWaiting_inForce ctx (p.discard .source w.elapsed w).1).of_same rfl rfl
        · exact hself
  · obtain ⟨hw, hc⟩ := Point.enterIfLocked_configs ctx p
    exact ⟨hw.trans h, by rw [h]; exact hc⟩

theorem Point.nextWindow_inForce (ctx : PointCtx) (ix : BankIx) (p : Point) :
    p.PendingInForce (p.nextWindow ctx ix).1 := by
  have happly := Point.applyPending_inForce ctx p
  have hreact := Point.react_inForce ctx (p := (p.applyPending ctx).1.beginWindow ctx ix) happly.1
  exact happly.trans (hreact.of_same rfl rfl)

/-- Whichever way a window is closed, the next one has the configuration that was pending (R49, R69). -/
theorem Point.closeWindow_inForce (ctx : PointCtx) (w : Window) (p : Point) :
    p.PendingInForce (p.closeWindow ctx w).1 := by
  rw [Point.closeWindow]
  split
  · exact (Point.nextWindow_inForce ctx w.bank (p.discard .coverage w.len w).1).of_same rfl rfl
  · split
    · exact (Point.nextWindow_inForce ctx (otherBank w.bank) (p.handOver w.ended).1).of_same rfl rfl
    · exact (Point.nextWindow_inForce ctx w.bank (p.discard .finishLate w.len w).1).of_same rfl rfl

theorem Point.windowEnd_some (ctx : PointCtx) {p : Point} {w : Window} (hw : p.framer.window = some w) :
    p.windowEnd ctx = (p.trackerStep w).andThen (Point.closeWindow ctx w) := by
  rw [Point.windowEnd, hw]

theorem Point.windowEnd_inForce (ctx : PointCtx) {p : Point} {w : Window} (hw : p.framer.window = some w) :
    p.PendingInForce (p.windowEnd ctx).1 := by
  rw [Point.windowEnd_some ctx hw]
  exact (Point.closeWindow_inForce ctx w (p.trackerStep w).1).of_same rfl rfl

/-! ## Both sources LOCKED and none pending -/

/-- Nothing stands between a window and the next one: no pending configuration, and both source states LOCKED. -/
def Point.Ready (p : Point) : Prop := p.waitingCfg = none ∧ p.vLocked = true ∧ p.iLocked = true

/-- The bank of a window handed over is OUT with its sums (R69, 3). -/
theorem Point.handOver_bank (w : Window) (p : Point) :
    (p.handOver w).1.framer.bank w.bank = (p.framer.bank w.bank).handed := by
  rw [Point.handOver]
  cases w.bank <;> rfl

section Ready

variable (ctx : PointCtx) {p : Point} (hready : p.Ready)

include hready

theorem Point.nextWindow_ready (ix : BankIx) : p.nextWindow ctx ix = (p.beginWindow ctx ix, []) := by
  obtain ⟨hwait, hv, hi⟩ := hready
  have happly : p.applyPending ctx = (p, []) := by rw [Point.applyPending, hwait]
  have hboth : (p.beginWindow ctx ix).bothLocked = true := Bool.and_eq_true_iff.mpr ⟨hv, hi⟩
  have hst : (p.beginWindow ctx ix).framer.st = .collecting := (Point.beginWindow_framer ctx ix p).1
  have hstay : (p.beginWindow ctx ix).enterIfLocked ctx = p.beginWindow ctx ix := if_neg (by simp [hst])
  rw [Point.nextWindow, happly, PointStep.andThen, Point.react, if_neg (by simp [hboth]), hstay]
  rfl

/-- A discard and the next window in a bank (R76). -/
theorem Point.discard_nextWindow (r : DiscardReason) (elapsed : Nat) (w : Window) (ix : BankIx) :
    (p.discard r elapsed w).andThen (Point.nextWindow ctx ix) =
      ((p.discard r elapsed w).1.beginWindow ctx ix, [.discarded r]) := by
  rw [PointStep.andThen, Point.nextWindow_ready ctx (p := (p.discard r elapsed w).1) hready ix]
  rfl

/-- A hand-over and the next window in a bank (R69, 3 to 5). -/
theorem Point.handOver_nextWindow (w : Window) (ix : BankIx) :
    (p.handOver w).andThen (Point.nextWindow ctx ix) =
      ((p.handOver w).1.beginWindow ctx ix, [.handOver (finishEntry (p.handOver w).1 w)]) := by
  rw [PointStep.andThen, Point.nextWindow_ready ctx (p := (p.handOver w).1) hready ix]
  rfl

end Ready

/-! ## A discard and the window begun after it (R76) -/

/-- A window begun after a discard leaves what the discard has counted. -/
theorem discarded_beginWindow {r : DiscardReason} {elapsed : Nat} {p q : Point} (h : Discarded r elapsed p q) (ctx : PointCtx)
    (ix : BankIx) : Discarded r elapsed p (q.beginWindow ctx ix) := by
  cases ix <;> exact h

/-- Step 1 of R69 counts a window without a valid period, and nothing else (R80, R82). -/
theorem Point.trackerStep_ctr (w : Window) (p : Point) : (p.trackerStep w).1.framer.ctr = { p.framer.ctr with
    untrackedWindows := p.framer.ctr.untrackedWindows + (if w.validPeriod = none then 1 else 0) } := by
  cases hv : w.validPeriod <;> simp [Point.trackerStep, hv]

/-- The tracker's step counts nothing a discard speaks of. -/
theorem discarded_of_trackerStep {r : DiscardReason} {elapsed : Nat} {w : Window} {p q : Point}
    (h : Discarded r elapsed (p.trackerStep w).1 q) : Discarded r elapsed p q := by
  rw [Discarded, Point.trackerStep_ctr] at h
  exact h

/-! ## The tracker's choice (R79, R80) -/

/-- Rounding finds the quotient whose distance from the exact one is at most a half (Conventions, Rounding). -/
theorem roundDivNat_eq_iff {n d q : Nat} (hd : 0 < d) :
    roundDivNat n d = q ↔ 2 * (d * q) ≤ 2 * n + d ∧ 2 * n + d < 2 * (d * (q + 1)) := by
  have hassoc (m : Nat) : 2 * (d * m) = m * (2 * d) := by ring
  rw [roundDivNat, Nat.div_eq_iff (by omega), hassoc, hassoc, Nat.add_mul]
  omega

theorem Window.validPeriod_eq_some_iff (w : Window) (p : Nat) : w.validPeriod = some p ↔
    2 ≤ w.crossings ∧ 46812 ≤ p ∧ p ≤ 81920 ∧
      p = roundDivNat (w.lastCross.getD 0 - w.firstCross.getD 0) (w.crossings - 1) := by
  by_cases hk : 2 ≤ w.crossings
  · simp only [Window.validPeriod, Window.period256, if_pos hk, Config.periodMin, Config.periodMax, Bool.and_eq_true,
      Option.ite_none_right_eq_some, Option.some.injEq]
    constructor
    · rintro ⟨⟨hlo, hhi⟩, rfl⟩
      exact ⟨hk, of_decide_eq_true hlo, of_decide_eq_true hhi, rfl⟩
    · rintro ⟨-, hlo, hhi, rfl⟩
      exact ⟨⟨decide_eq_true hlo, decide_eq_true hhi⟩, rfl⟩
  · simp [Window.validPeriod, Window.period256, hk]

theorem Tracker.evaluate_valid {w : Window} {p : Nat} (h : w.validPeriod = some p) (t : Tracker) :
    t.evaluate w = .tracked w.cfg.cycles p := by rw [Tracker.evaluate, h]

theorem Tracker.evaluate_invalid {w : Window} (h : w.validPeriod = none) (t : Tracker) : t.evaluate w = t.lost w := by
  rw [Tracker.evaluate, h]

/-- A length of at least six of the shortest valid periods is at least 1,097 samples (R79). -/
theorem le_trackedLength {c p : Nat} (hc : 6 ≤ c) (hp : 46812 ≤ p) : 1097 ≤ roundDivNat (c * p) 256 := by
  have hprod : 6 * 46812 ≤ c * p := Nat.mul_le_mul hc hp
  rw [roundDivNat]
  omega

/-- The nominal lengths of six to sixteen cycles (R81). -/
theorem nominalLength_bounds {cfg : PointCfg} (hlo : 6 ≤ cfg.cycles) (hhi : cfg.cycles ≤ 16) :
    1280 ≤ nominalLength cfg ∧ nominalLength cfg ≤ 4096 := by
  cases hn : cfg.nominal <;> simp only [nominalLength, roundDivNat, hn, Nominal.hz, Config.sampleRate] <;> omega

theorem nominalTracker_of_hz {cfg : PointCfg} :
    (cfg.nominal = .hz50 → (nominalTracker cfg).period = 65536 ∧ nominalLength cfg = roundDivNat (cfg.cycles * 12800) 50) ∧
      (cfg.nominal = .hz60 →
        (nominalTracker cfg).period = 54613 ∧ nominalLength cfg = roundDivNat (cfg.cycles * 12800) 60) := by
  constructor <;> intro h <;> rw [nominalTracker, nominalLength, h] <;> exact ⟨rfl, rfl⟩

/-- Short of the third window in a run without a period, the length stays and the run is counted (R80). -/
theorem Tracker.lost_short {w : Window} {t : Tracker} (h : t.run + 1 < 3) :
    t.lost w = { t with nextLen := w.len, run := t.run + 1 } := by
  have hrun : min 3 (t.run + 1) = t.run + 1 := by omega
  rw [Tracker.lost, hrun, if_pos h]

/-- The third window in a run without a period makes the tracker nominal and untracked (R80). -/
theorem Tracker.lost_third {w : Window} {t : Tracker} (h : 3 ≤ t.run + 1) : t.lost w =
    { period := (nominalTracker w.cfg).period, nextLen := nominalLength w.cfg, clampedMark := false, freq := t.freq, run := 3
      untracked := true } := by
  have hrun : min 3 (t.run + 1) = 3 := by omega
  rw [Tracker.lost, hrun, if_neg (by omega)]

/-! ## The ways a window ends (R69) -/

/-- Some positions were skipped (R69, 2). -/
theorem Window.skipped_iff (w : Window) : w.skipped = true ↔ w.covered + w.bridgedCount < w.len := by simp [Window.skipped]

theorem Window.coverageOk_iff (w : Window) : w.coverageOk = true ↔ w.cfg.minCoverage * w.len ≤ w.covered * 100 := by
  simp [Window.coverageOk]

/-- The flag is reported when it changes (R80). -/
theorem mem_untrackedEvents (a b : Tracker) : .untracked b.untracked ∈ untrackedEvents a b ↔ b.untracked ≠ a.untracked := by
  rw [untrackedEvents]
  split
  · rename_i h
    simp [h]
  · rename_i h
    simp [Ne.symm h]

section WindowEnd

variable (ctx : PointCtx) {p : Point} {w : Window} (hw : p.framer.window = some w) (hready : p.Ready)

/-- The tracker's report at the end of window w (R80). -/
def Point.flagReport (w : Window) (p : Point) : List PointEvent := untrackedEvents p.framer.trk (p.framer.trk.evaluate w)

/-- The point after step 1 of R69 and a discard of its window. -/
def Point.endDiscarded (r : DiscardReason) (w : Window) (p : Point) : Point := ((p.trackerStep w).1.discard r w.len w).1

/-- The point after step 1 of R69 and the hand-over of its window. -/
def Point.endHanded (w : Window) (p : Point) : Point := ((p.trackerStep w).1.handOver w.ended).1

include hw hready

/-- Too little coverage of a window with skipped positions (R69, 2; R72). -/
theorem Point.windowEnd_coverage (hs : w.skipped = true) (hc : ¬ w.coverageOk = true) : p.windowEnd ctx =
    ((p.endDiscarded .coverage w).beginWindow ctx w.bank, p.flagReport w ++ [.discarded .coverage]) := by
  rw [Point.windowEnd_some ctx hw, PointStep.andThen, Point.closeWindow, if_pos (by simp [hs, hc]),
    Point.discard_nextWindow ctx (p := (p.trackerStep w).1) hready]
  rfl

/-- The other bank is still OUT or collected (R69, 3). -/
theorem Point.windowEnd_finishLate (hc : ¬ (w.skipped = true ∧ ¬ w.coverageOk = true))
    (hfree : p.framer.bank (otherBank w.bank) ≠ .free) : p.windowEnd ctx =
      ((p.endDiscarded .finishLate w).beginWindow ctx w.bank, p.flagReport w ++ [.discarded .finishLate]) := by
  have hbank : (p.trackerStep w).1.framer.bank (otherBank w.bank) ≠ .free := hfree
  rw [Point.windowEnd_some ctx hw, PointStep.andThen, Point.closeWindow, if_neg (by simpa using hc), if_neg hbank,
    Point.discard_nextWindow ctx (p := (p.trackerStep w).1) hready]
  rfl

/-- The window is handed over and the next one begun in the other bank (R69, 3 to 5). -/
theorem Point.windowEnd_handOver (hc : ¬ (w.skipped = true ∧ ¬ w.coverageOk = true))
    (hfree : p.framer.bank (otherBank w.bank) = .free) : p.windowEnd ctx =
      ((p.endHanded w).beginWindow ctx (otherBank w.bank),
        p.flagReport w ++ [.handOver (finishEntry (p.endHanded w) w.ended)]) := by
  have hbank : (p.trackerStep w).1.framer.bank (otherBank w.bank) = .free := hfree
  rw [Point.windowEnd_some ctx hw, PointStep.andThen, Point.closeWindow, if_neg (by simpa using hc), if_pos hbank,
    Point.handOver_nextWindow ctx (p := (p.trackerStep w).1) hready]
  rfl

end WindowEnd

theorem Point.endHanded_trk (w : Window) (p : Point) : (p.endHanded w).framer.trk = p.framer.trk.evaluate w :=
  Framer.setBank_trk _ _ _

/-- What an end of window w leaves of the tracker, its count and its report (R79, R80, R82). -/
def Point.TrackerTold (w : Window) (p : Point) (x : PointStep) : Prop :=
  x.1.framer.trk = p.framer.trk.evaluate w ∧
    x.1.framer.ctr.untrackedWindows = p.framer.ctr.untrackedWindows + (if w.validPeriod = none then 1 else 0) ∧
    (.untracked (p.framer.trk.evaluate w).untracked ∈ x.2 ↔
      (p.framer.trk.evaluate w).untracked ≠ p.framer.trk.untracked)

/-- The flag alone is reported before the window's own event, and the next window keeps tracker and counts. -/
theorem Point.trackerTold_begun (ctx : PointCtx) (ix : BankIx) {p q : Point} {w : Window} {e : PointEvent}
    (htrk : q.framer.trk = p.framer.trk.evaluate w)
    (hctr : q.framer.ctr.untrackedWindows = (p.trackerStep w).1.framer.ctr.untrackedWindows)
    (he : ∀ b, e ≠ .untracked b) : p.TrackerTold w (q.beginWindow ctx ix, p.flagReport w ++ [e]) := by
  obtain ⟨-, -, hbegun, -, -⟩ := Point.beginWindow_framer ctx ix q
  rw [Point.TrackerTold, hbegun, htrk, (Point.beginWindow_otherBank ctx ix q).2, hctr, Point.trackerStep_ctr]
  refine ⟨rfl, rfl, ?_⟩
  rw [List.mem_append, List.mem_singleton, or_iff_left (he _).symm, Point.flagReport, mem_untrackedEvents]

/-- Whichever way the window ends, the tracker has evaluated it first (R69, 1). -/
theorem Point.windowEnd_told (ctx : PointCtx) {p : Point} {w : Window} (hw : p.framer.window = some w) (hready : p.Ready) :
    p.TrackerTold w (p.windowEnd ctx) := by
  have hdiscard (r : DiscardReason) : (p.endDiscarded r w).framer.ctr.untrackedWindows =
      (p.trackerStep w).1.framer.ctr.untrackedWindows := by cases r <;> rfl
  by_cases hc : w.skipped = true ∧ ¬ w.coverageOk = true
  · rw [Point.windowEnd_coverage ctx hw hready hc.1 hc.2]
    exact Point.trackerTold_begun ctx _ rfl (hdiscard .coverage) (by simp)
  · by_cases hfree : p.framer.bank (otherBank w.bank) = .free
    · rw [Point.windowEnd_handOver ctx hw hready hc hfree]
      exact Point.trackerTold_begun ctx _ (Point.endHanded_trk w p) rfl (by simp)
    · rw [Point.windowEnd_finishLate ctx hw hready hc hfree]
      exact Point.trackerTold_begun ctx _ rfl (hdiscard .finishLate) (by simp)

/-- A window discarded at its end, and the next one begun in its bank (R69, R76). -/
theorem Point.endDiscarded_spec (ctx : PointCtx) (r : DiscardReason) (w : Window) (p : Point) :
    (let q := (p.endDiscarded r w).beginWindow ctx w.bank
     Discarded r w.len p q ∧ WindowBegun ctx w.bank (p.changeMark || w.flags.firstAfterChange) q ∧
       q.framer.bank (otherBank w.bank) = p.framer.bank (otherBank w.bank)) := by
  refine ⟨discarded_of_trackerStep (discarded_beginWindow (Point.discard_discarded r w.len w (p.trackerStep w).1) ctx w.bank),
    Point.beginWindow_begun ctx w.bank (p.endDiscarded r w), ?_⟩
  rw [(Point.beginWindow_otherBank ctx w.bank _).1]
  cases w.bank <;> rfl

/-- A window handed over at its end: its bank OUT, its number, its count, and the next one begun in the other bank (R69, R70,
R82). -/
theorem Point.endHanded_spec (ctx : PointCtx) {w : Window} {p : Point} {b : BankSums}
    (hb : p.framer.bank w.bank = .active b) :
    (let q := (p.endHanded w).beginWindow ctx (otherBank w.bank)
     q.framer.bank w.bank = .out b ∧ q.framer.seq = p.framer.seq + 1 ∧
       q.framer.ctr.handed = p.framer.ctr.handed + 1 ∧ q.framer.ctr.discarded = p.framer.ctr.discarded ∧ q.ivl = p.ivl ∧
       WindowBegun ctx (otherBank w.bank) p.changeMark q) := by
  have hctr : (p.endHanded w).framer.ctr = { (p.trackerStep w).1.framer.ctr with
      handed := (p.trackerStep w).1.framer.ctr.handed + 1 } := rfl
  obtain ⟨hother, hkept⟩ := Point.beginWindow_otherBank ctx (otherBank w.bank) (p.endHanded w)
  obtain ⟨-, -, -, hseq, -⟩ := Point.beginWindow_framer ctx (otherBank w.bank) (p.endHanded w)
  rw [otherBank_otherBank] at hother
  refine ⟨hother.trans ?_, hseq.trans ?_, ?_, ?_, rfl, Point.beginWindow_begun ctx (otherBank w.bank) (p.endHanded w)⟩
  · have hout : (p.endHanded w).framer.bank w.bank = (p.framer.bank w.bank).handed :=
      Point.handOver_bank w.ended (p.trackerStep w).1
    rw [hout, hb]
    rfl
  · rfl
  · rw [hkept, hctr, Point.trackerStep_ctr]
  · rw [hkept, hctr, Point.trackerStep_ctr]

/-! ## The Finish Queue entry (R93) -/

/-- A handed-over window joins the tail, and the peak follows. -/
theorem State.pointEvent_handOver (i : Fin 24) (e : FinishEntry) (s : State) :
    (let t := s.pointEvent i (.handOver e)
     t.finisher.queue = s.finisher.queue ++ [{ e with point := i }] ∧ t = { s with finisher := t.finisher } ∧
       t.finisher.peak = max s.finisher.peak (s.finisher.queue.length + 1)) := by
  simp only [State.pointEvent, State.appendFinish]
  rw [State.beginFinish_eq]
  exact ⟨rfl, rfl, by simp⟩

/-- A window's end with both sources LOCKED and no configuration pending (R69, R70, R72, R76, R79, R80, R82). -/
theorem windowEnd_ready (ctx : PointCtx) (p : Point) (w : Window) (b : BankSums) (hw : p.framer.window = some w)
    (hb : p.framer.bank w.bank = .active b) (hwait : p.waitingCfg = none) (hv : p.vLocked = true) (hi : p.iLocked = true) :
    (let x := p.windowEnd ctx
     let q := x.1
     let t := p.framer.trk.evaluate w
     let short := w.covered + w.bridgedCount < w.len
     let passes := ¬ short ∨ w.cfg.minCoverage * w.len ≤ w.covered * 100
     let free := p.framer.bank (otherBank w.bank) = .free
     let discards := fun r : DiscardReason => Discarded r w.len p q ∧ x.2.getLast? = some (.discarded r) ∧
       WindowBegun ctx w.bank (p.changeMark || w.flags.firstAfterChange) q ∧
       q.framer.bank (otherBank w.bank) = p.framer.bank (otherBank w.bank)
     q.framer.trk = t ∧
     q.framer.ctr.untrackedWindows = p.framer.ctr.untrackedWindows + (if w.validPeriod = none then 1 else 0) ∧
     (.untracked t.untracked ∈ x.2 ↔ t.untracked ≠ p.framer.trk.untracked) ∧
     (¬ passes → discards .coverage) ∧ (passes → ¬ free → discards .finishLate) ∧
     (passes → free → q.framer.bank w.bank = .out b ∧ q.framer.seq = p.framer.seq + 1 ∧
       q.framer.ctr.handed = p.framer.ctr.handed + 1 ∧ q.framer.ctr.discarded = p.framer.ctr.discarded ∧ q.ivl = p.ivl ∧
       WindowBegun ctx (otherBank w.bank) p.changeMark q ∧
       ∃ e, x.2.getLast? = some (.handOver e) ∧ e.bank = w.bank ∧ e.seq = p.framer.seq + 1 ∧ e.start = w.start.getD 0 ∧
         e.len = w.len ∧ e.covered = w.covered ∧ e.bridgedCount = w.bridgedCount ∧ e.freq = t.freq ∧ e.cfg = w.cfg ∧
         e.flags = { w.flags with untracked := w.validPeriod.isNone, incomplete := decide short })) := by
  have hready : p.Ready := ⟨hwait, hv, hi⟩
  intro x q t short passes free discards
  have hpasses : passes ↔ ¬ (w.skipped = true ∧ ¬ w.coverageOk = true) := by
    rw [Window.skipped_iff, Window.coverageOk_iff, not_and, not_not]
    exact imp_iff_not_or.symm
  have discarded (r : DiscardReason) (hx : x = ((p.endDiscarded r w).beginWindow ctx w.bank, p.flagReport w ++ [.discarded r])) :
      discards r := by
    obtain ⟨hdisc, hbegun, hother⟩ := Point.endDiscarded_spec ctx r w p
    have hq : q = (p.endDiscarded r w).beginWindow ctx w.bank := congrArg Prod.fst hx
    rw [← hq] at hdisc hbegun hother
    exact ⟨hdisc, by rw [hx, List.getLast?_concat], hbegun, hother⟩
  obtain ⟨htrk, hctr, hflag⟩ := Point.windowEnd_told ctx hw hready
  refine ⟨htrk, hctr, hflag, fun hn => ?_, fun hp hn => ?_, fun hp hf => ?_⟩
  · rw [hpasses, not_not] at hn
    exact discarded .coverage (Point.windowEnd_coverage ctx hw hready hn.1 hn.2)
  · exact discarded .finishLate (Point.windowEnd_finishLate ctx hw hready (hpasses.mp hp) hn)
  · have hx : x = _ := Point.windowEnd_handOver ctx hw hready (hpasses.mp hp) hf
    obtain ⟨hout, hseq, hhanded, hkept, hivl, hbegun⟩ := Point.endHanded_spec ctx hb
    have hq : q = (p.endHanded w).beginWindow ctx (otherBank w.bank) := congrArg Prod.fst hx
    rw [← hq] at hout hseq hhanded hkept hivl hbegun
    refine ⟨hout, hseq, hhanded, hkept, hivl, hbegun, finishEntry (p.endHanded w) w.ended, ?_, rfl, ?_⟩
    · rw [hx, List.getLast?_concat]
    · exact ⟨rfl, rfl, rfl, rfl, rfl, congrArg Tracker.freq (Point.endHanded_trk w p), rfl, rfl⟩

/-- Settles O22: the tracker's two branches, and the three ways a window ends, each followed by the next window. -/
theorem trackerChoosesTheNextLength : Obligations.TrackerChoosesTheNextLength := by
  refine ⟨fun w t hlo hhi => ⟨fun p hp => ?_, fun hn hrun => ?_, fun hn hrun => ?_⟩, Window.validPeriod_eq_some_iff,
    fun n d q hd => roundDivNat_eq_iff hd, fun ctx p w hw => Point.windowEnd_inForce ctx hw, windowEnd_ready,
    fun s i e => ⟨_, rfl, State.pointEvent_handOver i e s⟩, fun s i r => rfl⟩
  · obtain ⟨-, hmin, -, -⟩ := (w.validPeriod_eq_some_iff p).mp hp
    rw [Tracker.evaluate_valid hp]
    exact ⟨rfl, rfl, rfl, rfl, rfl, rfl, le_min (le_trackedLength hlo hmin) (by decide)⟩
  · rw [Tracker.evaluate_invalid hn, Tracker.lost_short hrun]
  · obtain ⟨hlow, hhigh⟩ := nominalLength_bounds hlo hhi
    obtain ⟨h50, h60⟩ := nominalTracker_of_hz (cfg := w.cfg)
    rw [Tracker.evaluate_invalid hn, Tracker.lost_third hrun]
    exact ⟨rfl, rfl, rfl, rfl, hlow, hhigh, h50, h60⟩

end Sys2Proof.Machine
end

section
/-! SUPPORT. The sums a position adds, the crossing it may bring, and how a framer in COLLECTING takes a paired set (R68, R71
to R73, R77, R78, R88, R89). -/

namespace Sys2Proof.Machine

/-! ## The sums of a bank (R88, R89) -/

/-- A summed signal is read from the position as it came, and taken through an operation on all seven (R88). -/
theorem summedSignals_spec (b : BankSums) {sig : Seven Int → Int} (h : sig ∈ summedSignals b.neutral) :
    (∀ x, sig (b.signals x) = sig x) ∧ ∀ (f : Int → Int → Int) (x y : Seven Int), sig (x.zipWith f y) = f (sig x) (sig y) := by
  rw [summedSignals, List.mem_append] at h
  rcases h with h | h
  · simp only [List.mem_cons, List.not_mem_nil, or_false] at h
    rcases h with rfl | rfl | rfl | rfl | rfl | rfl <;> exact ⟨fun _ => rfl, fun _ _ _ => rfl⟩
  · cases hn : b.neutral with
    | false => simp [hn] at h
    | true =>
      simp only [hn, if_true, List.mem_singleton] at h
      subst h
      exact ⟨fun x => by simp [BankSums.signals, hn], fun _ _ _ => rfl⟩

/-- A position added changes each sum by its value times the twiddle entry, or by its square (R89). -/
theorem BankSums.add_spec (b : BankSums) (n : Nat) (x : Seven Int) :
    (let y := b.add n x
     y.neutral = b.neutral ∧ y.cycles = b.cycles ∧ y.len = b.len ∧ y.orders.length = b.orders.length ∧
     (∀ sig ∈ summedSignals b.neutral, sig y.ss = sig b.ss + sig x ^ 2) ∧
     ∀ (j : Nat) (o : OrderSums), b.orders[j]? = some o → ∃ z, y.orders[j]? = some z ∧ z.order = o.order ∧
       (let idx := ((2 * (o.order * b.cycles) * n * 4096 + b.len) / (2 * b.len)) % 4096
        ∀ sig ∈ summedSignals b.neutral,
          sig z.re = sig o.re + sig x * twiddleCos idx ∧ sig z.im = sig o.im - sig x * twiddleSin idx)) := by
  refine ⟨rfl, rfl, rfl, List.length_map _, fun sig hsig => ?_, fun j o ho =>
    ⟨OrderSums.add b.cycles b.len n (b.signals x) o, ?_, rfl, fun sig hsig => ?_⟩⟩
  · obtain ⟨hread, hzip⟩ := summedSignals_spec b hsig
    rw [BankSums.add]
    dsimp only
    rw [hzip, hread, sq]
  · rw [BankSums.add]
    exact (List.getElem?_map ..).trans (by rw [ho]; rfl)
  · obtain ⟨hread, hzip⟩ := summedSignals_spec b hsig
    rw [OrderSums.add]
    dsimp only
    rw [hzip, hzip, hread, twiddleIndex]
    exact ⟨rfl, rfl⟩

/-- A window begun has a bank of its orders with every sum 0 (R67, R88). -/
theorem Point.beginWindow_sums (ctx : PointCtx) (ix : BankIx) (p : Point) :
    (let q := p.beginWindow ctx ix
     ∃ b w, q.framer.bank ix = .active b ∧ q.framer.window = some w ∧ w.bank = ix ∧ w.start = none ∧ w.pos = 0 ∧
       w.len = p.framer.trk.nextLen ∧ w.cfg = p.cfg ∧ b.neutral = p.cfg.useNeutral ∧ b.cycles = p.cfg.cycles ∧ b.len = w.len ∧
       b.orders.map (·.order) = ctx.hsets[p.cfg.hset] ∧ b.ss = .const 0 ∧
       ∀ o ∈ b.orders, o.re = .const 0 ∧ o.im = .const 0) := by
  obtain ⟨-, hwindow, -, -, -⟩ := Point.beginWindow_framer ctx ix p
  refine ⟨BankSums.begin p.cfg p.framer.trk.nextLen ctx.hsets[p.cfg.hset], newWindow p ix, ?_, hwindow,
    rfl, rfl, rfl, rfl, rfl, rfl, rfl, rfl, ?_, rfl, fun o ho => ?_⟩
  · cases ix <;> rfl
  · rw [BankSums.begin, List.map_map]
    exact List.map_id _
  · obtain ⟨h, -, rfl⟩ := List.mem_map.mp ho
    exact ⟨rfl, rfl⟩

/-! ## Zero crossings (R77, R78) -/

/-- A positive-going zero crossing at pos, in 1/256 of a position, between the last real set and one at position n (R77). -/
def Window.Crosses (w : Window) (n : Nat) (va : Int) (pos : Nat) : Prop :=
  ∃ (r f : Nat) (y : Seven Int), w.lastReal = some r ∧ w.lastVals = some y ∧ r + 1 = n ∧
    y.va < 0 ∧ 0 ≤ va ∧ pos = (n - 1) * 256 + f ∧ (f : Int) * (va - y.va) ≤ 256 * -y.va ∧
    256 * -y.va < ((f : Int) + 1) * (va - y.va)

/-- A quotient of a non-negative number, rounded down. -/
theorem toNat_ediv_eq_iff {a d : Int} (ha : 0 ≤ a) (hd : 0 < d) (f : Nat) :
    f = (a / d).toNat ↔ (f : Int) * d ≤ a ∧ a < ((f : Int) + 1) * d := by
  have hnonneg : 0 ≤ a / d := Int.ediv_nonneg ha hd.le
  have hcast : f = (a / d).toNat ↔ a / d = (f : Int) := by omega
  rw [hcast, Int.ediv_eq_iff_of_pos hd, Int.add_mul, Int.one_mul]

theorem crossingAt_eq_some_iff (w : Window) (n : Nat) (va : Int) (pos : Nat) :
    crossingAt w n va = some pos ↔ w.Crosses n va pos := by
  have fraction {y : Seven Int} (hy : y.va < 0) (hva : 0 ≤ va) (f : Nat) :=
    toNat_ediv_eq_iff (a := 256 * -y.va) (d := va - y.va) (by omega) (by omega) f
  constructor
  · intro h
    rw [crossingAt] at h
    split at h
    · rename_i r y hr hy
      simp only [Option.ite_none_right_eq_some, Bool.and_eq_true, decide_eq_true_eq, Option.some.injEq] at h
      obtain ⟨⟨⟨hn, hneg⟩, hva⟩, hpos⟩ := h
      obtain ⟨hlow, hhigh⟩ := (fraction hneg hva _).mp rfl
      exact ⟨r, _, y, hr, hy, hn, hneg, hva, by rw [← hpos, ← hn, Nat.add_sub_cancel], hlow, hhigh⟩
    · cases h
  · rintro ⟨r, f, y, hr, hy, rfl, hneg, hva, rfl, hlow, hhigh⟩
    rw [crossingAt, hr, hy]
    simp only [hneg, hva, decide_true, Bool.and_self, if_true, Nat.add_sub_cancel, Option.some.injEq]
    rw [← (fraction hneg hva f).mpr ⟨hlow, hhigh⟩]

/-- Without a crossing the window stays as it is; a crossing is offered (R77). -/
theorem Window.examine_spec (w : Window) (period n : Nat) (va : Int) :
    ((∀ pos, ¬ w.Crosses n va pos) → w.examine period n va = w) ∧
      ∀ pos, w.Crosses n va pos → w.examine period n va = w.offerCrossing period pos := by
  simp only [← crossingAt_eq_some_iff]
  refine ⟨fun hnone => ?_, fun pos hpos => ?_⟩
  · rw [Window.examine, Option.eq_none_iff_forall_ne_some.mpr hnone]
  · rw [Window.examine, hpos]

/-- The first crossing is accepted, and a later one far enough beyond the last accepted (R78). -/
theorem Window.offerCrossing_spec (w : Window) (period pos : Nat) :
    (w.lastCross = none →
      w.offerCrossing period pos = { w with firstCross := some pos, lastCross := some pos, crossings := 1 }) ∧
    (∀ l, w.lastCross = some l → l + 3 * period / 4 ≤ pos →
      w.offerCrossing period pos = { w with lastCross := some pos, crossings := w.crossings + 1 }) ∧
    (∀ l, w.lastCross = some l → pos < l + 3 * period / 4 → w.offerCrossing period pos = w) := by
  refine ⟨fun h => ?_, fun l h hfar => ?_, fun l h hnear => ?_⟩ <;> rw [Window.offerCrossing, h]
  · exact if_pos hfar
  · exact if_neg (by omega)

/-- No position stands before the first, so it brings no crossing. -/
theorem Window.examine_first (w : Window) (period : Nat) (va : Int) : w.examine period 0 va = w :=
  (w.examine_spec period 0 va).1 fun _ ⟨_, _, _, _, _, h, _⟩ => absurd h (Nat.succ_ne_zero _)

/-! ## A set taken at a position (R68) -/

/-- The window with a set taken: of the crossings what the examination finds, and the rest by R68. -/
theorem Window.takeReal_eq (w : Window) (period n : Nat) (x : PairedSet) : w.takeReal period n x = { w with
    firstCross := (w.examine period n x.vals.va).firstCross, lastCross := (w.examine period n x.vals.va).lastCross
    crossings := (w.examine period n x.vals.va).crossings, covered := w.covered + 1, expected := some (x.index + 1)
    pos := n + 1, lastVals := some x.vals, lastReal := some n
    flags := { w.flags with clamped := w.flags.clamped || x.clamp } } := by
  rw [Window.takeReal, Window.examine_keeps]

/-- The point with a real set taken at position n of window w, before the window may end (R68). -/
def Point.taken (n : Nat) (x : PairedSet) (w : Window) (p : Point) : Point :=
  { p with framer := { p.framer.setBank w.bank ((p.framer.bank w.bank).fill n x.vals) with
      window := some (w.takeReal p.framer.trk.period n x) } }

theorem Point.takeAt_eq (ctx : PointCtx) (n : Nat) (x : PairedSet) (w : Window) (p : Point) : p.takeAt ctx n x w =
    if n + 1 = w.len then (p.taken n x w).windowEnd ctx else (p.taken n x w, []) := rfl

/-- The ACTIVE bank takes the set, and the rest of the framer stays. -/
theorem Point.taken_framer (n : Nat) (x : PairedSet) (w : Window) (p : Point) :
    (∀ b, p.framer.bank w.bank = .active b → (p.taken n x w).framer.bank w.bank = .active (b.add n x.vals)) ∧
      (p.taken n x w).framer.bank (otherBank w.bank) = p.framer.bank (otherBank w.bank) ∧
      (p.taken n x w).framer.trk = p.framer.trk ∧ (p.taken n x w).framer.st = p.framer.st ∧
      (p.taken n x w).framer.seq = p.framer.seq ∧ (p.taken n x w).framer.ctr = p.framer.ctr := by
  refine ⟨fun b hb => ?_, ?_⟩
  · have hbank : (p.taken n x w).framer.bank w.bank = (p.framer.bank w.bank).fill n x.vals := by
      rw [Point.taken]
      cases w.bank <;> rfl
    rw [hbank, hb]
    rfl
  · rw [Point.taken]
    cases w.bank <;> exact ⟨rfl, rfl, rfl, rfl, rfl⟩

theorem discarded_taken {r : DiscardReason} {elapsed : Nat} {p q : Point} (h : Discarded r elapsed p q) (n : Nat)
    (x : PairedSet) (w : Window) : Discarded r elapsed p (q.taken n x w) := by
  rw [Point.taken]
  cases w.bank <;> exact h

/-! ## Bridged positions (R71) -/

/-- Window w with its next k positions bridged. -/
def Window.bridgedBy (k : Nat) (w : Window) : Window :=
  { w with
    expected := w.expected.map (· + k), pos := w.pos + k, bridgedCount := w.bridgedCount + k
    flags := { w.flags with bridged := w.flags.bridged || decide (0 < k) } }

theorem Window.bridgedBy_zero (w : Window) : w.bridgedBy 0 = w := by
  cases w
  simp [Window.bridgedBy]

theorem Window.bridgedBy_succ {w : Window} {e : Nat} (he : w.expected = some e) (k : Nat) :
    w.takeBridged.bridgedBy k = w.bridgedBy (k + 1) := by
  simp [Window.bridgedBy, Window.takeBridged, he, Nat.add_assoc, Nat.add_comm 1]

/-- Bridging touches nothing an examination reads or writes. -/
theorem Window.examine_bridgedBy (w : Window) (k period n : Nat) (va : Int) :
    (w.bridgedBy k).examine period n va = (w.examine period n va).bridgedBy k := by
  have hcross : crossingAt (w.bridgedBy k) n va = crossingAt w n va := rfl
  have hlast : (w.bridgedBy k).lastCross = w.lastCross := rfl
  rw [Window.examine, Window.examine, hcross]
  cases crossingAt w n va with
  | none => rfl
  | some pos =>
    simp only [Window.offerCrossing, hlast]
    cases w.lastCross with
    | none => rfl
    | some l =>
      dsimp only
      split <;> rfl

/-- Window w with its next k positions bridged and then a set taken (R68, R71). -/
theorem Window.takeReal_bridgedBy (w : Window) (k period n : Nat) (x : PairedSet) :
    (w.bridgedBy k).takeReal period n x = { w with
      firstCross := (w.examine period n x.vals.va).firstCross, lastCross := (w.examine period n x.vals.va).lastCross
      crossings := (w.examine period n x.vals.va).crossings, covered := w.covered + 1, expected := some (x.index + 1)
      pos := n + 1, bridgedCount := w.bridgedCount + k, lastVals := some x.vals, lastReal := some n
      flags := { w.flags with
        clamped := w.flags.clamped || x.clamp, bridged := w.flags.bridged || decide (0 < k) } } := by
  rw [Window.takeReal_eq, Window.examine_bridgedBy]
  rfl

/-- The sums of window w's bank with its next k positions bridged with the last values. -/
def Window.bridgedSums (k : Nat) (w : Window) (b : BankSums) : BankSums :=
  (List.range k).foldl (fun a j => a.add (w.pos + j) (w.lastVals.getD (.const 0))) b

theorem Window.bridgedSums_succ (w : Window) (k : Nat) (b : BankSums) :
    w.takeBridged.bridgedSums k (b.add w.pos (w.lastVals.getD (.const 0))) = w.bridgedSums (k + 1) b := by
  simp only [Window.bridgedSums, List.range_succ_eq_map, List.foldl_cons, List.foldl_map, Nat.add_zero, Window.takeBridged,
    Nat.add_assoc, Nat.succ_eq_add_one, Nat.add_comm 1]

/-- The point with the next position of its window w bridged. -/
def Point.bridgeOne (w : Window) (p : Point) : Point :=
  { p with framer := { p.framer.setBank w.bank ((p.framer.bank w.bank).fill w.pos (w.lastVals.getD (.const 0))) with
      window := some w.takeBridged, ctr := { p.framer.ctr with bridgedSets := p.framer.ctr.bridgedSets + 1 } } }

theorem Point.bridge_succ {p : Point} {w : Window} (hw : p.framer.window = some w) (k : Nat) :
    p.bridge (k + 1) = (p.bridgeOne w).bridge k := by
  rw [Point.bridge, hw]
  rfl

/-- k positions bridged in the window, in its ACTIVE bank and in the count, whatever the bank (R71, R82). -/
theorem Point.bridge_spec (k : Nat) : ∀ (p : Point) (w : Window) (e : Nat), p.framer.window = some w → w.expected = some e →
    (p.bridge k).framer.window = some (w.bridgedBy k) ∧
      (p.bridge k).framer.ctr =
        { p.framer.ctr with bridgedSets := p.framer.ctr.bridgedSets + BitVec.ofNat 32 k } ∧
      ∀ b, p.framer.bank w.bank = .active b → (p.bridge k).framer.bank w.bank = .active (w.bridgedSums k b) := by
  induction k with
  | zero =>
    intro p w e hw he
    rw [Window.bridgedBy_zero]
    exact ⟨hw, by simp [Point.bridge], fun b hb => hb⟩
  | succ k ih =>
    intro p w e hw he
    obtain ⟨hwindow, hctr, hbank⟩ := ih (p.bridgeOne w) w.takeBridged (e + 1) rfl (by simp [Window.takeBridged, he])
    rw [Point.bridge_succ hw]
    refine ⟨by rw [hwindow, Window.bridgedBy_succ he], ?_, fun b hb => ?_⟩
    · have hcount (n : Counter) : n + 1 + BitVec.ofNat 32 k = n + BitVec.ofNat 32 (k + 1) := by
        rw [Nat.add_comm k, BitVec.ofNat_add, ← BitVec.add_assoc]
        rfl
      rw [hctr, ← hcount]
      rfl
    · rw [← Window.bridgedSums_succ]
      refine hbank _ ?_
      have hfilled : (p.bridgeOne w).framer.bank w.bank =
          (p.framer.bank w.bank).fill w.pos (w.lastVals.getD (.const 0)) := by
        rw [Point.bridgeOne]
        cases w.bank <;> rfl
      exact hfilled.trans (by rw [hb]; rfl)

/-! ## The ways of a set in COLLECTING (R68, R71 to R73) -/

section Frame

variable (ctx : PointCtx) {p : Point} {x : PairedSet} {w : Window} (hst : p.framer.st = .collecting)
  (hw : p.framer.window = some w)

include hst hw

/-- A window not started takes the set at position 0 (R68, 1). -/
theorem Point.startWith_collecting : p.startWith ctx x = p.takeAt ctx 0 x { w with start := some x.index } := by
  rw [Point.startWith, hst, hw]

theorem Point.frame_unstarted (hs : w.start = none) : p.frame ctx x = p.takeAt ctx 0 x { w with start := some x.index } := by
  rw [← Point.startWith_collecting ctx hst hw, Point.frame, hst, hw]
  simp only [hs]

variable {first e : Nat} (hs : w.start = some first) (he : w.expected = some e)

include hs he

theorem Point.frame_expected (h : x.index = e) : p.frame ctx x = p.takeAt ctx (x.index - first) x w := by
  rw [Point.frame, hst, hw]
  simp only [hs, he, Option.getD_some, h, if_true]

theorem Point.frame_ahead (h : e < x.index) : p.frame ctx x = p.gap ctx x (x.index - e) first w := by
  rw [Point.frame, hst, hw]
  simp only [hs, he, Option.getD_some, if_neg h.ne', h, if_true]

theorem Point.frame_behind (h : x.index < e) :
    p.frame ctx x = (p.restartWindow ctx .stepBack w).andThen (Point.startWith ctx x) := by
  rw [Point.frame, hst, hw]
  simp only [hs, he, Option.getD_some, if_neg h.ne, if_neg h.asymm]

end Frame

/-! ## A set within the window (R68, R71, R72) -/

section Within

variable (ctx : PointCtx) {p : Point} {x : PairedSet} {w : Window} (hst : p.framer.st = .collecting)
  (hw : p.framer.window = some w) {first g : Nat} (hs : w.start = some first) (he : w.expected = some (first + w.pos))
  (hx : x.index = first + w.pos + g)

include hst hw hs he hx

/-- A set whose gap is bridged or skipped within the window is taken at its position, after the bridged positions. -/
theorem Point.frame_within
    (hpolicy : g = 0 ∨ w.cfg.policy = .bridge ∧ g ≤ w.cfg.bridgeLimit ∨ w.cfg.policy = .skip) (hfit : w.pos + g + 1 ≤ w.len) :
    p.frame ctx x = (p.bridge (if w.cfg.policy = .bridge then g else 0)).takeAt ctx (w.pos + g) x
      (w.bridgedBy (if w.cfg.policy = .bridge then g else 0)) := by
  have hpos : x.index - first = w.pos + g := by omega
  have hgap : x.index - (first + w.pos) = g := by omega
  rcases Nat.eq_zero_or_pos g with rfl | hg
  · rw [ite_self, Window.bridgedBy_zero, Point.frame_expected ctx hst hw hs he hx, hpos]
    rfl
  · rw [Point.frame_ahead ctx hst hw hs he (by omega), hgap, Point.gap]
    rcases hpolicy with rfl | ⟨hp, hlimit⟩ | hp
    · exact absurd hg (lt_irrefl 0)
    · simp only [hp, if_true]
      rw [if_pos hlimit, Point.bridgeGap, if_neg (by omega)]
      simp only [(Point.bridge_spec g p w _ hw he).1, hpos]
    · simp only [hp, reduceCtorEq, if_false]
      rw [Point.skipGap, if_pos (by omega), hpos, Window.bridgedBy_zero]
      rfl

/-- A gap that skips to or beyond the end of the window ends it, and the set starts the next one (R72). -/
theorem Point.frame_skipsPast (hp : w.cfg.policy = .skip) (hin : w.pos < w.len) (hout : w.len ≤ w.pos + g) :
    p.frame ctx x = (p.windowEnd ctx).andThen (Point.startWith ctx x) := by
  rw [Point.frame_ahead ctx hst hw hs he (by omega), Point.gap]
  simp only [hp]
  rw [Point.skipGap, if_neg (by omega)]

/-- A gap within the limit that bridges to the end of the window ends it, and the set starts the next one (R71). -/
theorem Point.frame_bridgesPast (hp : w.cfg.policy = .bridge) (hlimit : g ≤ w.cfg.bridgeLimit) (hin : w.pos < w.len)
    (hout : w.len ≤ w.pos + g) :
    p.frame ctx x = ((p.bridge (w.len - w.pos)).windowEnd ctx).andThen (Point.startWith ctx x) := by
  have hgap : x.index - (first + w.pos) = g := by omega
  rw [Point.frame_ahead ctx hst hw hs he (by omega), hgap, Point.gap]
  simp only [hp]
  rw [if_pos hlimit, Point.bridgeGap, if_pos hout]

end Within

/-- A gap that nothing bridges or skips, and a step back, begin the window again with the set (R71, R73). -/
theorem Point.frame_restarts (ctx : PointCtx) {p : Point} {x : PairedSet} {w : Window} (hst : p.framer.st = .collecting)
    (hw : p.framer.window = some w) {first e : Nat} (hs : w.start = some first) (he : w.expected = some e) {r : DiscardReason}
    (hr : r = .gap ∧ e < x.index ∧ (w.cfg.policy = .restart ∨ w.cfg.policy = .bridge ∧ w.cfg.bridgeLimit < x.index - e) ∨
      r = .stepBack ∧ x.index < e) :
    p.frame ctx x = (p.restartWindow ctx r w).andThen (Point.startWith ctx x) := by
  rcases hr with ⟨rfl, hgap, hp⟩ | ⟨rfl, hback⟩
  · rw [Point.frame_ahead ctx hst hw hs he hgap, Point.gap]
    rcases hp with hp | ⟨hp, hlimit⟩ <;> simp only [hp]
    rw [if_neg (by omega)]
  · exact Point.frame_behind ctx hst hw hs he hback

/-! ## The set that starts a window (R68, R76) -/

/-- The set that starts a window longer than it is taken at position 0, with no crossing. -/
theorem Point.startWith_first (ctx : PointCtx) {p : Point} {x : PairedSet} {w : Window} (hst : p.framer.st = .collecting)
    (hw : p.framer.window = some w) (hlen : 1 < w.len) :
    (let q := p.taken 0 x { w with start := some x.index }
     p.startWith ctx x = (q, []) ∧ q.framer.window = some { w with
       start := some x.index, covered := w.covered + 1, expected := some (x.index + 1), pos := 1, lastVals := some x.vals
       lastReal := some 0, flags := { w.flags with clamped := w.flags.clamped || x.clamp } }) := by
  refine ⟨?_, congrArg some ?_⟩
  · rw [Point.startWith_collecting ctx hst hw, Point.takeAt_eq, if_neg (by simpa using hlen.ne)]
  · rw [Window.takeReal_eq, Window.examine_first]

/-- A window begun and started at once with a set: its bank holds the set alone, and the rest of the framer stays (R68, R76). -/
theorem Point.beginWindow_startWith (ctx : PointCtx) (ix : BankIx) (p : Point) (x : PairedSet)
    (hlen : 1 < p.framer.trk.nextLen) :
    (let q := (p.beginWindow ctx ix).taken 0 x { newWindow p ix with start := some x.index }
     (p.beginWindow ctx ix).startWith ctx x = (q, []) ∧
       q.framer.window = some { newWindow p ix with
         start := some x.index, covered := 1, expected := some (x.index + 1), pos := 1, lastVals := some x.vals
         lastReal := some 0, flags := { (newWindow p ix).flags with clamped := (newWindow p ix).flags.clamped || x.clamp } } ∧
       q.framer.bank ix =
         .active ((BankSums.begin p.cfg p.framer.trk.nextLen ctx.hsets[p.cfg.hset]).add 0 x.vals) ∧
       q.framer.bank (otherBank ix) = p.framer.bank (otherBank ix) ∧ q.framer.trk = p.framer.trk ∧
       q.framer.st = .collecting) := by
  obtain ⟨hst, hwindow, htrk, -, -⟩ := Point.beginWindow_framer ctx ix p
  obtain ⟨hstart, hstarted⟩ := Point.startWith_first ctx (x := x) hst hwindow hlen
  obtain ⟨hbank, hother, htrk', hst', -, -⟩ :=
    Point.taken_framer 0 x { newWindow p ix with start := some x.index } (p.beginWindow ctx ix)
  have hbegun : (p.beginWindow ctx ix).framer.bank ix =
      .active (BankSums.begin p.cfg p.framer.trk.nextLen ctx.hsets[p.cfg.hset]) := by cases ix <;> rfl
  exact ⟨hstart, hstarted, hbank _ hbegun, hother.trans (Point.beginWindow_otherBank ctx ix p).1, htrk'.trans htrk,
    hst'.trans hst⟩

/-- Settles O21: each way of a set in COLLECTING ends in a position taken, in the window's end or in a window begun again. -/
theorem windowTakesTheNextSet : Obligations.WindowTakesTheNextSet := by
  refine ⟨fun ctx p x w hst hw hs hlen => ?_, fun ctx p x w first g hst hw hs he hx hpolicy hfit => ?_,
    fun ctx p x w first e r hst hw hs he hr hwait hv hi hlen => ?_, fun ctx p x w first g hst hw hs he hin hx hout =>
      ⟨fun hp => Point.frame_skipsPast ctx hst hw hs he hx hp hin hout, fun hp hlimit => ?_⟩,
    Point.beginWindow_sums, BankSums.add_spec, fun period n va w => ?_⟩
  · obtain ⟨hframe, hwindow⟩ := Point.startWith_first ctx (x := x) hst hw hlen
    obtain ⟨hbank, -⟩ := Point.taken_framer 0 x { w with start := some x.index } p
    rw [Point.startWith_collecting ctx hst hw, ← Point.frame_unstarted ctx hst hw hs] at hframe
    exact ⟨_, _, hframe, hwindow, rfl, rfl, rfl, rfl, rfl, rfl, rfl, rfl, rfl, rfl, rfl, rfl, rfl, hbank, rfl⟩
  · intro bridged
    obtain ⟨hwindow, hctr, hsums⟩ := Point.bridge_spec bridged p w _ hw he
    obtain ⟨-, -, -, -, -, -, -, -, -, -, hother, htrk, hst', hseq, hkeep⟩ := Point.bridge_advances bridged p w _ hw he
    obtain ⟨hbank, hother', htrk', hst'', hseq', hctr'⟩ :=
      Point.taken_framer (w.pos + g) x (w.bridgedBy bridged) (p.bridge bridged)
    have hwindow' : ((p.bridge bridged).taken (w.pos + g) x (w.bridgedBy bridged)).framer.window = some _ :=
      congrArg some (Window.takeReal_bridgedBy w bridged _ (w.pos + g) x)
    rw [htrk] at hwindow'
    exact ⟨_, _, Point.frame_within ctx hst hw hs he hx hpolicy hfit, hwindow', rfl, rfl, rfl, rfl, rfl, rfl, rfl, rfl, rfl,
      rfl, rfl, ⟨rfl, rfl, rfl⟩, fun b hb => hbank _ (hsums b hb), hother'.trans hother, htrk'.trans htrk,
      hst''.trans (hst'.trans hst), hseq'.trans hseq, hctr'.trans hctr,
      congrArg (fun q : Point => { q with
        framer := ((p.bridge bridged).taken (w.pos + g) x (w.bridgedBy bridged)).framer }) hkeep⟩
  · have helapsed : w.elapsed = e - first := by rw [Window.elapsed, hs, he]; rfl
    obtain ⟨hstart, hwindow, hbank, hother, htrk, hst'⟩ :=
      Point.beginWindow_startWith ctx w.bank (p.discard r w.elapsed w).1 x hlen
    have hframe := Point.frame_restarts ctx hst hw hs he hr
    rw [Point.restartWindow, Point.discard_nextWindow ctx ⟨hwait, hv, hi⟩, PointStep.andThen, hstart] at hframe
    refine ⟨_, _, hframe, ?_, hst', hwindow, rfl, rfl, rfl, rfl, rfl, rfl, rfl, rfl, rfl, rfl, rfl, rfl, rfl, rfl, rfl, hbank,
      hother, htrk⟩
    rw [← helapsed]
    exact discarded_taken (discarded_beginWindow (Point.discard_discarded r w.elapsed w p) ctx w.bank) 0 x _
  · obtain ⟨hwindow, -, hsums⟩ := Point.bridge_spec (w.len - w.pos) p w _ hw he
    obtain ⟨-, -, -, -, -, -, -, -, -, -, hother, -⟩ := Point.bridge_advances (w.len - w.pos) p w _ hw he
    exact ⟨_, _, Point.frame_bridgesPast ctx hst hw hs he hx hp hlimit hin hout, hwindow, Nat.add_sub_of_le hin.le, rfl, rfl,
      rfl, hsums, hother⟩
  · obtain ⟨hsame, hoffered⟩ := w.examine_spec period n va
    refine ⟨hsame, fun pos hpos => ?_⟩
    rw [hoffered pos hpos]
    exact w.offerCrossing_spec period pos

end Sys2Proof.Machine
end

section
/-! SUPPORT. RESET_POINT: what it makes of a point's pairing and framing, and the stages of the reset through the part (R83, R95,
R124, R183, R202). -/

namespace Sys2Proof.Machine

/-! ## The point (R61, R83, R183) -/

/-- A reset point short of its entry into COLLECTING (R183, 3 to 5). -/
def Point.resetWith (ctx : PointCtx) (p : Point) : Point :=
  let cfg := p.waitingCfg.getD p.cfg
  { p with
    cfg := cfg, waitingCfg := none, changeMark := false, vQueue := [], iQueue := []
    pair := { p.pair with unpaired := p.pair.unpaired + BitVec.ofNat 32 (p.vQueue.length + p.iQueue.length) }
    vLocked := ctx.locked cfg.vSlot, iLocked := ctx.locked cfg.iSlot
    framer := { p.framer with
      st := if p.framer.st = .disabled then .disabled else .waiting
      window := none, bank1 := p.framer.bank1.released, bank2 := p.framer.bank2.released, trk := nominalTracker cfg }
    result := none, harmFlag := false, excessFlag := false }

theorem Point.reset_eq (ctx : PointCtx) (p : Point) : p.reset ctx =
    ((p.resetWith ctx).enterIfLocked ctx, if p.framer.trk.untracked then [.untracked false] else []) :=
  congrArg (Prod.mk ((p.resetWith ctx).enterIfLocked ctx))
    (untrackedEvents_cleared p.framer.trk (nominalTracker (p.waitingCfg.getD p.cfg)) rfl)

section Reset

variable (ctx : PointCtx) (p : Point)

theorem Point.resetWith_st : (p.resetWith ctx).framer.st = if p.framer.st = .disabled then .disabled else .waiting := rfl

theorem Point.resetWith_bank (ix : BankIx) : (p.resetWith ctx).framer.bank ix = (p.framer.bank ix).released := by
  cases ix <;> rfl

/-- An enabled point whose slots are both LOCKED collects, any other stays as the reset leaves it (R66, R183). -/
theorem Point.reset_cases :
    (p.framer.st ≠ .disabled ∧ (p.resetWith ctx).vLocked = true ∧ (p.resetWith ctx).iLocked = true ∧
      (p.reset ctx).1 = (p.resetWith ctx).beginWindow ctx (p.resetWith ctx).framer.freeIx) ∨
    (¬ (p.framer.st ≠ .disabled ∧ (p.resetWith ctx).vLocked = true ∧ (p.resetWith ctx).iLocked = true) ∧
      (p.reset ctx).1 = p.resetWith ctx) := by
  have hboth : (p.resetWith ctx).bothLocked = true ↔ (p.resetWith ctx).vLocked = true ∧ (p.resetWith ctx).iLocked = true :=
    Bool.and_eq_true_iff
  have hwait : (p.resetWith ctx).framer.st = .waiting ↔ p.framer.st ≠ .disabled := by
    rw [Point.resetWith_st]
    split <;> simp [*]
  rw [Point.reset_eq, ← hboth, ← hwait]
  rcases Point.enterIfLocked_cases ctx (p.resetWith ctx) with ⟨hst, hl, heq⟩ | ⟨hn, heq⟩
  · obtain ⟨hv, hi⟩ := hboth.mp hl
    exact .inl ⟨hst, hv, hi, heq⟩
  · exact .inr ⟨hn, heq⟩

/-- Beyond the framer, the point is as the reset leaves it; of the framer the entry keeps tracker, number and counts. -/
theorem Point.reset_keeps : (p.reset ctx).1 = { p.resetWith ctx with framer := (p.reset ctx).1.framer } ∧
    (p.reset ctx).1.framer.trk = nominalTracker (p.waitingCfg.getD p.cfg) ∧
      (p.reset ctx).1.framer.seq = p.framer.seq ∧ (p.reset ctx).1.framer.ctr = p.framer.ctr := by
  rcases Point.reset_cases ctx p with ⟨-, -, -, heq⟩ | ⟨-, heq⟩
  · obtain ⟨-, -, htrk, hseq, -⟩ := Point.beginWindow_framer ctx (p.resetWith ctx).framer.freeIx (p.resetWith ctx)
    rw [heq, htrk, hseq, (Point.beginWindow_otherBank ctx _ _).2]
    exact ⟨rfl, rfl, rfl, rfl⟩
  · rw [heq]
    exact ⟨rfl, rfl, rfl, rfl⟩

/-- COLLECTING with a window of the nominal length not started, or no window and no ACTIVE bank (R66, R83, R183). -/
theorem Point.reset_framer :
    (let q := (p.reset ctx).1
     (p.framer.st = .disabled → q.framer.st = .disabled) ∧
     (p.framer.st ≠ .disabled → q.framer.st = .waiting ∨ q.framer.st = .collecting) ∧
     (q.framer.st = .collecting ↔ p.framer.st ≠ .disabled ∧ ctx.locked q.cfg.vSlot = true ∧ ctx.locked q.cfg.iSlot = true) ∧
     (q.framer.st ≠ .collecting → q.framer.window = none ∧ ∀ ix b, q.framer.bank ix ≠ .active b) ∧
     (q.framer.st = .collecting → ∃ w b, q.framer.window = some w ∧ q.framer.bank w.bank = .active b ∧ w.start = none ∧
       w.pos = 0 ∧ w.covered = 0 ∧ w.len = nominalLength q.cfg ∧ w.cfg = q.cfg)) := by
  rcases Point.reset_cases ctx p with ⟨hst, hv, hi, heq⟩ | ⟨hn, heq⟩
  · have hbegun := Point.beginWindow_begun ctx (p.resetWith ctx).framer.freeIx (p.resetWith ctx)
    rw [← heq] at hbegun
    obtain ⟨hcoll, -, hbank, w, hw, hix, hs, hpos, hcov, -, hlen, hcfg, -⟩ := hbegun
    have hcfg' : (p.reset ctx).1.cfg = (p.resetWith ctx).cfg := by rw [heq]; rfl
    have hnominal : (p.reset ctx).1.framer.trk.nextLen = nominalLength (p.reset ctx).1.cfg := by
      rw [(Point.reset_keeps ctx p).2.1, hcfg']
      rfl
    refine ⟨fun h => absurd h hst, fun _ => .inr hcoll, ⟨fun _ => ?_, fun _ => hcoll⟩, fun h => absurd hcoll h, fun _ => ?_⟩
    · rw [hcfg']
      exact ⟨hst, hv, hi⟩
    · rw [← hix] at hbank
      exact ⟨w, _, hw, hbank, hs, hpos, hcov, hlen.trans hnominal, hcfg⟩
  · have hidle : (p.resetWith ctx).framer.st ≠ .collecting := by
      rw [Point.resetWith_st]
      split <;> simp
    rw [heq]
    refine ⟨fun h => by rw [Point.resetWith_st, if_pos h], fun h => .inl (by rw [Point.resetWith_st, if_neg h]),
      ⟨fun h => absurd h hidle, fun h => absurd h hn⟩, fun _ => ⟨rfl, fun ix b => ?_⟩, fun h => absurd h hidle⟩
    rw [Point.resetWith_bank]
    exact (Bank.released_spec _).1 b

/-- No bank becomes OUT. -/
theorem Point.reset_bank_out (ix : BankIx) (b : BankSums) (h : (p.reset ctx).1.framer.bank ix = .out b) :
    p.framer.bank ix = .out b := by
  have hreleased (hr : (p.resetWith ctx).framer.bank ix = .out b) : p.framer.bank ix = .out b := by
    rw [Point.resetWith_bank] at hr
    cases hp : p.framer.bank ix <;> simp_all [Bank.released]
  rcases Point.reset_cases ctx p with ⟨-, -, -, heq⟩ | ⟨-, heq⟩
  · obtain ⟨-, -, hactive, -⟩ := Point.beginWindow_begun ctx (p.resetWith ctx).framer.freeIx (p.resetWith ctx)
    obtain ⟨hother, -⟩ := Point.beginWindow_otherBank ctx (p.resetWith ctx).framer.freeIx (p.resetWith ctx)
    rw [heq] at h
    rcases BankIx.eq_or_other (p.resetWith ctx).framer.freeIx ix with hix | hix
    · rw [hix, hactive] at h
      cases h
    · rw [hix, hother, ← hix] at h
      exact hreleased h
  · rw [heq] at h
    exact hreleased h

/-- The window is begun in the other bank than one that stays OUT. -/
theorem Point.reset_bank_keeps (ix : BankIx) (b : BankSums) (h : p.framer.bank ix = .out b)
    (hother : ∀ x, p.framer.bank (otherBank ix) ≠ .out x) : (p.reset ctx).1.framer.bank ix = .out b := by
  have hkept : (p.resetWith ctx).framer.bank ix = .out b := by
    rw [Point.resetWith_bank]
    exact (Bank.released_spec _).2 b h
  rcases Point.reset_cases ctx p with ⟨-, -, -, heq⟩ | ⟨-, heq⟩
  · have hfree : (p.resetWith ctx).framer.bank (otherBank ix) = .free := by
      rw [Point.resetWith_bank]
      cases hp : p.framer.bank (otherBank ix) with
      | free => rfl
      | active x => rfl
      | out x => exact absurd hp (hother x)
    have hix : ix = otherBank (p.resetWith ctx).framer.freeIx := by
      cases ix with
      | first => rw [Framer.freeIx, if_neg (by rw [show (p.resetWith ctx).framer.bank1 = .out b from hkept]; simp)]; rfl
      | second => rw [Framer.freeIx, if_pos (show (p.resetWith ctx).framer.bank1 = .free from hfree)]; rfl
    rw [heq, hix, (Point.beginWindow_otherBank ctx _ _).1, ← hix]
    exact hkept
  · rw [heq]
    exact hkept

end Reset

/-! ## The tickets (R202) -/

/-- No ticket of the point is left, in whatever state it was. -/
theorem Ticket.resetFor_spec (k : Fin 24) (x : Ticket) (since : Nat) (copy : SnapshotCopy) :
    x.resetFor k ≠ .waiting k since ∧ x.resetFor k ≠ .ready k since copy := by
  cases x with
  | free => exact ⟨by simp [Ticket.resetFor], by simp [Ticket.resetFor]⟩
  | waiting j n => rw [Ticket.resetFor]; split <;> simp_all
  | ready j n c => rw [Ticket.resetFor]; split <;> simp_all

theorem State.onTickets_of_same {s t : State} (h : SameBeyondPoints s t) (f : Ticket → Ticket) : t.onTickets f = { s with
    points := t.points, finisher := t.finisher, dlv := t.dlv
    agent := { s.agent with tickets := s.agent.tickets.map f } } :=
  congrArg (State.onTickets f) h.eq

/-! ## The stages of a point reset (R183) -/

theorem State.appendIf_sameCfgs (i : Fin 24) (o : Option IntervalRecord) (s : State) :
    SameCfgs s.dlv (s.appendIf i o).dlv := by
  cases o with
  | none => exact .refl _
  | some r => exact SameCfgs.trans (e := { s.dlv with recq := s.dlv.recq.append r }) (.of_eq rfl rfl) (run_sameCfgs _ _)

section Stages

variable (s : State) (k : Fin 24)

/-- The close of the open interval: CUT, or discarded for want of room (R124). -/
def State.cut : Point × Option IntervalRecord := (s.point k).closeNow k true s.dlv.recq.freeWords

/-- The state after the interval is cut and the accounts are 0 (R124, R183, 1). -/
def State.accountsZeroed : State := (s.closeInterval k true).setPoint k ((s.closeInterval k true).point k).zeroAccounts

/-- The state after the point's Finish Queue entry is removed or abandoned too (R95, R183, 2). -/
def State.finishDropped : State := (s.accountsZeroed k).dropFinish k

/-- The state after the pairing and framing side of the reset (R183, 3 and 4). -/
def State.framingReset : State := (s.finishDropped k).onPoint k Point.reset

theorem State.resetPoint_eq :
    s.resetPoint k = ((s.framingReset k).updateConditions).onTickets (Ticket.resetFor k) := rfl

theorem State.closeInterval_eq : s.closeInterval k true = (s.setPoint k (s.cut k).1).appendIf k (s.cut k).2 := rfl

theorem State.accountsZeroed_point :
    (s.accountsZeroed k).point k = { s.point k with acc := .zero, ivl := .empty, iau := (s.cut k).1.iau } := by
  have hclosed : (s.closeInterval k true).point k = (s.cut k).1 := by
    rw [State.closeInterval_eq, State.appendIf_eq]
    exact State.setPoint_point_same _ _ _
  have hcut := (Point.closeNow_congr (p := s.point k) rfl rfl rfl k true s.dlv.recq.freeWords).2
  rw [State.accountsZeroed, State.setPoint_point_same, hclosed, State.cut, hcut]
  rfl

theorem State.accountsZeroed_other (j : Fin 24) (h : j ≠ k) : (s.accountsZeroed k).point j = s.point j := by
  rw [State.accountsZeroed, State.setPoint_point_other _ k j _ h, State.closeInterval_eq, State.appendIf_eq]
  exact State.setPoint_point_other s k j _ h

theorem State.accountsZeroed_finisher : (s.accountsZeroed k).finisher = s.finisher := by
  rw [State.accountsZeroed, State.setPoint_finisher, State.closeInterval_eq, State.appendIf_eq]
  rfl

theorem State.accountsZeroed_same : SameBeyondPoints s (s.accountsZeroed k) := by
  rw [State.accountsZeroed, State.closeInterval_eq, State.appendIf_eq]
  exact ⟨rfl, rfl, rfl, rfl, rfl, rfl, rfl, rfl⟩

theorem State.finishDropped_same : SameBeyondPoints s (s.finishDropped k) :=
  (s.accountsZeroed_same k).trans (State.dropFinish_frame k (s.accountsZeroed k)).2.1

theorem State.finishDropped_dlv : (s.finishDropped k).dlv = ((s.setPoint k (s.cut k).1).appendIf k (s.cut k).2).dlv :=
  (State.dropFinish_frame k (s.accountsZeroed k)).1

/-- But for its accounts and the bank its dropped entry frees, the point is as it was. -/
theorem State.finishDropped_point : (s.finishDropped k).point k =
    { s.point k with
      acc := .zero, ivl := .empty, iau := (s.cut k).1.iau
      framer := { (s.point k).framer with
        bank1 := ((s.finishDropped k).point k).framer.bank1, bank2 := ((s.finishDropped k).point k).framer.bank2 } } := by
  obtain ⟨-, -, -, hpoint⟩ := State.dropFinish_frame k (s.accountsZeroed k)
  rw [State.accountsZeroed_point] at hpoint
  exact hpoint

theorem State.reset_step : Point.reset (s.finishDropped k).ctx ((s.finishDropped k).point k) =
    ((Point.reset (s.finishDropped k).ctx ((s.finishDropped k).point k)).1,
      if ((s.finishDropped k).point k).framer.trk.untracked then [.untracked false] else []) := by
  rw [Point.reset_eq]

theorem State.framingReset_finisher : (s.framingReset k).finisher = (s.finishDropped k).finisher :=
  State.onPoint_finisher_of_quiet k Point.reset _ (by rw [State.reset_step]; exact quiet_cleared _)

/-! ### The whole reset -/

theorem State.resetPoint_points : (s.resetPoint k).points = (s.framingReset k).points := by
  rw [State.resetPoint_eq, State.onTickets_points, State.updateConditions_points]

theorem State.resetPoint_point :
    (s.resetPoint k).point k = (Point.reset (s.finishDropped k).ctx ((s.finishDropped k).point k)).1 := by
  rw [State.point_congr (s.resetPoint_points k), State.framingReset, State.onPoint_point_same]

theorem State.resetPoint_other (j : Fin 24) (h : j ≠ k) : (s.resetPoint k).point j = s.point j := by
  obtain ⟨-, -, hother, -⟩ := State.dropFinish_frame k (s.accountsZeroed k)
  rw [State.point_congr (s.resetPoint_points k), State.framingReset, State.onPoint_point_other k j _ _ h,
    ← s.accountsZeroed_other k j h]
  exact hother j h

theorem State.resetPoint_finisher : (s.resetPoint k).finisher = (s.finishDropped k).finisher := by
  rw [State.resetPoint_eq, State.onTickets_finisher, State.updateConditions_finisher, State.framingReset_finisher]

theorem State.resetPoint_dlv : (s.resetPoint k).dlv = (s.framingReset k).updateConditions.dlv := by
  rw [State.resetPoint_eq, State.onTickets_dlv]

/-- The record of the cut is the only one the reset appends (R124). -/
theorem State.resetPoint_appended : (s.resetPoint k).dlv.recq.appended =
    s.dlv.recq.appended + (if (s.cut k).2.isSome then 1 else 0) := by
  have hreset : (s.framingReset k).dlv.recq.appended = (s.finishDropped k).dlv.recq.appended := by
    rw [State.framingReset, State.onPoint_cleared (f := Point.reset) (s.reset_step k)]
    split
    · exact (run_recq _ _).2
    · rfl
  rw [State.resetPoint_dlv, State.updateConditions, (run_recq _ _).2, hreset, State.finishDropped_dlv, State.appendIf_appended]
  rfl

theorem State.resetPoint_sameCfgs : SameCfgs s.dlv (s.resetPoint k).dlv := by
  have hcut := State.appendIf_sameCfgs k (s.cut k).2 (s.setPoint k (s.cut k).1)
  rw [← State.finishDropped_dlv] at hcut
  rw [State.resetPoint_dlv]
  exact (hcut.trans (State.onPoint_sameTables k Point.reset (s.finishDropped k)).cfgs).trans (run_sameCfgs _ _)

/-- Beyond points, Finisher and delivery side only the tickets change (R202). -/
theorem State.resetPoint_frame : s.resetPoint k = { s with
    points := (s.resetPoint k).points, finisher := (s.resetPoint k).finisher, dlv := (s.resetPoint k).dlv
    agent := { s.agent with tickets := s.agent.tickets.map (Ticket.resetFor k) } } := by
  have hsame : SameBeyondPoints s (s.framingReset k).updateConditions :=
    ((s.finishDropped_same k).trans (State.onPoint_same k Point.reset _)).trans (State.run_same _ _)
  rw [State.resetPoint_eq, State.onTickets_points, State.onTickets_finisher, State.onTickets_dlv]
  exact State.onTickets_of_same hsame _

/-- The reset takes the source states from the slots as they stand. -/
theorem State.finishDropped_locked (j : Fin 32) : (s.finishDropped k).ctx.locked j = true ↔ (s.slot j).st = .locked := by
  obtain ⟨-, -, -, -, -, -, hslots, -⟩ := s.finishDropped_same k
  rw [PointCtx.locked, State.ctx, hslots, decide_eq_true_iff]
  rfl

/-- Beyond its framer, the point is cleared, with its pending configuration in force (R124, R183). -/
theorem State.resetPoint_pointEq :
    (let o := s.point k
     let p := (s.resetPoint k).point k
     p = { o with
       cfg := o.waitingCfg.getD o.cfg, waitingCfg := none, changeMark := false, vQueue := [], iQueue := []
       pair := { o.pair with unpaired := o.pair.unpaired + BitVec.ofNat 32 (o.vQueue.length + o.iQueue.length) }
       vLocked := p.vLocked, iLocked := p.iLocked, result := none, harmFlag := false, excessFlag := false
       acc := .zero, ivl := .empty, iau := (s.cut k).1.iau, framer := p.framer }) := by
  intro o p
  obtain ⟨hkeep, -, -, -⟩ := Point.reset_keeps (s.finishDropped k).ctx ((s.finishDropped k).point k)
  have hp : p = (Point.reset (s.finishDropped k).ctx ((s.finishDropped k).point k)).1 := s.resetPoint_point k
  rw [← hp] at hkeep
  rw [hkeep, s.finishDropped_point k]
  rfl

/-- The framer of the reset point, as its state and its slots decide (R66, R83, R183). -/
theorem State.resetPoint_framer :
    (let o := s.point k
     let p := (s.resetPoint k).point k
     (p.framer.trk = nominalTracker p.cfg ∧ p.framer.seq = o.framer.seq ∧ p.framer.ctr = o.framer.ctr) ∧
     (o.framer.st = .disabled → p.framer.st = .disabled) ∧
     (o.framer.st ≠ .disabled → p.framer.st = .waiting ∨ p.framer.st = .collecting) ∧
     (p.framer.st = .collecting ↔
       o.framer.st ≠ .disabled ∧ (s.slot p.cfg.vSlot).st = .locked ∧ (s.slot p.cfg.iSlot).st = .locked) ∧
     (p.framer.st ≠ .collecting → p.framer.window = none ∧ ∀ ix b, p.framer.bank ix ≠ .active b) ∧
     (p.framer.st = .collecting → ∃ w b, p.framer.window = some w ∧ p.framer.bank w.bank = .active b ∧ w.start = none ∧
       w.pos = 0 ∧ w.covered = 0 ∧ w.len = nominalLength p.cfg ∧ w.cfg = p.cfg)) := by
  obtain ⟨-, htrk, hseq, hctr⟩ := Point.reset_keeps (s.finishDropped k).ctx ((s.finishDropped k).point k)
  have hframer := Point.reset_framer (s.finishDropped k).ctx ((s.finishDropped k).point k)
  have hcfg := congrArg Point.cfg (s.resetPoint_pointEq k)
  have hst : ((s.finishDropped k).point k).framer.st = (s.point k).framer.st := by rw [s.finishDropped_point k]
  simp only [← State.resetPoint_point, State.finishDropped_locked, hst] at htrk hseq hctr hframer
  rw [s.finishDropped_point k] at htrk hseq hctr
  exact ⟨⟨htrk.trans (congrArg nominalTracker hcfg.symm), hseq, hctr⟩, hframer⟩

/-- The finish under way is abandoned, and its bank stays OUT (R95). -/
theorem State.resetPoint_abandons (hu : s.finisher.under k) :
    (s.resetPoint k).finisher = { s.finisher with active := s.finisher.active.map fun a => { a with abandoned := true } } ∧
      ∀ ix b, (s.point k).framer.bank ix = .out b → (∀ x, (s.point k).framer.bank (otherBank ix) ≠ .out x) →
        ((s.resetPoint k).point k).framer.bank ix = .out b := by
  obtain ⟨hfinisher, hpoint⟩ := State.dropFinish_abandons (i := k) (s := s.accountsZeroed k)
    (by rw [State.accountsZeroed_finisher]; exact hu)
  rw [State.accountsZeroed_finisher] at hfinisher
  refine ⟨(s.resetPoint_finisher k).trans hfinisher, fun ix b hb hother => ?_⟩
  rw [State.resetPoint_point]
  refine Point.reset_bank_keeps _ _ ix b ?_ ?_ <;> rw [State.finishDropped, hpoint, State.accountsZeroed_point]
  · exact hb
  · exact hother

/-- A waiting entry leaves the queue with its bank OUT no more, and the entries of other points stay (R95). -/
theorem State.resetPoint_removes (hu : ¬ s.finisher.under k) :
    (let f := s.finisher
     let t := s.resetPoint k
     (∀ e ∈ f.queue, e.point = k → (∀ x ∈ f.queue, x.point = k → x = e) → ∀ b, (t.point k).framer.bank e.bank ≠ .out b) ∧
       t.finisher = { f with queue := t.finisher.queue } ∧ (∀ e ∈ t.finisher.queue, e.point ≠ k) ∧
       t.finisher.queue.filter (fun e => e.point ≠ k) = f.queue.filter fun e => e.point ≠ k) := by
  obtain ⟨hfinisher, hnone, hrest, hfreed, -⟩ := State.dropFinish_removes (i := k) (s := s.accountsZeroed k)
    (by rw [State.accountsZeroed_finisher]; exact hu)
  rw [State.accountsZeroed_finisher] at hfinisher hrest hfreed
  intro f t
  rw [show t.finisher = (s.finishDropped k).finisher from s.resetPoint_finisher k]
  refine ⟨fun e he hk honly b hb => ?_, hfinisher, hnone, hrest⟩
  rw [State.resetPoint_point] at hb
  have hout := Point.reset_bank_out _ _ _ _ hb
  rw [State.finishDropped, hfreed e he hk honly] at hout
  cases hout

end Stages

/-- Settles O43: the reset stage by stage, and what each stage leaves of the point, its finish and its tickets. -/
theorem resetPointClearsThePoint : Obligations.ResetPointClearsThePoint := by
  intro s h i h0 hm
  have hserve : ∀ x, serveResetPoint i.toNat (joined s) = x → exec (.resetPoint h i) s =
      .next (answered h .resetPoint x.status x.count x.data x.state) := fun x hx => by
    rw [exec, execResetPoint]
    exact request_served s h .resetPoint 0 i 0 [] h0 hm (by decide) x hx
  refine ⟨fun hi => ?_, fun k hk => ⟨(joined s).resetPoint k, ?_, ?_⟩⟩
  · have hnone : toIndex 24 i.toNat = none := by rw [toIndex, dif_neg (by omega)]
    exact hserve (refuse .badIndex (joined s)) (by rw [serveResetPoint, hnone])
  · exact hserve (answerOk 0 ((joined s).resetPoint k)) (by rw [serveResetPoint, ← hk, toIndex_val])
  · have hpoint := State.resetPoint_pointEq (joined s) k
    obtain ⟨⟨htrk, hseq, hctr⟩, hdisabled, henabled, hcollecting, hidle, hbegun⟩ := State.resetPoint_framer (joined s) k
    have hframe := State.resetPoint_frame (joined s) k
    have hagent := congrArg State.agent hframe
    obtain ⟨halerts, hchannels⟩ := State.resetPoint_sameCfgs (joined s) k
    refine ⟨?_, fun j hj => State.resetPoint_other (joined s) k j hj, hagent, fun q since copy => ?_,
      ⟨fun hu => (State.resetPoint_abandons (joined s) k hu).1, fun e rest b hq he ha => ?_, fun hu => ?_, fun hu => ?_⟩,
      halerts, hchannels, ?_⟩
    · exact ⟨congrArg Point.acc hpoint, congrArg Point.ivl hpoint, congrArg Point.result hpoint,
        congrArg Point.harmFlag hpoint, congrArg Point.excessFlag hpoint, congrArg Point.vQueue hpoint,
        congrArg Point.iQueue hpoint, congrArg Point.waitingCfg hpoint, congrArg Point.changeMark hpoint,
        congrArg Tracker.untracked htrk, hseq, congrArg Point.cfg hpoint, htrk, hctr, (congrArg Point.finished hpoint :),
        (congrArg Point.iau hpoint :), congrArg Point.pair hpoint, hdisabled, henabled, hcollecting, hidle, hbegun,
        State.resetPoint_appended (joined s) k⟩
    · rw [hagent, Fin.getElem_fin, Vector.getElem_map]
      exact Ticket.resetFor_spec k _ since copy
    · exact (State.resetPoint_abandons (joined s) k ⟨e, rest, hq, he, ha⟩).2 e.bank b
    · exact (State.resetPoint_removes (joined s) k hu).1
    · exact (State.resetPoint_removes (joined s) k hu).2
    · rw [hagent]
      exact hframe

end Sys2Proof.Machine
end

section
/-! SUPPORT. The Finisher: the begin of the head entry, and what follows when the head has left the queue (R92, R94, R95). -/

namespace Sys2Proof.Machine

/-! ## The begin of a finish (R92, R94) -/

/-- The idle Finisher begins the head entry with the duration of its orders and the profile as it stands. -/
theorem State.beginFinish_begins {s : State} {e : FinishEntry} {rest : List FinishEntry} {b : BankSums}
    (ha : s.finisher.active = none) (hq : s.finisher.queue = e :: rest)
    (hb : (s.point e.point).framer.bank e.bank = .out b) :
    s.beginFinish = { s with finisher := { s.finisher with
      active := some { due := s.clock + (1000 + 250 * b.orders.length), limits := s.finisher.limits[e.cfg.limit]
                       abandoned := false } } } := by
  simp only [State.beginFinish, ha, hq, hb, finishDuration]

/-- A Finisher at work, or with nothing to do, begins nothing. -/
theorem State.beginFinish_stays {s : State} (h : s.finisher.active.isSome = true ∨ s.finisher.queue = []) :
    s.beginFinish = s := by
  rw [State.beginFinish]
  split
  · rename_i ha hq
    rw [ha, hq] at h
    simp at h
  · rfl

/-- Settles O23: the row is the begin of the head entry, which needs an idle Finisher and an entry. -/
theorem finishBeginReadsTheProfile : Obligations.FinishBeginReadsTheProfile := by
  intro s hr
  have hexec : exec .finishBegin s = .next s.beginFinish := by
    rw [exec, execFinishBegin, State.event_out_of_reset s _ hr]
  refine ⟨fun e rest b ha hq hb => ?_, fun h => ?_⟩
  · rw [hexec, State.beginFinish_begins ha hq hb]
  · rw [hexec, State.beginFinish_stays h]

/-! ## The head leaves the queue (R94) -/

/-- The Finisher idle once its head has left. -/
def State.headLeft (s : State) : State :=
  { s with finisher := { s.finisher with queue := s.finisher.queue.drop 1, active := none } }

theorem State.nextFinish_headLeft (s : State) : s.nextFinish = s.headLeft.beginFinish := rfl

theorem State.nextFinish_points (s : State) : s.nextFinish.points = s.points := by
  rw [State.nextFinish_headLeft, State.beginFinish_points, State.headLeft]

/-- The head leaves, and beyond the queue and the finish under way nothing changes. -/
theorem State.nextFinish_eq (s : State) : s.nextFinish = { s with finisher := { s.finisher with
    queue := s.finisher.queue.drop 1, active := s.nextFinish.finisher.active } } := by
  rw [State.nextFinish_headLeft, State.beginFinish_eq, State.headLeft]

/-- After a head that leaves, the next one is begun as the whole part then stands. -/
theorem State.nextFinish_begun {s u : State} (hclock : u.clock = s.clock) (hqueue : u.finisher.queue = s.finisher.queue)
    (hlimits : u.finisher.limits = s.finisher.limits) : NextFinishBegun s u.nextFinish := by
  rw [NextFinishBegun, ← hclock, ← hqueue, ← hlimits]
  refine ⟨fun h => ?_, fun e rest b hq hb => ?_⟩
  · exact congrArg (·.finisher.active) (State.beginFinish_stays (s := u.headLeft) (.inr h))
  · rw [State.point_congr u.nextFinish_points] at hb
    exact congrArg (·.finisher.active) (State.beginFinish_begins (s := u.headLeft) rfl hq hb)

/-! ## An abandoned finish (R95) -/

theorem State.endAbandoned_points (e : FinishEntry) (s : State) :
    (s.endAbandoned e).points = (s.setPoint e.point ((s.point e.point).freeBank e.bank)).points := by
  rw [State.endAbandoned, State.nextFinish_points]

/-- Beyond its bank and the Finisher, the end of an abandoned finish changes nothing. -/
theorem State.endAbandoned_eq (e : FinishEntry) (s : State) : s.endAbandoned e = { s with
    points := (s.endAbandoned e).points, finisher := (s.endAbandoned e).finisher } := by
  rw [State.endAbandoned, State.nextFinish_eq]
  rfl

/-- Settles O25: the bank, the count and the queue are all that the end of an abandoned finish touches. -/
theorem abandonedFinishOnlyFrees : Obligations.AbandonedFinishOnlyFrees := by
  intro s hr
  refine ⟨fun h => ?_, fun e a h => ⟨s.endAbandoned e, ?_, ?_, fun i hi => ?_, ?_, ?_, s.endAbandoned_eq e⟩⟩
  · rw [exec, execAbandonedFinish, State.event_out_of_reset s _ hr, h]
  · rw [exec, execAbandonedFinish, State.event_out_of_reset s _ hr, h]
  · rw [State.point_congr (s.endAbandoned_points e), State.setPoint_point_same, Point.freeBank]
  · rw [State.point_congr (s.endAbandoned_points e), State.setPoint_point_other _ _ _ _ hi]
  · exact congrArg State.finisher (State.nextFinish_eq _)
  · exact State.nextFinish_begun rfl rfl rfl

end Sys2Proof.Machine
end

section
/-! SUPPORT. Snapshot tickets: which ticket an issue takes, when a finish is outstanding, and what a completion makes of a ticket
(R198, R199). -/

namespace Sys2Proof.Machine

/-! ## An outstanding finish (R198) -/

/-- Some entry of a queue is of the point, its head or one that waits behind it. -/
theorem any_point_iff (k : Fin 24) (q : List FinishEntry) : (q.any fun x => x.point = k) = true ↔
    (∃ e ∈ q.drop 1, e.point = k) ∨ ∃ e rest, q = e :: rest ∧ e.point = k := by
  cases q with
  | nil => simp
  | cons e rest => simp [or_comm]

/-- An abandoned finish is the only one of a point in the queue that is not outstanding. -/
theorem Finisher.outstanding_iff (k : Fin 24) (f : Finisher) : f.outstanding k = true ↔
    (∃ e ∈ f.queue.drop 1, e.point = k) ∨
      ∃ e rest, f.queue = e :: rest ∧ e.point = k ∧ ∀ a, f.active = some a → a.abandoned = false := by
  rw [Finisher.outstanding]
  cases ha : f.active with
  | none => simpa using any_point_iff k f.queue
  | some a =>
    cases hq : f.queue with
    | nil => simp
    | cons e rest => simp [or_comm]

/-! ## The issue of a ticket (R198) -/

theorem Agent.freeTicket_eq_none {a : Agent} (h : ∀ q : Fin 4, a.tickets[q] ≠ .free) : a.freeTicket = none := by
  rw [Agent.freeTicket, List.find?_eq_none]
  intro q _
  simpa using h q

theorem Agent.freeTicket_eq_some {a : Agent} {q : Fin 4} (hq : a.tickets[q] = .free)
    (hlow : ∀ r : Fin 4, r < q → a.tickets[r] ≠ .free) : a.freeTicket = some q := by
  rw [Agent.freeTicket, List.find?_eq_some_iff_getElem]
  refine ⟨by simpa using hq, q.val, by simp, by simp, fun j hj => ?_⟩
  simpa using hlow ⟨j, by omega⟩ hj

/-- The ticket of an issue waits for a finish or a window under way, and is READY with its copy otherwise. -/
theorem issuedTicket_eq (k : Fin 24) (s : State) : issuedTicket k s =
    if s.finisher.outstanding k ∨ (s.point k).framer.st = .collecting then .waiting k (timebase s)
    else .ready k (timebase s) (snapshotCopy k (timebase s) (s.point k)) := by
  rw [issuedTicket]
  simp only [Bool.or_eq_true, decide_eq_true_eq]

/-- The issue for a point when ticket q is the lowest FREE one. -/
theorem serveIssue_ticket {s : State} {q : Fin 4} (hq : s.agent.freeTicket = some q) (k : Fin 24) :
    serveIssue k.val s = if (s.point k).cfg.enabled = false then refuse .badState s
      else retryTicket q { s with agent := { s.agent with
        tickets := s.agent.tickets.set q (issuedTicket k s), issued := s.agent.issued + 1 } } := by
  rw [serveIssue, toIndex_val]
  simp only [hq, Bool.not_eq_true']
  rfl

/-! ## The copy (R199) -/

/-- A ticket that is not WAITING for the completed point stays as it is. -/
theorem Ticket.complete_other {k : Fin 24} {t : Ticket} (h : ∀ since, t ≠ .waiting k since) (now : Nat) (p : Point) :
    t.complete k now p = t := by
  cases t with
  | free => rfl
  | ready j since c => rfl
  | waiting j since => rw [Ticket.complete, if_neg (by rintro rfl; exact h since rfl)]

/-- Settles O51: the checks of an issue in order, the outstanding finish, and the copy with the completion that makes it. -/
theorem snapshotIssueTakesTheLowestTicket : Obligations.SnapshotIssueTakesTheLowestTicket := by
  refine ⟨fun s h i h0 hm => ?_, Finisher.outstanding_iff, fun k now p => ?_⟩
  · have hserve : ∀ x, serveIssue i.toNat (joined s) = x → exec (.snapshotIssue h i) s =
        .next (answered h .snapshot x.status x.count x.data x.state) := fun x hx => by
      rw [exec, execSnapshotIssue]
      exact request_served s h .snapshot 0 i 0 [] h0 hm (by decide) x hx
    refine ⟨fun hi => ?_, fun k hk => ⟨fun hfull => ?_, fun q hq hlow => ?_⟩⟩
    · have hnone : toIndex 24 i.toNat = none := by rw [toIndex, dif_neg (by omega)]
      exact hserve (refuse .badIndex (joined s)) (by rw [serveIssue, hnone])
    · have hnone : (joined s).agent.freeTicket = none := Agent.freeTicket_eq_none hfull
      exact hserve (refuse .busy (joined s)) (by rw [serveIssue, ← hk, toIndex_val]; simp only [hnone])
    · have hissue := serveIssue_ticket (s := joined s) (Agent.freeTicket_eq_some hq hlow) k
      rw [hk, issuedTicket_eq] at hissue
      split
      · rename_i hoff
        rw [joined_point, if_pos hoff] at hissue
        exact hserve _ hissue
      · rename_i hon
        rw [joined_point, if_neg hon] at hissue
        exact hserve _ hissue
  · refine ⟨rfl, rfl, rfl, rfl, fun h => ?_, fun r h => ?_, fun since => ?_, fun t ht => Ticket.complete_other ht now p⟩
    · rw [snapshotCopy, h]; rfl
    · rw [snapshotCopy, h]; rfl
    · rw [Ticket.complete, if_pos rfl]

end Sys2Proof.Machine
end

section
/-! SUPPORT. A window result read signal by signal: the phasors of each order, the powers and flags they make, and the totals of
the currents (R96 to R101). -/

namespace Sys2Proof.Machine

/-! ## The signals of a bank (R88) -/

theorem mem_summedSignals_true (sig : Seven Int → Int) : sig ∈ summedSignals true ↔
    sig = Seven.ia ∨ sig = Seven.ib ∨ sig = Seven.ic ∨ sig = Seven.va ∨ sig = Seven.vb ∨ sig = Seven.vc ∨ sig = Seven.inn := by
  simp [summedSignals]

/-- What is done to each of the seven values is done to every signal. -/
theorem Seven.map_signal (f : Int → Int) (x : Seven Int) {sig : Seven Int → Int} (h : sig ∈ summedSignals true) :
    sig (x.map f) = f (sig x) := by
  rcases (mem_summedSignals_true sig).mp h with rfl | rfl | rfl | rfl | rfl | rfl | rfl <;> rfl

/-- The values in their wire order are those of the signals. -/
theorem Seven.mem_toList (x : Seven Int) (y : Int) : y ∈ x.toList ↔ ∃ sig ∈ summedSignals true, sig x = y := by
  simp only [Seven.toList, summedSignals, List.mem_cons, List.mem_append, if_true, List.not_mem_nil, or_false,
    exists_eq_or_imp, exists_eq_left, or_assoc]
  tauto

/-! ## Phasors (R96) -/

/-- The clamp is the greater of the lower bound and the lesser of the upper one. -/
theorem clampTo_eq_max_min {b : Int} (hb : 0 ≤ b) (x : Int) : clampTo b x = max (-b) (min b x) := by
  rw [clampTo]
  split
  · omega
  · split <;> omega

theorem phasorPart_eq (d : Nat) (sum : Int) :
    phasorPart d sum = max (-16777215) (min 16777215 (roundDiv (2 * sum) (32767 * d))) :=
  clampTo_eq_max_min (by decide) _

/-- An order is clamped when the clamp changes a component of one of its signals. -/
theorem phasorClamped_iff (d : Nat) (o : OrderSums) : phasorClamped d o = true ↔
    ∃ sig ∈ summedSignals true,
      phasorPart d (sig o.re) ≠ phasorRaw d (sig o.re) ∨ phasorPart d (sig o.im) ≠ phasorRaw d (sig o.im) := by
  simp only [phasorClamped, List.any_append, Bool.or_eq_true, List.any_eq_true, decide_eq_true_eq, Seven.mem_toList]
  constructor
  · rintro (⟨_, ⟨sig, hs, rfl⟩, h⟩ | ⟨_, ⟨sig, hs, rfl⟩, h⟩)
    · exact ⟨sig, hs, .inl h⟩
    · exact ⟨sig, hs, .inr h⟩
  · rintro ⟨sig, hs, h | h⟩
    · exact .inl ⟨_, ⟨sig, hs, rfl⟩, h⟩
    · exact .inr ⟨_, ⟨sig, hs, rfl⟩, h⟩

/-! ## Exceed flags and the excess (R99 to R101) -/

theorem exceeds_iff (lim : Nat) (re im : Int) :
    exceeds lim re im = true ↔ lim ≠ 0 ∧ 2 * (lim : Int) ^ 2 < re ^ 2 + im ^ 2 := by
  simp [exceeds]

/-- The flag of an order: a phase current beyond its limit, or with use neutral on IN of a triplen order beyond its own. -/
theorem exceedFlag_iff (l : LimitProfile) (neutral : Bool) (h : Nat) (re im : Seven Int) : exceedFlag l neutral h re im = true ↔
    2 ≤ h ∧ ((l.order h ≠ 0 ∧ ∃ sig ∈ [Seven.ia, Seven.ib, Seven.ic],
        2 * (l.order h : Int) ^ 2 < sig re ^ 2 + sig im ^ 2) ∨
      (neutral = true ∧ h % 3 = 0 ∧ l.triplen ≠ 0 ∧ 2 * (l.triplen : Int) ^ 2 < re.inn ^ 2 + im.inn ^ 2)) := by
  simp only [exceedFlag, Bool.and_eq_true, Bool.or_eq_true, exceeds_iff, decide_eq_true_eq, beq_iff_eq, List.mem_cons,
    List.not_mem_nil, or_false, exists_eq_or_imp, exists_eq_left, and_or_left, or_assoc, and_assoc]

theorem nonFundFlag_iff (l : LimitProfile) (ia ib ic : CurrentTotals) : nonFundFlag l ia ib ic = true ↔
    l.nonFund ≠ 0 ∧ (l.nonFund ^ 2 < ia.nonFund ∨ l.nonFund ^ 2 < ib.nonFund ∨ l.nonFund ^ 2 < ic.nonFund) := by
  simp [nonFundFlag, or_assoc]

theorem reactiveExcess_cast (tan : Nat) (p q : Int) : (reactiveExcess tan p q : Int) = max 0 (|q| - tan * |p| / 1000) := by
  have hfloor : ((tan * p.natAbs / 1000 : Nat) : Int) = tan * |p| / 1000 := by
    rw [Int.natCast_ediv, Nat.cast_mul, Int.natCast_natAbs]; rfl
  rw [reactiveExcess, ← hfloor, ← Int.natCast_natAbs]
  omega

/-- The orders of a result are those of the bank, each with its own block. -/
theorem finishResult_order {e : FinishEntry} {b : BankSums} {l : LimitProfile} {j : Nat} {o : OrderSums}
    (h : b.orders[j]? = some o) :
    (finishResult e b l).orders[j]? = some (orderResult (finishDivisor e) b.neutral l o) := by
  simp only [finishResult, List.getElem?_map, h, Option.map_some]

theorem finishResult_clamped (e : FinishEntry) (b : BankSums) (l : LimitProfile) :
    (finishResult e b l).flags.clamped = true ↔
      e.flags.clamped = true ∨ ∃ o ∈ b.orders, phasorClamped (finishDivisor e) o = true := by
  simp only [finishResult, Bool.or_eq_true, List.any_eq_true]

/-- Settles O26: the result is read field by field, its orders and the clamp mark through the seven signals. -/
theorem resultTotalsAndExcess : Obligations.ResultTotalsAndExcess := by
  intro e b l
  refine ⟨⟨⟨rfl, rfl⟩, ⟨rfl, rfl⟩, ⟨rfl, rfl⟩, fun h => ?_, fun h => ?_⟩, nonFundFlag_iff l _ _ _, reactiveExcess_cast _ _ _,
    List.length_map _, ?_, ?_⟩
  · simp only [finishResult, h, if_true]
    exact ⟨rfl, rfl⟩
  · simp only [finishResult, h, Bool.false_eq_true, if_false]
  · intro j o ho
    refine ⟨_, finishResult_order ho, rfl, fun sig hsig => ?_, rfl, rfl, exceedFlag_iff l b.neutral o.order _ _⟩
    exact ⟨(Seven.map_signal _ o.re hsig).trans (phasorPart_eq _ _), (Seven.map_signal _ o.im hsig).trans (phasorPart_eq _ _)⟩
  · rw [finishResult_clamped]
    simp only [phasorClamped_iff, phasorPart_eq]
    exact Iff.rfl

end Sys2Proof.Machine
end

section
/-! SUPPORT. The account of a window in the whole part, and the completion of a finish stage by stage (R102, R104, R105, R114,
R121, R199). -/

namespace Sys2Proof.Machine

/-! ## The account of a point (R114) -/

/-- Of the point, an account changes the accumulators, the open interval and their counters alone. -/
theorem Point.account_point (i : Fin 24) (len room : Nat) (r : WindowResult) (p : Point) :
    (p.account i len room r).point = { p with
      acc := (p.account i len room r).point.acc, ivl := (p.account i len room r).point.ivl
      iau := (p.account i len room r).point.iau } := by
  cases hf : p.ivl.fields with
  | none => rw [Point.account_opens i len room r p hf]; rfl
  | some f =>
    cases hc : closeNeeded len (intervalNumber len r.start) r f with
    | false => rw [Point.account_joins i len room r p f hf hc]; rfl
    | true =>
      rcases Nat.lt_or_ge room (28 + 5 * f.orders.length) with hr | hr
      · rw [Point.account_merges i len room r p f hf hc hr]; rfl
      · rw [Point.account_closes i len room r p f hf hc hr]; rfl

/-- A published result is neither read nor touched by the account. -/
theorem Point.account_publish (i : Fin 24) (len room : Nat) (r v : WindowResult) (p : Point) :
    (p.publish v).account i len room r =
      { p.account i len room r with point := (p.account i len room r).point.publish v } := by
  have hivl : (p.publish v).ivl = p.ivl := rfl
  cases hf : p.ivl.fields with
  | none => rw [Point.account_opens i len room r _ (hivl ▸ hf), Point.account_opens i len room r p hf]; rfl
  | some f =>
    cases hc : closeNeeded len (intervalNumber len r.start) r f with
    | false => rw [Point.account_joins i len room r _ f (hivl ▸ hf) hc, Point.account_joins i len room r p f hf hc]; rfl
    | true =>
      rcases Nat.lt_or_ge room (28 + 5 * f.orders.length) with hr | hr
      · rw [Point.account_merges i len room r _ f (hivl ▸ hf) hc hr, Point.account_merges i len room r p f hf hc hr]; rfl
      · rw [Point.account_closes i len room r _ f (hivl ▸ hf) hc hr, Point.account_closes i len room r p f hf hc hr]; rfl

/-! ## The account in the whole part (R105, R121, R122) -/

section Account

variable (i : Fin 24) (r : WindowResult) (s : State)

/-- What accounting a window of point i gives with the room the Record Queue has. -/
def State.accountOf : Accounted := (s.point i).account i s.device.intervalLen s.dlv.recq.freeWords r

/-- The state before RECORD_MERGED is told: the point accounted, and its record appended. -/
def State.recorded : State := (s.setPoint i (s.accountOf i r).point).appendIf i (s.accountOf i r).appended

/-- RECORD_MERGED is all that a merge tells beside the account. -/
theorem State.accountWindow_eq : s.accountWindow i r =
    (s.recorded i r).run (if (s.accountOf i r).merged then [.edge 9 (BitVec.ofNat 32 i.val)] else []) := by
  have hsplit : s.accountWindow i r =
      if (s.accountOf i r).merged then (s.recorded i r).raise 9 i.val else s.recorded i r := rfl
  rw [hsplit]
  split
  · rfl
  · exact (run_nil _).symm

theorem State.accountWindow_points :
    (s.accountWindow i r).points = (s.setPoint i (s.accountOf i r).point).points := by
  rw [State.accountWindow_eq, State.run_points, State.recorded, State.appendIf_eq]

theorem State.accountWindow_same : SameBeyondPoints s (s.accountWindow i r) := by
  rw [State.accountWindow_eq, State.recorded, State.appendIf_eq]
  exact ⟨rfl, rfl, rfl, rfl, rfl, rfl, rfl, rfl⟩

theorem State.accountWindow_appended : (s.accountWindow i r).dlv.recq.appended =
    s.dlv.recq.appended + (if (s.accountOf i r).appended.isSome then 1 else 0) := by
  rw [State.accountWindow_eq, (run_recq _ _).2, State.recorded, State.appendIf_appended, State.setPoint_dlv]

/-- With the push side at rest the record stays at the tail of the queue. -/
theorem State.accountWindow_records (h : PushAtRest s.dlv) :
    (s.accountWindow i r).dlv.recq.records = s.dlv.recq.records ++ (s.accountOf i r).appended.toList := by
  obtain ⟨hrest, hrecords⟩ := State.appendIf_atRest i (s.accountOf i r).appended (s.setPoint i (s.accountOf i r).point) h
  rw [← State.recorded] at hrest hrecords
  have hmerge : ∀ t ∈ (if (s.accountOf i r).merged then [Task.edge 9 (BitVec.ofNat 32 i.val)] else []), t.atRest := by
    split
    · exact List.forall_mem_singleton.mpr trivial
    · exact List.forall_mem_nil _
  rw [State.accountWindow_eq, (State.run_atRest _ hmerge _ hrest).2, hrecords, State.setPoint_dlv]

/-- An account tells of QUEUE_HIGH, INTERVAL_CLOSED and RECORD_MERGED alone. -/
theorem State.accountWindow_sameReport {n : Fin 20} (hn : n.val < 7) :
    SameReport (s.dlv.alert n) ((s.accountWindow i r).dlv.alert n) := by
  have happ := State.appendIf_sameReport i (s.accountOf i r).appended (s.setPoint i (s.accountOf i r).point) hn
  have hmerge : ∀ t ∈ (if (s.accountOf i r).merged then [Task.edge 9 (BitVec.ofNat 32 i.val)] else []), ¬ t.tells n := by
    split
    · refine List.forall_mem_singleton.mpr fun e => ?_
      rw [Task.tells] at e
      subst e
      exact absurd hn (by decide)
    · exact List.forall_mem_nil _
  rw [State.accountWindow_eq]
  exact happ.trans (State.run_untold n (outsideCascade_of_lt (by omega)) _ _ hmerge)

theorem State.accountWindow_sameCfgs : SameCfgs s.dlv (s.accountWindow i r).dlv := by
  rw [State.accountWindow_eq]
  exact (State.appendIf_sameCfgs i (s.accountOf i r).appended (s.setPoint i (s.accountOf i r).point)).trans (run_sameCfgs _ _)

end Account

/-! ## The stages of a completion (R102) -/

section Complete

variable (i : Fin 24) (r : WindowResult) (s : State)

/-- The state with the result and its flags in the point (R102, 1). -/
def State.withResult : State := s.setPoint i ((s.point i).publish r)

/-- The state with the conditions updated too (R102, 2; R104). -/
def State.published : State := (s.withResult i r).updateConditions

/-- The state with the window accounted too (R102, 3). -/
def State.accounted : State := (s.published i r).accountWindow i r

/-- The room the account finds in the Record Queue. -/
def State.accountRoom : Nat := (s.published i r).dlv.recq.freeWords

/-- The account of the completed window, of the point as it was. -/
def State.completed : Accounted := (s.point i).account i s.device.intervalLen (s.accountRoom i r) r

theorem State.published_point : (s.published i r).point i = (s.point i).publish r := by
  rw [State.published, State.point_congr (State.updateConditions_points _), State.withResult, State.setPoint_point_same]

theorem State.published_accountOf : (s.published i r).accountOf i r =
    { s.completed i r with point := (s.completed i r).point.publish r } := by
  rw [State.accountOf, State.published_point, State.published, State.updateConditions_device, State.withResult,
    State.setPoint_device]
  exact Point.account_publish i s.device.intervalLen (s.accountRoom i r) r r (s.point i)

theorem State.accounted_points : (s.accounted i r).points =
    ((s.published i r).setPoint i ((s.completed i r).point.publish r)).points := by
  rw [State.accounted, State.accountWindow_points, State.published_accountOf]

theorem State.accounted_point : (s.accounted i r).point i = (s.completed i r).point.publish r := by
  rw [State.point_congr (s.accounted_points i r), State.setPoint_point_same]

theorem State.accounted_other (j : Fin 24) (h : j ≠ i) : (s.accounted i r).point j = s.point j := by
  rw [State.point_congr (s.accounted_points i r), State.setPoint_point_other _ i j _ h, State.published,
    State.point_congr (State.updateConditions_points _), State.withResult, State.setPoint_point_other _ i j _ h]

theorem State.accounted_same : SameBeyondPoints s (s.accounted i r) :=
  SameBeyondPoints.trans (t := s.published i r) (State.run_same _ (s.withResult i r)) (State.accountWindow_same i r _)

theorem State.accounted_finisher : (s.accounted i r).finisher = s.finisher := by
  rw [State.accounted, State.accountWindow_finisher, State.published, State.updateConditions_finisher, State.withResult,
    State.setPoint_finisher]

/-- The update of the conditions appends no record, and frees room if anything. -/
theorem State.accountRoom_bounds : s.dlv.recq.freeWords ≤ s.accountRoom i r ∧ s.accountRoom i r ≤ Config.queueWords :=
  ⟨Nat.sub_le_sub_left (run_words_le (s.withResult i r) _) _, Nat.sub_le _ _⟩

theorem State.accounted_appended : (s.accounted i r).dlv.recq.appended =
    s.dlv.recq.appended + (if (s.completed i r).appended.isSome then 1 else 0) := by
  rw [State.accounted, State.accountWindow_appended, State.published_accountOf, State.published, State.updateConditions,
    (run_recq _ _).2, State.withResult, State.setPoint_dlv]

/-- With the push side at rest the room is that before the event, and the record stays at the tail of the queue. -/
theorem State.accounted_records (h : PushAtRest s.dlv) : s.accountRoom i r = s.dlv.recq.freeWords ∧
    (s.accounted i r).dlv.recq.records = s.dlv.recq.records ++ (s.completed i r).appended.toList := by
  obtain ⟨hrest, hrecords⟩ := State.run_atRest [.levels [harmonicReport (s.withResult i r).points,
    excessReport (s.withResult i r).points]] (List.forall_mem_singleton.mpr trivial) (s.withResult i r) h
  rw [← State.updateConditions, ← State.published] at hrest hrecords
  refine ⟨?_, ?_⟩
  · rw [State.accountRoom, RecordQueue.freeWords, RecordQueue.words, hrecords]
    rfl
  · rw [State.accounted, State.accountWindow_records i r _ hrest, hrecords, State.published_accountOf, State.withResult,
      State.setPoint_dlv]

/-- Once the window is accounted both conditions tell the flags as they were published (R104). -/
theorem State.accounted_told {n : Fin 20} (hn : n = 5 ∨ n = 6) :
    (let m := mapOf fun j : Fin 24 => ((s.withResult i r).point j).cfg.enabled &&
       (if n = 5 then ((s.withResult i r).point j).harmFlag else ((s.withResult i r).point j).excessFlag)
     ((s.accounted i r).dlv.alert n).active = decide (m ≠ 0) ∧
       ((s.accounted i r).dlv.alert n).detail = BitVec.ofNat 32 m) := by
  have hlow : n.val < 7 := by rcases hn with rfl | rfl <;> decide
  obtain ⟨-, hact, hdet, -⟩ := State.accountWindow_sameReport i r (s.published i r) hlow
  obtain ⟨hact', hdet'⟩ := State.updateConditions_told (s.withResult i r) hn
  exact ⟨hact.trans hact', hdet.trans hdet'⟩

theorem State.accounted_sameCfgs : SameCfgs s.dlv (s.accounted i r).dlv :=
  SameCfgs.trans (run_sameCfgs (s.withResult i r) _) (State.accountWindow_sameCfgs i r (s.published i r))

/-! ### The release of the point (R102, 4 and 5) -/

/-- A ticket's copy does not show whether the bank is free yet. -/
theorem Ticket.complete_release (now : Nat) (ix : BankIx) (p : Point) :
    Ticket.complete i now (p.release ix) = Ticket.complete i now p := by
  funext t
  cases t <;> rfl

/-- The point as the completion leaves it: accounted, published and released. -/
def State.donePoint (ix : BankIx) : Point := ((s.completed i r).point.publish r).release ix

/-- The state with the point released and its tickets READY, before the head leaves the queue. -/
def State.released (ix : BankIx) : State :=
  ((s.accounted i r).onTickets (Ticket.complete i (timebase s) (s.donePoint i r ix))).setPoint i (s.donePoint i r ix)

/-- Of the point, the account's parts, the result with its flags, the freed bank and the count change (R102, R104). -/
theorem State.donePoint_eq (ix : BankIx) : s.donePoint i r ix = { (s.completed i r).point with
    result := some r, harmFlag := anyExceed r, excessFlag := decide (0 < r.excess)
    framer := (s.point i).framer.setBank ix .free, finished := (s.point i).finished + 1 } := by
  rw [State.donePoint, State.completed, Point.account_point]
  rfl

end Complete

section Whole

variable (e : FinishEntry) (b : BankSums) (l : LimitProfile) (s : State)

theorem State.completeFinish_eq :
    s.completeFinish e b l = (s.released e.point (finishResult e b l) e.bank).nextFinish := by
  obtain ⟨-, -, hclock, -⟩ := s.accounted_same e.point (finishResult e b l)
  have hnow : timebase (s.accounted e.point (finishResult e b l)) = timebase s := by rw [timebase, hclock, timebase]
  have hdone := s.accounted_point e.point (finishResult e b l)
  rw [State.released, State.donePoint, Ticket.complete_release, ← hdone, ← hnow]
  rfl

theorem State.completeFinish_points : (s.completeFinish e b l).points =
    ((s.accounted e.point (finishResult e b l)).setPoint e.point (s.donePoint e.point (finishResult e b l) e.bank)).points := by
  rw [State.completeFinish_eq, State.nextFinish_points]
  rfl

theorem State.completeFinish_point :
    (s.completeFinish e b l).point e.point = s.donePoint e.point (finishResult e b l) e.bank := by
  rw [State.point_congr (s.completeFinish_points e b l), State.setPoint_point_same]

theorem State.completeFinish_other (j : Fin 24) (h : j ≠ e.point) : (s.completeFinish e b l).point j = s.point j := by
  rw [State.point_congr (s.completeFinish_points e b l), State.setPoint_point_other _ _ _ _ h, State.accounted_other _ _ _ _ h]

theorem State.completeFinish_dlv : (s.completeFinish e b l).dlv = (s.accounted e.point (finishResult e b l)).dlv := by
  rw [State.completeFinish_eq, State.nextFinish_eq]
  rfl

theorem State.completeFinish_agent : (s.completeFinish e b l).agent = { s.agent with
    tickets := s.agent.tickets.map (Ticket.complete e.point (timebase s) ((s.completeFinish e b l).point e.point)) } := by
  obtain ⟨-, -, -, -, -, -, -, hagent⟩ := s.accounted_same e.point (finishResult e b l)
  rw [State.completeFinish_point, State.completeFinish_eq, State.nextFinish_eq, ← hagent]
  rfl

theorem State.completeFinish_finisher : (s.completeFinish e b l).finisher = { s.finisher with
    queue := s.finisher.queue.drop 1, active := (s.completeFinish e b l).finisher.active } := by
  rw [State.completeFinish_eq, ← s.accounted_finisher e.point (finishResult e b l)]
  exact congrArg State.finisher (State.nextFinish_eq _)

/-- The next finish is begun when the point is released. -/
theorem State.completeFinish_begun : NextFinishBegun s (s.completeFinish e b l) := by
  obtain ⟨-, -, hclock, -⟩ := s.accounted_same e.point (finishResult e b l)
  have hfinisher := s.accounted_finisher e.point (finishResult e b l)
  rw [State.completeFinish_eq]
  exact State.nextFinish_begun hclock (congrArg Finisher.queue hfinisher) (congrArg Finisher.limits hfinisher)

/-- Beyond points, Finisher, delivery side and tickets nothing changes. -/
theorem State.completeFinish_frame : s.completeFinish e b l = { s with
    points := (s.completeFinish e b l).points, finisher := (s.completeFinish e b l).finisher
    dlv := (s.completeFinish e b l).dlv, agent := (s.completeFinish e b l).agent } := by
  have hframe := State.onTickets_of_same (s.accounted_same e.point (finishResult e b l))
    (Ticket.complete e.point (timebase s) (s.donePoint e.point (finishResult e b l) e.bank))
  rw [State.completeFinish_eq, State.nextFinish_eq, State.released, hframe]
  rfl

/-- Both conditions tell the flags of the points as the completion leaves them (R104). -/
theorem State.completeFinish_told {n : Fin 20} (hn : n = 5 ∨ n = 6) :
    (let t := s.completeFinish e b l
     let m := mapOf fun j : Fin 24 => (t.point j).cfg.enabled &&
       (if n = 5 then (t.point j).harmFlag else (t.point j).excessFlag)
     (t.dlv.alert n).active = decide (m ≠ 0) ∧ (t.dlv.alert n).detail = BitVec.ofNat 32 m) := by
  have htold := s.accounted_told e.point (finishResult e b l) hn
  have hflags (j : Fin 24) :
      ((s.completeFinish e b l).point j).cfg = ((s.withResult e.point (finishResult e b l)).point j).cfg ∧
        ((s.completeFinish e b l).point j).harmFlag = ((s.withResult e.point (finishResult e b l)).point j).harmFlag ∧
        ((s.completeFinish e b l).point j).excessFlag = ((s.withResult e.point (finishResult e b l)).point j).excessFlag := by
    by_cases hj : j = e.point
    · rw [hj, State.completeFinish_point, State.donePoint_eq, State.completed, Point.account_point, State.withResult,
        State.setPoint_point_same]
      exact ⟨rfl, rfl, rfl⟩
    · rw [State.completeFinish_other _ _ _ _ _ hj, State.withResult, State.setPoint_point_other _ _ _ _ hj]
      exact ⟨rfl, rfl, rfl⟩
  simp only [State.completeFinish_dlv, hflags]
  exact htold

end Whole

/-- Settles O24: the completion stage by stage, with the room the update of the conditions leaves. -/
theorem finishCompletePublishes : Obligations.FinishCompletePublishes := by
  intro s hr
  refine ⟨fun h => ?_, fun e a b h hb =>
    ⟨s.completeFinish e b a.limits, s.accountRoom e.point (finishResult e b a.limits), ?_, ?_⟩⟩
  · rw [exec, execFinishComplete, State.event_out_of_reset s _ hr, h]
  · rw [exec, execFinishComplete, State.event_out_of_reset s _ hr, h]
    simp only [State.finishSums, hb, Bank.sums, Option.getD_some]
  · obtain ⟨hleast, hmost⟩ := s.accountRoom_bounds e.point (finishResult e b a.limits)
    have hdlv := s.completeFinish_dlv e b a.limits
    obtain ⟨halerts, hchannels⟩ := s.accounted_sameCfgs e.point (finishResult e b a.limits)
    rw [← hdlv] at halerts hchannels
    refine ⟨⟨?_, hleast, hmost, ?_, fun hbusy hidle => ?_⟩, fun i hi => s.completeFinish_other e b a.limits i hi,
      fun n hn => s.completeFinish_told e b a.limits hn, s.completeFinish_agent e b a.limits,
      s.completeFinish_finisher e b a.limits, s.completeFinish_begun e b a.limits, halerts, hchannels,
      s.completeFinish_frame e b a.limits⟩
    · rw [State.completeFinish_point, State.donePoint_eq]
      rfl
    · rw [hdlv]
      exact s.accounted_appended e.point _
    · rw [hdlv]
      exact s.accounted_records e.point _ ⟨hbusy, hidle⟩

end Sys2Proof.Machine
end

section
/-! SUPPORT. Removals from the Record Queue, FETCH_RECORDS, and the bytes of a record (R120, R132, R136, R137, 11.3). -/

namespace Sys2Proof.Machine

/-! ## Removals (R132) -/

/-- A removal stops before a record only at its limits. -/
theorem takeRecords_stops (limit words : Nat) (l : List IntervalRecord) {r : IntervalRecord} {rest : List IntervalRecord}
    (h : (takeRecords limit words l).2 = r :: rest) :
    (takeRecords limit words l).1.length = limit ∨ words < wordsOf (takeRecords limit words l).1 + recordWords r := by
  induction l generalizing limit words with
  | nil => exact absurd h.symm (List.cons_ne_nil r rest)
  | cons x xs ih =>
    by_cases hx : 0 < limit ∧ recordWords x ≤ words
    · simp only [takeRecords, hx, decide_true, Bool.and_self, if_true, wordsOf, List.map_cons, List.sum_cons,
        List.length_cons] at h ih ⊢
      rcases ih (limit - 1) (words - recordWords x) h with hlimit | hwords <;> omega
    · have hstop : takeRecords limit words (x :: xs) = ([], x :: xs) := by
        rw [takeRecords, if_neg (by simpa using hx)]
      rw [hstop] at h ⊢
      obtain ⟨rfl, rfl⟩ := List.cons.inj h
      simp only [wordsOf, List.map_nil, List.sum_nil, List.length_nil]
      omega

/-! ## The service (R136, R137) -/

section Fetch

variable {p : Port} {count : Nat} {s : State}

theorem serveFetch_none (h : (s.dlv.port p).up = false ∨ count = 0 ∨ s.dlv.recq.records = []) :
    serveFetch p count s = answerOk 0 s := by
  rw [serveFetch, if_pos]
  rcases h with h | h | h <;> simp [h]

theorem serveFetch_some (hu : (s.dlv.port p).up = true) (hc : count ≠ 0) (hq : s.dlv.recq.records ≠ []) :
    serveFetch p count s =
      { state := (s.removeFetched count).2, status := .ok, count := (s.removeFetched count).1.length
        data := (s.removeFetched count).1.flatMap encodeRecord } := by
  rw [serveFetch, if_neg]
  simp [hu, hc, hq]

end Fetch

/-! ## The bytes of a record (R120, 11.3) -/

/-- The fields of a record before its blocks. -/
def recordHead (r : IntervalRecord) : List (Nat × Nat) :=
  [(1, r.point.val), (1, r.blocks.length), (2, recordWords r), (4, flagsWord r.flags r.cut), (4, r.firstNo), (4, r.lastNo),
    (6, r.firstStart), (6, r.lastEnd), (2, r.windows), (2, r.discardedWindows), (4, r.elapsed), (4, r.covered),
    (4, r.discardedSamples), (2, r.nonFundExceeded), (2, 0), (4, r.freqMin), (4, r.freqMax), (8, r.activeImp),
    (8, r.activeExp), (8, r.q1), (8, r.q2), (8, r.q3), (8, r.q4), (8, r.excess)]

/-- The fields of an order block. -/
def blockRow (b : RecordBlock) : List (Nat × Nat) := [(1, b.order), (3, b.exceeded), (8, b.imp), (8, b.exp)]

theorem encodeBlock_eq (b : RecordBlock) : encodeBlock b = fieldRow (blockRow b) := by
  simp [encodeBlock, blockRow, fieldRow]

theorem length_encodeBlock (b : RecordBlock) : (encodeBlock b).length = 20 := by simp [encodeBlock]

-- `delta`, since Lean reaches its limit deriving the equation of so long a chain of runs.
theorem encodeRecord_eq (r : IntervalRecord) :
    encodeRecord r = fieldRow (recordHead r) ++ r.blocks.flatMap encodeBlock := by
  have hpad : pad 2 = beNat 2 0 := by decide
  delta encodeRecord
  simp [recordHead, fieldRow, hpad]

theorem length_recordHead (r : IntervalRecord) : (fieldRow (recordHead r)).length = 112 := by
  simp [length_fieldRow, recordHead]

theorem length_encodeRecord (r : IntervalRecord) : (encodeRecord r).length = 112 + 20 * r.blocks.length := by
  simp [encodeRecord_eq, length_recordHead, List.length_flatMap, length_encodeBlock, Nat.mul_comm]

/-- Runs of one length, one behind the other, from the j-th on. -/
theorem drop_flatMap_of_length {α β : Type} {f : α → List β} {w : Nat} (hf : ∀ a, (f a).length = w) (l : List α) (j : Nat) :
    (l.flatMap f).drop (w * j) = (l.drop j).flatMap f := by
  induction j generalizing l with
  | zero => simp
  | succ j ih =>
    cases l with
    | nil => simp
    | cons a l =>
      have hskip : w * (j + 1) = (f a).length + w * j := by rw [hf a, Nat.mul_succ, Nat.add_comm]
      rw [List.flatMap_cons, hskip, List.drop_length_add_append, ih, List.drop_succ_cons]

/-- The j-th block stands behind those before it. -/
theorem drop_encodeRecord (r : IntervalRecord) {j : Nat} {b : RecordBlock} (hb : r.blocks[j]? = some b) :
    (encodeRecord r).drop (112 + 20 * j) = fieldRow (blockRow b) ++ (r.blocks.drop (j + 1)).flatMap encodeBlock := by
  obtain ⟨hj, hget⟩ := List.getElem?_eq_some_iff.mp hb
  rw [encodeRecord_eq, ← length_recordHead r, List.drop_length_add_append, drop_flatMap_of_length length_encodeBlock,
    List.drop_eq_getElem_cons hj, hget, List.flatMap_cons, encodeBlock_eq]

/-- Settles O39: a removal by induction on the queue, the service by its two outcomes, and a record as two rows of fields. -/
theorem fetchRecordsRemovesInOrder : Obligations.FetchRecordsRemovesInOrder := by
  refine ⟨fun limit words l => ?_, fun s h count h0 hm => ⟨fun hnone => ?_, fun hu hc hq => ?_⟩,
    fun r => ⟨⟨length_encodeRecord r, ?_⟩, fun j b hb => ?_⟩⟩
  · obtain ⟨hlimit, hwords⟩ := takeRecords_within limit words l
    exact ⟨takeRecords_append limit words l, hlimit, hwords, fun r rest => takeRecords_stops limit words l⟩
  · have hnone' : (s.dlv.port h.port).up = false ∨ count.toNat = 0 ∨ s.dlv.recq.records = [] :=
      hnone.imp_right (Or.imp_left fun hc => by rw [hc]; rfl)
    exact request_served s h .fetchRecords 0 0 count [] h0 hm (by decide) _ (serveFetch_none (s := joined s) hnone')
  · have hc' : count.toNat ≠ 0 := fun hz => hc (BitVec.eq_of_toNat_eq hz)
    exact request_served s h .fetchRecords 0 0 count [] h0 hm (by decide) _ (serveFetch_some (s := joined s) hu hc' hq)
  · rw [encodeRecord_eq]
    exact field_fieldRow (recordHead r) [] _
  · rw [drop_encodeRecord r hb]
    exact field_fieldRow (blockRow b) [] _

end Sys2Proof.Machine
end

section
/-! SUPPORT. The open interval of a point: the fields a window opens, joins and merges into, the record of a close, and the close of
a disable or a point reset (R113, R114, R117, R119 to R124). -/

namespace Sys2Proof.Machine

/-! ## A window added (R117) -/

theorem WindowResult.exceedsAt_iff (r : WindowResult) (h : Nat) :
    r.exceedsAt h = true ↔ 2 ≤ h ∧ ∃ x ∈ r.orders, x.order = h ∧ x.exceed = true := by
  simp [WindowResult.exceedsAt]

theorem lowerOf_eq (f : Nat) (g : Option Nat) : lowerOf f g = some (min f (g.getD f)) := by cases g <;> simp [lowerOf]

theorem higherOf_eq (f : Nat) (g : Option Nat) : higherOf f g = some (max f (g.getD f)) := by cases g <;> simp [higherOf]

theorem OpenFields.addWindow_eq (no : Nat) (r : WindowResult) (f : OpenFields) : f.addWindow no r = windowAdded no r f := by
  simp only [OpenFields.addWindow, windowAdded, WindowResult.exceedsAt_iff, lowerOf_eq, higherOf_eq, satAdd, IntervalFlags.see]
  rfl

theorem openFields_eq (no len : Nat) (r : WindowResult) :
    openFields no len r =
      { firstNo := no, lastNo := no, openLen := len, orders := r.orders.map fun o => { order := o.order, exceeded := 0 }
        firstStart := r.start, lastEnd := r.start + r.len, windows := 0, elapsed := 0, covered := 0, nonFundExceeded := 0
        freqMin := none, freqMax := none, flags := IntervalFlags.none } := by
  simp only [openFields, WindowResult.orderList, List.map_map]
  rfl

theorem Point.accountInto_ivl (no : Nat) (r : WindowResult) (f : OpenFields) (p : Point) :
    (p.accountInto no r f).ivl = { p.ivl with fields := some (windowAdded no r f) } := by
  rw [Point.accountInto, OpenFields.addWindow_eq]

/-! ## The causes of a close (R119) -/

theorem closeReconfigured_eq (len : Nat) (r : WindowResult) (f : OpenFields) :
    closeReconfigured len r f = decide (r.flags.firstAfterChange = true ∨ len ≠ f.openLen) := by
  simp [closeReconfigured]

theorem closeNeeded_iff (len no : Nat) (r : WindowResult) (f : OpenFields) :
    closeNeeded len no r f = true ↔ no ≠ f.lastNo ∨ r.flags.firstAfterChange = true ∨ len ≠ f.openLen := by
  simp [closeNeeded, closeReconfigured]

/-! ## Records (R120) -/

/-- An order's accumulators, read one field at a time. -/
theorem Accumulators.harmOf_whole (a : Accumulators) (h : Nat) :
    (a.harmOf h).imp.whole = ((a.harm[h - 2]?).map fun x => x.imp.whole).getD 0 ∧
      (a.harmOf h).exp.whole = ((a.harm[h - 2]?).map fun x => x.exp.whole).getD 0 := by
  rw [Accumulators.harmOf]
  cases a.harm[h - 2]? <;> exact ⟨rfl, rfl⟩

theorem recordBlock_eq (a : Accumulators) (o : OrderCount) :
    recordBlock a o =
      if 2 ≤ o.order then
        { order := o.order, exceeded := o.exceeded, imp := ((a.harm[o.order - 2]?).map fun x => x.imp.whole).getD 0
          exp := ((a.harm[o.order - 2]?).map fun x => x.exp.whole).getD 0 }
      else { order := o.order, exceeded := 0, imp := 0, exp := 0 } := by
  obtain ⟨himp, hexp⟩ := a.harmOf_whole o.order
  rw [recordBlock, himp, hexp]

theorem buildRecord_eq (i : Fin 24) (reconfigured timeStep cut : Bool) (f : OpenFields) (p : Point) :
    buildRecord i reconfigured timeStep cut f p = recordOf i reconfigured timeStep cut f p := by
  rw [buildRecord, List.map_congr_left fun o _ => recordBlock_eq p.acc o]
  rfl

/-! ## A merge (R122) -/

theorem mergeFields_eq (len no : Nat) (r : WindowResult) (f : OpenFields) :
    mergeFields len no r f = { f with
      flags := { f.flags with
        merged := true, timeStep := f.flags.timeStep || decide (no < f.lastNo)
        reconfigured := f.flags.reconfigured || decide (r.flags.firstAfterChange = true ∨ len ≠ f.openLen) }
      orders := if r.flags.firstAfterChange = true ∨ len ≠ f.openLen then r.orders.map fun o =>
          { order := o.order
            exceeded := ((f.orders.find? fun x => x.order == o.order).map fun x => x.exceeded).getD 0 }
        else f.orders
      openLen := if r.flags.firstAfterChange = true ∨ len ≠ f.openLen then len else f.openLen } := by
  simp only [mergeFields, closeReconfigured_eq, decide_eq_true_eq, carryCounts, WindowResult.orderList, List.map_map]
  rfl

/-! ## The close of a disable or a point reset (R121, R123, R124) -/

/-- Of the harmonic accumulators, a report clears those of its orders. -/
theorem Accumulators.clearReported_harm (orders : List OrderCount) (a : Accumulators) (j : Fin 49) :
    (a.clearReported orders).harm[j] =
      if ∃ o ∈ orders, o.order = j.val + 2 then ⟨a.harm[j].imp.clearWhole, a.harm[j].exp.clearWhole⟩ else a.harm[j] := by
  simp [Accumulators.clearReported]

theorem Point.closeNow_records (i : Fin 24) (cut : Bool) {room : Nat} {p : Point} {f : OpenFields} (h : p.ivl.fields = some f)
    (hr : 28 + 5 * f.orders.length ≤ room) :
    p.closeNow i cut room = (p.afterClose f, some (recordOf i (!cut) false cut f p)) := by
  rw [← buildRecord_eq]
  simp only [Point.closeNow, h, recordWords_buildRecord, if_pos hr]

theorem Point.closeNow_discards (i : Fin 24) (cut : Bool) {room : Nat} {p : Point} {f : OpenFields} (h : p.ivl.fields = some f)
    (hr : room < 28 + 5 * f.orders.length) : p.closeNow i cut room = (p.afterDiscardedInterval f, none) := by
  simp only [Point.closeNow, h, recordWords_buildRecord, if_neg (Nat.not_le.mpr hr)]

theorem Point.closeNow_empty (i : Fin 24) (cut : Bool) (room : Nat) {p : Point} (h : p.ivl.fields = none) :
    p.closeNow i cut room = ({ p with ivl := .empty }, none) := by
  simp only [Point.closeNow, h]

/-- With or without a record, the whole units it names become 0. -/
theorem Point.closeNow_acc (i : Fin 24) (cut : Bool) (room : Nat) {p : Point} {f : OpenFields} (h : p.ivl.fields = some f) :
    (p.closeNow i cut room).1.acc = p.acc.clearReported f.orders := by
  rcases Nat.lt_or_ge room (28 + 5 * f.orders.length) with hr | hr
  · rw [Point.closeNow_discards i cut h hr]; rfl
  · rw [Point.closeNow_records i cut h hr]; rfl

/-- Of the point, a close changes the accumulators, the open interval and the counters alone. -/
theorem Point.closeNow_point (i : Fin 24) (cut : Bool) (room : Nat) (p : Point) :
    (p.closeNow i cut room).1 = { p with
      acc := (p.closeNow i cut room).1.acc, ivl := .empty, iau := (p.closeNow i cut room).1.iau } := by
  cases h : p.ivl.fields with
  | none => rw [Point.closeNow_empty i cut room h]
  | some f =>
    rcases Nat.lt_or_ge room (28 + 5 * f.orders.length) with hr | hr
    · rw [Point.closeNow_discards i cut h hr]; rfl
    · rw [Point.closeNow_records i cut h hr]; rfl

/-- Settles O28: each way a window is accounted, and each way a close ends, with the fields and the record it leaves. -/
theorem intervalClosesForItsCauses : Obligations.IntervalClosesForItsCauses := by
  refine ⟨fun i len room r p => ⟨Point.account_point i len room r p, fun h => ?_, fun f h => ⟨fun hno hsame => ?_,
    fun hcause hfits => ?_, fun hcause hfull => ?_⟩⟩, fun i cut room p => ⟨Point.closeNow_point i cut room p, fun h => ?_,
    fun f h => ⟨fun hfits => ?_, fun hfull => ?_, ?_⟩⟩⟩
  · rw [Point.account_opens i len room r p h, openFields_eq]
    exact ⟨rfl, rfl, Point.accountInto_ivl _ r _ p, rfl⟩
  · have hjoin : closeNeeded len (intervalNumber len r.start) r f = false :=
      Bool.eq_false_iff.mpr fun hc => ((closeNeeded_iff len _ r f).mp hc).elim (fun hn => hn hno) hsame
    rw [Point.account_joins i len room r p f h hjoin]
    exact ⟨rfl, rfl, Point.accountInto_ivl _ r f p, rfl⟩
  · rw [Point.account_closes i len room r p f h ((closeNeeded_iff len _ r f).mpr hcause) hfits, buildRecord_eq,
      closeReconfigured_eq, openFields_eq]
    exact ⟨rfl, rfl, Point.accountInto_ivl _ r _ (p.afterClose f), rfl⟩
  · rw [Point.account_merges i len room r p f h ((closeNeeded_iff len _ r f).mpr hcause) (Nat.not_le.mp hfull), mergeFields_eq]
    exact ⟨rfl, rfl, rfl, Point.accountInto_ivl _ r _ _⟩
  · rw [Point.closeNow_empty i cut room h]
    exact ⟨rfl, rfl, rfl⟩
  · rw [Point.closeNow_records i cut h hfits]
    exact ⟨rfl, rfl⟩
  · rw [Point.closeNow_discards i cut h hfull]
    exact ⟨rfl, rfl⟩
  · rw [Point.closeNow_acc i cut room h]
    exact ⟨rfl, rfl, rfl, rfl, rfl, rfl, rfl, fun j =>
      ⟨fun hnamed => (Accumulators.clearReported_harm f.orders p.acc j).trans (if_pos hnamed),
        fun hkept => (Accumulators.clearReported_harm f.orders p.acc j).trans (if_neg hkept)⟩⟩

end Sys2Proof.Machine
end

section
/-! SUPPORT. The energy balance: what an increment adds to an accumulator, what a record carries out of it, and the two together
across a window (R111, R112, R115, R116, R121, R122, R125). -/

namespace Sys2Proof.Machine

/-! ## Increments (R112, R115, R116) -/

theorem Accum.addIf_exact (c : Bool) (inc : Nat) (a : Accum) :
    (a.addIf c inc).whole * Config.fundDivisor + (a.addIf c inc).rem =
      a.whole * Config.fundDivisor + a.rem + if c then inc else 0 := by
  cases c with
  | false => simp [Accum.addIf]
  | true => simpa [Accum.addIf] using Accum.add_exact Config.fundDivisor inc a

/-- The seven fundamental accumulators take the increments of the window and no more. -/
theorem heldUnits_addWindow (r : WindowResult) (a : Accumulators) :
    heldUnits (a.addWindow r) = List.zipWith (· + ·) (heldUnits a) (windowUnits r) := by
  rw [Accumulators.addWindow_eq]
  simp [heldUnits, windowUnits, Accumulators.addFundamental, Accum.addIf_exact, Accum.add_exact]

/-- What a result block adds to the accumulator of order h on the side that f selects by the sign of the power. -/
def harmIncrement (f : Int → Bool) (h len : Nat) (o : OrderResult) : Nat :=
  if o.order = h ∧ f o.p = true then o.p.natAbs * len else 0

theorem windowHarm_eq (f : Int → Bool) (h : Nat) (r : WindowResult) :
    windowHarm f h r = (r.orders.map (harmIncrement f h r.len)).sum := by
  rw [windowHarm]
  induction r.orders with
  | nil => rfl
  | cons o l ih =>
    rw [List.map_cons, List.sum_cons, ← ih, harmIncrement]
    by_cases ho : o.order = h ∧ f o.p = true
    · rw [List.filter_cons_of_pos (by simpa using ho), if_pos ho, List.map_cons, List.sum_cons]
    · rw [List.filter_cons_of_neg (by simpa using ho), if_neg ho, Nat.zero_add]

theorem heldHarm_add (inc : Nat) (a : Accum) : heldHarm (a.add Config.harmDivisor inc) = heldHarm a + inc :=
  Accum.add_exact Config.harmDivisor inc a

theorem HarmAccum.add_exact (len : Nat) (p : Int) (a : HarmAccum) :
    heldHarm (a.add len p).imp = heldHarm a.imp + (if 0 < p then p.natAbs * len else 0) ∧
      heldHarm (a.add len p).exp = heldHarm a.exp + if p < 0 then p.natAbs * len else 0 := by
  rcases lt_trichotomy p 0 with hp | rfl | hp
  · have hnot : ¬ 0 < p := by omega
    simp [HarmAccum.add, hp, hnot, heldHarm_add]
  · simp [HarmAccum.add]
  · have hnot : ¬ p < 0 := by omega
    simp [HarmAccum.add, hp, hnot, heldHarm_add]

/-- A result block enters the accumulators of its own order. -/
theorem Accumulators.addHarmonic_harm (len : Nat) (o : OrderResult) (a : Accumulators) (j : Fin 49) :
    (a.addHarmonic len o).harm[j] = if o.order = j.val + 2 then (a.harm[j]).add len o.p else a.harm[j] := by
  rw [Accumulators.addHarmonic]
  by_cases ho : o.order = j.val + 2
  · have hplace : o.order - 2 = j.val := by omega
    have hin : 2 ≤ o.order ∧ o.order - 2 < 49 := by omega
    rw [dif_pos hin, if_pos ho]
    simp [hplace]
  · rw [if_neg ho]
    split
    · rename_i hin
      have hplace : o.order - 2 ≠ j.val := by omega
      simp [hplace]
    · rfl

theorem heldHarm_addHarmonic (len : Nat) (o : OrderResult) (j : Fin 49) (a : Accumulators) :
    heldHarm (a.addHarmonic len o).harm[j].imp =
        heldHarm a.harm[j].imp + harmIncrement (fun x => 0 < x) (j.val + 2) len o ∧
      heldHarm (a.addHarmonic len o).harm[j].exp =
        heldHarm a.harm[j].exp + harmIncrement (fun x => x < 0) (j.val + 2) len o := by
  rw [Accumulators.addHarmonic_harm]
  by_cases ho : o.order = j.val + 2
  · simpa [harmIncrement, ho] using HarmAccum.add_exact len o.p a.harm[j]
  · simp [harmIncrement, ho]

/-- What every block of a list adds, the whole list adds. -/
theorem held_addHarmonics {held : Accumulators → Nat} {inc : OrderResult → Nat} (len : Nat)
    (hstep : ∀ o a, held (a.addHarmonic len o) = held a + inc o) (l : List OrderResult) (a : Accumulators) :
    held (l.foldl (fun a o => a.addHarmonic len o) a) = held a + (l.map inc).sum := by
  induction l generalizing a with
  | nil => rfl
  | cons o l ih => rw [List.foldl_cons, ih, hstep, List.map_cons, List.sum_cons, Nat.add_assoc]

/-- The harmonic accumulators take the increments of the window's blocks and no more. -/
theorem heldHarm_addWindow (r : WindowResult) (a : Accumulators) (j : Fin 49) :
    heldHarm (a.addWindow r).harm[j].imp = heldHarm a.harm[j].imp + windowHarm (fun x => 0 < x) (j.val + 2) r ∧
      heldHarm (a.addWindow r).harm[j].exp = heldHarm a.harm[j].exp + windowHarm (fun x => x < 0) (j.val + 2) r := by
  rw [windowHarm_eq, windowHarm_eq]
  exact ⟨held_addHarmonics (held := fun a => heldHarm a.harm[j].imp) r.len
      (fun o a => (heldHarm_addHarmonic r.len o j a).1) r.orders _,
    held_addHarmonics (held := fun a => heldHarm a.harm[j].exp) r.len
      (fun o a => (heldHarm_addHarmonic r.len o j a).2) r.orders _⟩

/-! ## What a record carries away (R121) -/

/-- The record x, if there is one, carries away what the accumulators b hold less than the accumulators a. -/
structure CarriedAway (a : Accumulators) (x : Option IntervalRecord) (b : Accumulators) : Prop where
  units : List.zipWith (fun x y => x * Config.fundDivisor + y) (recordedUnits x) (heldUnits b) = heldUnits a
  imp : ∀ j : Fin 49, (recordedHarm (j.val + 2) x).1 * Config.harmDivisor + heldHarm b.harm[j].imp = heldHarm a.harm[j].imp
  exp : ∀ j : Fin 49, (recordedHarm (j.val + 2) x).2 * Config.harmDivisor + heldHarm b.harm[j].exp = heldHarm a.harm[j].exp

theorem carriedAway_none (a : Accumulators) : CarriedAway a none a where
  units := by simp [recordedUnits, heldUnits]
  imp j := by rw [recordedHarm, Nat.zero_mul, Nat.zero_add]
  exp j := by rw [recordedHarm, Nat.zero_mul, Nat.zero_add]

/-- The block of an order of the list carries the whole units of that order; an order not in the list has no block. -/
theorem recordedHarm_buildRecord (i : Fin 24) (reconfigured timeStep cut : Bool) (f : OpenFields) (p : Point) (j : Fin 49) :
    recordedHarm (j.val + 2) (some (buildRecord i reconfigured timeStep cut f p)) =
      if ∃ o ∈ f.orders, o.order = j.val + 2 then (p.acc.harm[j].imp.whole, p.acc.harm[j].exp.whole) else (0, 0) := by
  have horder : (fun b : RecordBlock => b.order == j.val + 2) ∘ recordBlock p.acc = fun o => o.order == j.val + 2 := by
    funext o
    rw [Function.comp_apply, recordBlock]
    split <;> rfl
  rw [recordedHarm, buildRecord, List.find?_map, horder]
  cases hfind : f.orders.find? (fun o => o.order == j.val + 2) with
  | none =>
    have hnone : ¬ ∃ o ∈ f.orders, o.order = j.val + 2 := by simpa using List.find?_eq_none.mp hfind
    rw [if_neg hnone]
    rfl
  | some o =>
    have ho : o.order = j.val + 2 := by simpa using List.find?_some hfind
    rw [if_pos ⟨o, List.mem_of_find?_eq_some hfind, ho⟩]
    simp [recordBlock, Accumulators.harmOf, ho]

/-- A record carries away the whole units that the close clears. -/
theorem carriedAway_record (i : Fin 24) (reconfigured timeStep cut : Bool) (f : OpenFields) (p : Point) :
    CarriedAway p.acc (some (buildRecord i reconfigured timeStep cut f p)) (p.acc.clearReported f.orders) := by
  refine ⟨?_, fun j => ?_, fun j => ?_⟩
  · simp [recordedUnits, heldUnits, buildRecord, Accumulators.clearReported, Accum.clearWhole]
  all_goals
    rw [recordedHarm_buildRecord, Accumulators.clearReported_harm]
    split <;> simp [heldHarm, Accum.clearWhole]

/-! ## The balance (R114, R122, R125) -/

/-- A window enters the accumulators a record has been taken from, or all of them as they were; an interval is then OPEN. -/
theorem Point.account_carries (i : Fin 24) (len room : Nat) (r : WindowResult) (p : Point) :
    ∃ b, CarriedAway p.acc (p.account i len room r).appended b ∧ (p.account i len room r).point.acc = b.addWindow r ∧
      (∀ rcd, (p.account i len room r).appended = some rcd → (p.account i len room r).merged = false) ∧
      (p.account i len room r).point.ivl.fields.isSome = true := by
  cases hf : p.ivl.fields with
  | none =>
    rw [Point.account_opens i len room r p hf]
    exact ⟨p.acc, carriedAway_none p.acc, rfl, fun _ _ => rfl, rfl⟩
  | some f =>
    cases hc : closeNeeded len (intervalNumber len r.start) r f with
    | false =>
      rw [Point.account_joins i len room r p f hf hc]
      exact ⟨p.acc, carriedAway_none p.acc, rfl, fun _ _ => rfl, rfl⟩
    | true =>
      rcases Nat.lt_or_ge room (28 + 5 * f.orders.length) with hr | hr
      · rw [Point.account_merges i len room r p f hf hc hr]
        exact ⟨p.acc, carriedAway_none p.acc, rfl, nofun, rfl⟩
      · rw [Point.account_closes i len room r p f hf hc hr]
        exact ⟨p.acc.clearReported f.orders, carriedAway_record i _ _ false f p, rfl, fun _ _ => rfl, rfl⟩

/-- Taking out and adding, accumulator by accumulator, in either order. -/
theorem zipWith_carry_add (d : Nat) (xs ys zs : List Nat) :
    List.zipWith (fun x y => x * d + y) xs (List.zipWith (· + ·) ys zs) =
      List.zipWith (· + ·) (List.zipWith (fun x y => x * d + y) xs ys) zs := by
  induction xs generalizing ys zs with
  | nil => simp
  | cons x xs ih =>
    cases ys with
    | nil => simp
    | cons y ys =>
      cases zs with
      | nil => simp
      | cons z zs => simp [ih, Nat.add_assoc]

/-- Settles O27: what the record carries away balances what the close clears, and the increments enter what is left. -/
theorem energyBalanceOfAWindow : Obligations.EnergyBalanceOfAWindow := by
  intro i len room r p
  obtain ⟨b, hcarried, hacc, hmerged, hopen⟩ := Point.account_carries i len room r p
  refine ⟨?_, fun j => ⟨?_, ?_⟩, fun rcd h => ⟨Point.account_room i len room r p rcd h, hmerged rcd h⟩, hopen⟩
  · rw [hacc, heldUnits_addWindow, zipWith_carry_add, hcarried.units]
  · rw [hacc, (heldHarm_addWindow r b j).1, ← Nat.add_assoc, hcarried.imp]
  · rw [hacc, (heldHarm_addWindow r b j).2, ← Nat.add_assoc, hcarried.exp]

end Sys2Proof.Machine
end

section
/-! SUPPORT. A PUSH write and PUSH_START: what a trigger makes of a channel, and what the send attempt it begins with can come to
(R138, R141, R142, R144, R182). -/

namespace Sys2Proof.Machine

/-! ## Channels and wait lists -/

section
variable (d : Delivery)

@[simp] theorem Delivery.setWait_channel (p : Port) (w : List (Fin 4)) (c : Fin 4) : (d.setWait p w).channel c = d.channel c := by
  cases p <;> rfl

@[simp] theorem Delivery.setWait_self (p : Port) : d.setWait p (d.wait p) = d := by cases p <;> rfl

@[simp] theorem Delivery.setChannel_setChannel (c : Fin 4) (x y : Channel) :
    (d.setChannel c x).setChannel c y = d.setChannel c y := by
  simp [Delivery.setChannel]

theorem joinWait_eq (c : Fin 4) (p : Port) :
    joinWait c p d = if c ∈ d.wait p then d else d.setWait p (d.wait p ++ [c]) := by
  simp [joinWait]

end

/-! ## A PUSH write (R138) -/

/-- Settles O38: the channel written leaves both wait lists, and nothing else of the delivery side is touched. -/
theorem pushWriteRearmsTheChannel : Obligations.PushWriteRearmsTheChannel := by
  intro s c cfg
  have hwrite : s.writePush c.val cfg =
      { s with dlv := (s.dlv.leaveWait c).setChannel c ((s.dlv.channel c).written cfg) } := by
    rw [State.writePush, toIndex_val]
  rw [hwrite]
  refine ⟨?_, ?_, ?_, fun b hb => ?_, rfl, rfl, rfl, rfl, rfl⟩
  · exact Delivery.setChannel_channel_same _ c _
  · simp [Delivery.leaveWait]
  · simp [Delivery.leaveWait]
  · exact Delivery.setChannel_channel_other _ c b _ hb

/-! ## A send attempt (R142) -/

/-- The attempt of channel c may place a frame: its port is UP with room for one, and no other channel waits before it. -/
def Delivery.Proceeds (d : Delivery) (c : Fin 4) (head : Bool) : Prop :=
  (d.port (d.channel c).cfg.port).up = true ∧ (head = true ∨ d.wait (d.channel c).cfg.port = []) ∧
    (d.port (d.channel c).cfg.port).reportQ.length < Config.reportRoom

theorem Delivery.proceeds_iff (d : Delivery) (c : Fin 4) (head : Bool) :
    d.Proceeds c head ↔ ((d.port (d.channel c).cfg.port).up && (head || (d.wait (d.channel c).cfg.port).isEmpty) &&
      decide ((d.port (d.channel c).cfg.port).reportQ.length < Config.reportRoom)) = true := by
  simp [Delivery.Proceeds, and_assoc]

section
variable {d : Delivery} {c : Fin 4} {head : Bool} (env : Env)

theorem attemptSend_waits (hs : (d.channel c).st = .sending) (h : ¬ d.Proceeds c head) :
    attemptSend env c head d = (joinWait c (d.channel c).cfg.port d, []) :=
  attemptSend_blocked env c head d hs (Bool.not_eq_true _ ▸ (Delivery.proceeds_iff d c head).not.mp h)

theorem attemptSend_findsEmpty (hs : (d.channel c).st = .sending) (h : d.Proceeds c head) (he : d.recq.records = []) :
    attemptSend env c head d = (d.setChannel c (d.channel c).foundEmpty, []) :=
  attemptSend_empty env c head d hs ((Delivery.proceeds_iff d c head).mp h) he

end

/-! ## A trigger (R141) -/

/-- A cascade whose one task brings nothing about. -/
theorem State.run_of_silent (s : State) (t : Task) (d : Delivery) (h : perform s.env t s.dlv = (d, [])) :
    s.run [t] = { s with dlv := d } := by
  refine State.run_of_dlv s _ d ?_
  rw [run_cons, h, follow_nil, settle_nil]

section
variable {d : Delivery} {c : Fin 4}

theorem takeTrigger_burst (hs : (d.channel c).st = .sending) (hb : (d.channel c).cfg.burst = true) :
    takeTrigger c d = (d, []) := by
  simp [takeTrigger, hs, hb]

theorem takeTrigger_backlog (hs : (d.channel c).st = .sending) (hb : (d.channel c).cfg.burst = false)
    (hl : (d.channel c).backlog < 255) :
    takeTrigger c d = (d.setChannel c { d.channel c with backlog := (d.channel c).backlog + 1 }, []) := by
  simp [takeTrigger, hs, hb, hl]

theorem takeTrigger_saturated (hs : (d.channel c).st = .sending) (hb : (d.channel c).cfg.burst = false)
    (hl : 255 ≤ (d.channel c).backlog) :
    takeTrigger c d = (d.setChannel c { d.channel c with backlogSat := (d.channel c).backlogSat + 1 }, []) := by
  simp [takeTrigger, hs, hb, Nat.not_lt.mpr hl]

/-- An ARMED channel that has taken a trigger: its attempt begins at one (R141, R144). -/
def Channel.triggered (ch : Channel) : Channel := { ch with st := .sending, fresh := true }

theorem takeTrigger_armed (hs : (d.channel c).st = .armed) :
    takeTrigger c d = (d.setChannel c (d.channel c).triggered, [.attempt c false]) := by
  rw [takeTrigger, hs]
  rfl

end

/-- A trigger whose attempt finds the Record Queue empty is counted, and the channel is ARMED as before (R144). -/
theorem Channel.foundEmpty_triggered (ch : Channel) (hs : ch.st = .armed) :
    ch.triggered.foundEmpty = { ch with backlog := 0, fresh := false, emptyTrigger := ch.emptyTrigger + 1 } := by
  rw [Channel.foundEmpty, ← hs]
  rfl

/-- A trigger to an ARMED channel whose attempt brings nothing about. -/
theorem State.run_trigger_armed (s : State) (c : Fin 4) (d : Delivery) (hs : (s.dlv.channel c).st = .armed)
    (h : attemptSend s.env c false (s.dlv.setChannel c (s.dlv.channel c).triggered) = (d, [])) :
    s.run [.trigger c] = { s with dlv := d } := by
  refine State.run_of_dlv s _ d ?_
  have hfollow : follow [Task.attempt c false] [] = [.attempt c false] := rfl
  rw [run_cons, perform, takeTrigger_armed hs, hfollow, settle_cons _ 4094, perform, h, follow_nil, settle_nil]

/-! ## PUSH_START (R182) -/

theorem servePushStart_badIndex {i : Nat} (s : State) (h : 4 ≤ i) : servePushStart i s = refuse .badIndex s := by
  rw [servePushStart, toIndex, dif_neg (Nat.not_lt.mpr h)]

theorem servePushStart_badState {c : Fin 4} {s : State}
    (h : (s.dlv.channel c).st = .disabled ∨ (s.dlv.channel c).st = .done) : servePushStart c.val s = refuse .badState s := by
  rw [servePushStart, toIndex_val]
  rcases h with h | h <;> simp [h]

theorem servePushStart_triggers {c : Fin 4} {s : State}
    (h : (s.dlv.channel c).st = .armed ∨ (s.dlv.channel c).st = .sending) :
    servePushStart c.val s = answerOk 0 (s.run [.trigger c]) := by
  rw [servePushStart, toIndex_val]
  rcases h with h | h <;> simp [h]

/-- Settles O42: the request is served with what `servePushStart` leaves, and its one trigger brings about at most one
attempt, which here joins the wait list or finds the Record Queue empty. -/
theorem pushStartTriggersOnce : Obligations.PushStartTriggersOnce := by
  intro s h i h0 hm
  have hserve : ∀ x, servePushStart i.toNat (joined s) = x → exec (.pushStart h i) s =
      .next (answered h .pushStart x.status x.count x.data x.state) := fun x hx => by
    rw [exec, execPushStart]
    exact request_served s h .pushStart 0 i 0 [] h0 hm (by decide) x hx
  have htrigger : ∀ k : Fin 4, k.val = i.toNat → (s.dlv.channel k).st = .armed ∨ (s.dlv.channel k).st = .sending →
      Answers (.pushStart h i) s h .pushStart .ok 0 [] (State.run (joined s) [.trigger k]) :=
    fun k hk hst => hserve (answerOk 0 (State.run (joined s) [.trigger k])) (hk ▸ servePushStart_triggers hst)
  have hleaves : ∀ (k : Fin 4) (d : Delivery), k.val = i.toNat →
      (s.dlv.channel k).st = .armed ∨ (s.dlv.channel k).st = .sending →
        State.run (joined s) [.trigger k] = { joined s with dlv := d } →
          Answers (.pushStart h i) s h .pushStart .ok 0 [] { joined s with dlv := d } :=
    fun k d hk hst hd => hd ▸ htrigger k hk hst
  refine ⟨fun hi => hserve _ (servePushStart_badIndex _ hi),
    fun k hk hst => hserve (refuse .badState (joined s)) (hk ▸ servePushStart_badState hst), htrigger,
    fun k hk => ⟨fun hs hb => ?_, fun hs hb hl => ?_, fun hs hb hl => ?_, fun hs hnot hstop => ?_,
      fun hs hup hlist hroom hempty => ?_⟩⟩
  · exact hleaves k _ hk (.inr hs) (State.run_of_silent (joined s) _ _ (takeTrigger_burst hs hb))
  · exact hleaves k _ hk (.inr hs) (State.run_of_silent (joined s) _ _ (takeTrigger_backlog hs hb hl))
  · exact hleaves k _ hk (.inr hs) (State.run_of_silent (joined s) _ _ (takeTrigger_saturated hs hb hl))
  all_goals
    set d := s.dlv.setChannel k (s.dlv.channel k).triggered with hd
    have hchan : d.channel k = (s.dlv.channel k).triggered := Delivery.setChannel_channel_same _ k _
    have hport : (d.channel k).cfg.port = (s.dlv.channel k).cfg.port := by rw [hchan]; rfl
    have hsend : (d.channel k).st = .sending := by rw [hchan]; rfl
    refine hleaves k _ hk (.inl hs) (State.run_trigger_armed (joined s) k _ hs ?_)
    change attemptSend (joined s).env k false d = _
  · have hblocked : ¬ d.Proceeds k false := by
      rw [Delivery.Proceeds, hport, hd, Delivery.setChannel_port, Delivery.setChannel_wait]
      rintro ⟨hup, hlist, hroom⟩
      rcases hstop with hstop | hstop | hstop
      · exact absurd (hstop.symm.trans hup) (by decide)
      · exact hstop (hlist.resolve_left (by decide))
      · exact absurd hstop (Nat.not_le.mpr hroom)
    rw [attemptSend_waits _ hsend hblocked, hport, joinWait_eq, hd, Delivery.setChannel_wait, if_neg hnot]
    rfl
  · have hproceeds : d.Proceeds k false := by
      rw [Delivery.Proceeds, hport, hd, Delivery.setChannel_port, Delivery.setChannel_wait]
      exact ⟨hup, .inr hlist, hroom⟩
    rw [attemptSend_findsEmpty _ hsend hproceeds hempty, hchan, hd, Delivery.setChannel_setChannel,
      Channel.foundEmpty_triggered _ hs]

end Sys2Proof.Machine
end

section
/-! SUPPORT. SEND_ATTEMPT: the frame a channel places, what it does after it, and what the rest of the cascade leaves of a
channel that is DONE (R142 to R145). -/

namespace Sys2Proof.Machine

/-! ## The frame placed (R132, R142) -/

theorem takeRecords_zero (words : Nat) (l : List IntervalRecord) : takeRecords 0 words l = ([], l) := by
  cases l <;> simp [takeRecords]

theorem Channel.recordLimit_eq (ch : Channel) :
    ch.recordLimit = if ch.cfg.burst = true then (if ch.cfg.count ≠ 0 then ch.remaining else 11) else 1 := by
  rw [Channel.recordLimit]
  cases ch.cfg.burst <;> rfl

/-- The records the next frame of channel c takes, and those it leaves in the Record Queue. -/
def Delivery.taken (d : Delivery) (c : Fin 4) : List IntervalRecord × List IntervalRecord :=
  takeRecords (d.channel c).recordLimit Config.removalWords d.recq.records

theorem Delivery.taken_eq (d : Delivery) (c : Fin 4) : d.taken c =
    takeRecords (if (d.channel c).cfg.burst = true then (if (d.channel c).cfg.count ≠ 0 then (d.channel c).remaining else 11)
      else 1) 373 d.recq.records := by
  rw [Delivery.taken, Channel.recordLimit_eq]
  rfl

/-- A channel without burst takes the head record when it fits. -/
theorem Delivery.taken_one {d : Delivery} {c : Fin 4} {r : IntervalRecord} {rest : List IntervalRecord}
    (hb : (d.channel c).cfg.burst = false) (hrec : d.recq.records = r :: rest) (hfits : recordWords r ≤ 373) :
    d.taken c = ([r], rest) := by
  rw [Delivery.taken_eq, hb, hrec]
  simp [takeRecords, hfits, takeRecords_zero]

/-- The next frame of channel c. -/
def Delivery.nextFrame (d : Delivery) (node : Node) (c : Fin 4) : RecordFrame :=
  { dest := (d.channel c).cfg.dest, source := node, channel := c, seq := (d.channel c).seq + 1, records := (d.taken c).1 }

/-- The Record Queue without the records of the next frame. -/
def Delivery.queueLeft (d : Delivery) (c : Fin 4) : RecordQueue :=
  { d.recq with records := (d.taken c).2, pushed := d.recq.pushed + BitVec.ofNat 32 (d.taken c).1.length }

/-- The delivery side with the next frame of channel c in its port's REPORT queue. -/
def Delivery.framePlaced (d : Delivery) (node : Node) (c : Fin 4) : Delivery :=
  (({ d with recq := d.queueLeft c } : Delivery).setChannel c ((d.channel c).placed (d.taken c).1.length)).setPort
    (d.channel c).cfg.port { d.port (d.channel c).cfg.port with
      reportQ := (d.port (d.channel c).cfg.port).reportQ ++ [d.nextFrame node c] }

theorem attemptSend_places {env : Env} {d : Delivery} {c : Fin 4} {head : Bool} (hs : (d.channel c).st = .sending)
    (h : d.Proceeds c head) (hr : d.recq.records ≠ []) :
    attemptSend env c head d = (d.framePlaced env.node c,
      [.queueHigh, .grant (d.channel c).cfg.port, .sent c (d.taken c).1.length]) := by
  simp only [attemptSend, hs, ne_eq, not_true_eq_false, if_false]
  rw [if_pos ((Delivery.proceeds_iff d c head).mp h), if_neg (by simpa using hr)]
  rfl

/-! ## What the channel does next (R144, R145) -/

/-- What remains of a channel's count after a frame of k records. -/
def Channel.left (k : Nat) (ch : Channel) : Nat := if ch.cfg.count ≠ 0 then ch.remaining - k else ch.remaining

/-- The source of a channel's PUSH_DONE (R145). -/
def pushDone (c : Fin 4) : Fin 20 := ⟨10 + c.val, by omega⟩

theorem eq_pushDone {n : Fin 20} {c : Fin 4} (h : n.val = 10 + c.val) : n = pushDone c := Fin.ext h

theorem pushDone_ne_queueHigh (c : Fin 4) : pushDone c ≠ 8 := by
  intro e
  have h : 10 + c.val = 8 := congrArg Fin.val e
  omega

section Continue
variable {c : Fin 4} {k : Nat} {d : Delivery}

theorem continueSend_done (hc : (d.channel c).cfg.count ≠ 0) (hl : (d.channel c).left k = 0) :
    continueSend c k d = (d.setChannel c { d.channel c with
        st := .done, remaining := (d.channel c).left k, backlog := 0, fresh := false },
      [.edge (pushDone c) (BitVec.ofNat 32 c.val)]) := by
  have hend : ((d.channel c).cfg.count ≠ 0 && (d.channel c).left k == 0) = true := by simp [hc, hl]
  rw [Channel.left] at hend ⊢
  simp only [continueSend, hend, if_true]
  rfl

/-- A channel that has not come to the end of its count goes on by its mode. -/
theorem continueSend_more (h : (d.channel c).cfg.count = 0 ∨ (d.channel c).left k ≠ 0) :
    continueSend c k d =
      if (d.channel c).cfg.burst then
        if d.recq.records.isEmpty then
          (d.setChannel c { d.channel c with st := .armed, remaining := (d.channel c).left k, fresh := false }, [])
        else (d.setChannel c { d.channel c with remaining := (d.channel c).left k, fresh := false }, [.attempt c false])
      else if 0 < (d.channel c).backlog then
        (d.setChannel c { d.channel c with
          remaining := (d.channel c).left k, backlog := (d.channel c).backlog - 1, fresh := true }, [.attempt c false])
      else (d.setChannel c { d.channel c with st := .armed, remaining := (d.channel c).left k, fresh := false }, []) := by
  have hgo : ((d.channel c).cfg.count ≠ 0 && (d.channel c).left k == 0) = false := by
    rcases h with h | h <;> simp [h]
  rw [Channel.left] at hgo ⊢
  simp only [continueSend, hgo, Bool.false_eq_true, if_false]

theorem continueSend_burst (h : (d.channel c).cfg.count = 0 ∨ (d.channel c).left k ≠ 0)
    (hb : (d.channel c).cfg.burst = true) (hr : d.recq.records ≠ []) :
    continueSend c k d =
      (d.setChannel c { d.channel c with remaining := (d.channel c).left k, fresh := false }, [.attempt c false]) := by
  rw [continueSend_more h, if_pos hb, if_neg (by simpa using hr)]

theorem continueSend_backlog (h : (d.channel c).cfg.count = 0 ∨ (d.channel c).left k ≠ 0)
    (hb : (d.channel c).cfg.burst = false) (hl : 0 < (d.channel c).backlog) :
    continueSend c k d = (d.setChannel c { d.channel c with
      remaining := (d.channel c).left k, backlog := (d.channel c).backlog - 1, fresh := true }, [.attempt c false]) := by
  rw [continueSend_more h, if_neg (by simp [hb]), if_pos hl]

/-- With nothing to go on for the channel is ARMED: a burst has emptied the queue, or no backlog is left. -/
theorem continueSend_armed (h : (d.channel c).cfg.count = 0 ∨ (d.channel c).left k ≠ 0)
    (hend : (d.channel c).cfg.burst = true ∧ d.recq.records = [] ∨
      (d.channel c).cfg.burst = false ∧ (d.channel c).backlog = 0) :
    continueSend c k d = (d.setChannel c { d.channel c with
      st := .armed, remaining := (d.channel c).left k, fresh := false }, []) := by
  rw [continueSend_more h]
  rcases hend with ⟨hb, hr⟩ | ⟨hb, hl⟩
  · rw [if_pos hb, if_pos (by simp [hr])]
  · rw [if_neg (by simp [hb]), if_neg (by omega)]

theorem Channel.left_of_uncounted {ch : Channel} (hc : ch.cfg.count = 0) : ch.left k = ch.remaining :=
  if_neg (not_not_intro hc)

end Continue

/-! ## The wait list served (R143) -/

theorem serveWaitList_head {p : Port} {d : Delivery} {c : Fin 4} {rest : List (Fin 4)} (hw : d.wait p = c :: rest)
    (hu : (d.port p).up = true) (hroom : (d.port p).reportQ.length < Config.reportRoom) :
    serveWaitList p d = (d.setWait p rest, [.attempt c true, .waitList p]) := by
  simp [serveWaitList, hw, hu, hroom]

theorem serveWaitList_stays {p : Port} {d : Delivery}
    (h : d.wait p = [] ∨ (d.port p).up = false ∨ Config.reportRoom ≤ (d.port p).reportQ.length) :
    serveWaitList p d = (d, []) := by
  rw [serveWaitList]
  split
  · rfl
  · rename_i c rest hw
    rcases h with h | h | h
    · rw [hw] at h; exact absurd h (List.cons_ne_nil _ _)
    · simp [h]
    · simp [Nat.not_lt.mpr h]

/-- A wait list that is not served stays as it is, however often the cascade comes to it. -/
theorem settle_waitLists (env : Env) {p : Port} {d : Delivery} (h : serveWaitList p d = (d, [])) (ts : List Task)
    (hts : ∀ t ∈ ts, t = .waitList p) (n : Nat) : settle env n ts d = d := by
  induction ts generalizing n with
  | nil => exact settle_nil env n d
  | cons t ts ih =>
    cases n with
    | zero => rfl
    | succ n =>
      rw [settle_cons, hts t List.mem_cons_self, perform, h, follow_nil]
      exact ih (fun u hu => hts u (List.mem_cons_of_mem _ hu)) n

/-! ## A frame on a transmitting port -/

theorem follow_one (t : Task) (ts : List Task) (h : t.deferred = false) : follow [t] ts = t :: ts :=
  follow_eq [t] ts fun u hu => by rw [List.mem_singleton] at hu; rw [hu, h]

/-- Below the watermark an evaluation of QUEUE_HIGH stores its entry and brings nothing about (R133). -/
theorem settle_queueLow (env : Env) (n : Nat) (ts : List Task) (d : Delivery) (h : wordsOf d.recq.records < env.watermark) :
    settle env (n + 2) (.queueHigh :: ts) d =
      settle env n ts (recordLevels [queueHighReport env.watermark d.recq] d).1 := by
  have hsilent : (recordLevels [queueHighReport env.watermark d.recq] d).2 = [] := by
    simp [recordLevels, queueHighReport, RecordQueue.words, Nat.not_le.mpr h]
  rw [settle_cons, perform, follow_one _ _ rfl, settle_cons, perform, hsilent, follow_nil]

/-- Channel c has placed its next frame, and `w` is then its port's wait list: what else differs is the entry of
QUEUE_HIGH. -/
structure FrameSent (node : Node) (c : Fin 4) (w : List (Fin 4)) (d x : Delivery) : Prop where
  channel : x.channel c = (d.channel c).placed (d.taken c).1.length
  others : ∀ b : Fin 4, b ≠ c → x.channel b = d.channel b
  port : x.port (d.channel c).cfg.port = { d.port (d.channel c).cfg.port with
    reportQ := (d.port (d.channel c).cfg.port).reportQ ++ [d.nextFrame node c] }
  recq : x.recq = d.queueLeft c
  wait : x.wait (d.channel c).cfg.port = w
  alert : ∀ n : Fin 20, n ≠ 8 → x.alert n = d.alert n

theorem FrameSent.reportQ {node : Node} {c : Fin 4} {w : List (Fin 4)} {d x : Delivery} (h : FrameSent node c w d x) :
    (x.port (d.channel c).cfg.port).reportQ = (d.port (d.channel c).cfg.port).reportQ ++ [d.nextFrame node c] :=
  congrArg PortState.reportQ h.port

/-- The frame placed, with the entry of QUEUE_HIGH as its evaluation leaves it. -/
theorem frameSent_placed (node : Node) (c : Fin 4) (watermark : Nat) (d : Delivery) :
    FrameSent node c (d.wait (d.channel c).cfg.port) d
      (recordLevels [queueHighReport watermark (d.queueLeft c)] (d.framePlaced node c)).1 := by
  have hrest := recordLevels_eq [queueHighReport watermark (d.queueLeft c)] (d.framePlaced node c)
  have hport : ∀ o, (recordLevels [queueHighReport watermark (d.queueLeft c)] (d.framePlaced node c)).1.port o =
      (d.framePlaced node c).port o := fun o => by rw [hrest]; cases o <;> rfl
  have hwait : ∀ o, (recordLevels [queueHighReport watermark (d.queueLeft c)] (d.framePlaced node c)).1.wait o =
      (d.framePlaced node c).wait o := fun o => by rw [hrest]; cases o <;> rfl
  have hchan : ∀ b, (recordLevels [queueHighReport watermark (d.queueLeft c)] (d.framePlaced node c)).1.channel b =
      (d.framePlaced node c).channel b := fun b => by rw [hrest]; rfl
  refine ⟨?_, fun b hb => ?_, ?_, ?_, ?_, fun n hn => ?_⟩
  · rw [hchan, Delivery.framePlaced, Delivery.setPort_channel, Delivery.setChannel_channel_same]
  · rw [hchan, Delivery.framePlaced, Delivery.setPort_channel, Delivery.setChannel_channel_other _ c b _ hb]
    rfl
  · rw [hport, Delivery.framePlaced, Delivery.setPort_port_same]
  · rw [hrest, Delivery.framePlaced]
    exact Delivery.setPort_recq _ _ _
  · rw [hwait, Delivery.framePlaced, Delivery.setPort_wait, Delivery.setChannel_wait]
    cases (d.channel c).cfg.port <;> rfl
  · have huntold := (recordLevels_untold [queueHighReport watermark (d.queueLeft c)] n (d.framePlaced node c)
      fun r hr => by rw [List.mem_singleton] at hr; rw [hr]; exact Ne.symm hn).1
    rw [huntold, Delivery.framePlaced, Delivery.setPort_alert, Delivery.setChannel_alert]
    rfl

/-- On a transmitting port, with the queue left below the watermark, the cascade comes from the frame to what the channel does
next. -/
theorem settle_attempt (env : Env) (n : Nat) (ts : List Task) {d : Delivery} {c : Fin 4} {head : Bool}
    (hs : (d.channel c).st = .sending) (hp : d.Proceeds c head) (hb : (d.port (d.channel c).cfg.port).free = false)
    (hr : d.recq.records ≠ []) (hlow : wordsOf (d.taken c).2 < env.watermark) :
    ∃ x, FrameSent env.node c (d.wait (d.channel c).cfg.port) d x ∧
      settle env (n + 5) (.attempt c head :: ts) d =
        settle env n (follow (continueSend c (d.taken c).1.length x).2 ts) (continueSend c (d.taken c).1.length x).1 := by
  have hsent := frameSent_placed env.node c env.watermark d
  have hrecq : (d.framePlaced env.node c).recq = d.queueLeft c := Delivery.setPort_recq _ _ _
  refine ⟨_, hsent, ?_⟩
  have hbusy := congrArg PortState.free hsent.port
  rw [settle_cons, perform, attemptSend_places hs hp hr, follow_eq _ _ (by simp [Task.deferred]), List.cons_append,
    settle_queueLow _ _ _ _ (by rw [hrecq]; exact hlow), hrecq, List.cons_append, settle_cons, perform,
    grant_busy _ _ _ (hbusy.trans hb), follow_nil, List.cons_append, List.nil_append, settle_cons, perform]

/-! ## The row -/

section Row
variable {s : State} {c : Fin 4}

theorem exec_sendAttempt_listed (hr : s.inReset = false)
    (h : (s.dlv.wait (s.dlv.channel c).cfg.port).head? = some c) :
    exec (.sendAttempt c) s = .next (s.run [.waitList (s.dlv.channel c).cfg.port]) := by
  rw [exec, execSendAttempt, State.event_out_of_reset s _ hr, if_pos h]

theorem exec_sendAttempt_unlisted (hr : s.inReset = false)
    (h : (s.dlv.wait (s.dlv.channel c).cfg.port).head? ≠ some c) :
    exec (.sendAttempt c) s = .next (s.run [.attempt c false]) := by
  rw [exec, execSendAttempt, State.event_out_of_reset s _ hr, if_neg h]

/-- An attempt of a channel that is not at the head of its list, and that brings nothing about. -/
theorem exec_sendAttempt_silent {d : Delivery} (hr : s.inReset = false)
    (h : (s.dlv.wait (s.dlv.channel c).cfg.port).head? ≠ some c) (ha : attemptSend s.env c false s.dlv = (d, [])) :
    exec (.sendAttempt c) s = .next { s with dlv := d } := by
  rw [exec_sendAttempt_unlisted hr h, State.run_of_silent s (.attempt c false) d ha]

/-- An attempt that may not place a frame puts the channel on its port's wait list. -/
theorem exec_sendAttempt_waits (hr : s.inReset = false) (hs : (s.dlv.channel c).st = .sending)
    (h : (s.dlv.wait (s.dlv.channel c).cfg.port).head? ≠ some c) (hstop : ¬ s.dlv.Proceeds c false) :
    exec (.sendAttempt c) s = .next { s with dlv := joinWait c (s.dlv.channel c).cfg.port s.dlv } :=
  exec_sendAttempt_silent hr h (attemptSend_waits s.env hs hstop)

/-- The channel is SENDING on a transmitting port with room, and first there: it stands at the head of the wait list or the
list is empty. There are records, and its next frame leaves the queue below the watermark. -/
structure SendsFrame (s : State) (c : Fin 4) : Prop where
  outOfReset : s.inReset = false
  sending : (s.dlv.channel c).st = .sending
  busy : PortBusy s (s.dlv.channel c).cfg.port
  room : (s.dlv.port (s.dlv.channel c).cfg.port).reportQ.length < Config.reportRoom
  first : s.dlv.wait (s.dlv.channel c).cfg.port = [] ∨ (s.dlv.wait (s.dlv.channel c).cfg.port).head? = some c
  records : s.dlv.recq.records ≠ []
  low : wordsOf (s.dlv.taken c).2 < s.device.watermark

theorem FrameSent.of_setWait {node : Node} {w : List (Fin 4)} {d x : Delivery}
    (h : FrameSent node c w (d.setWait (d.channel c).cfg.port w) x) : FrameSent node c w d x := by
  have htaken : (d.setWait (d.channel c).cfg.port w).taken c = d.taken c := by
    rw [Delivery.taken, Delivery.setWait_channel, Delivery.setWait_recq]; rfl
  obtain ⟨hchan, hothers, hport, hrecq, hwait, halert⟩ := h
  simp only [Delivery.nextFrame, Delivery.queueLeft, htaken, Delivery.setWait_channel, Delivery.setWait_port,
    Delivery.setWait_recq, Delivery.setWait_alert] at hchan hothers hport hrecq hwait halert
  exact ⟨hchan, hothers, hport, hrecq, hwait, halert⟩

/-- Such a channel leaves the wait list, places one frame and goes on as R144 says; the list is served behind it. -/
theorem SendsFrame.exec_eq (h : SendsFrame s c) :
    ∃ x ts n, FrameSent s.device.node c ((s.dlv.wait (s.dlv.channel c).cfg.port).drop 1) s.dlv x ∧
      (∀ t ∈ ts, t = .waitList (s.dlv.channel c).cfg.port) ∧
      exec (.sendAttempt c) s = .next { s with
        dlv := settle s.env (n + 2) (follow (continueSend c (s.dlv.taken c).1.length x).2 ts)
          (continueSend c (s.dlv.taken c).1.length x).1 } := by
  rcases h.first with hlist | hlist
  · have hnone : (s.dlv.wait (s.dlv.channel c).cfg.port).head? ≠ some c := by rw [hlist]; exact nofun
    obtain ⟨x, hx, hrun⟩ := settle_attempt s.env 4091 [] (head := false) h.sending ⟨h.busy.1, .inr hlist, h.room⟩
      h.busy.not_free h.records h.low
    rw [hlist] at hx ⊢
    exact ⟨x, [], 4089, hx, nofun, by
      rw [exec_sendAttempt_unlisted h.outOfReset hnone]; exact congrArg _ (State.run_of_dlv s _ _ hrun)⟩
  · obtain ⟨rest, hrest⟩ : ∃ rest, s.dlv.wait (s.dlv.channel c).cfg.port = c :: rest := List.head?_eq_some_iff.mp hlist
    set d := s.dlv.setWait (s.dlv.channel c).cfg.port rest with hd
    have hchan : d.channel c = s.dlv.channel c := Delivery.setWait_channel _ _ _ _
    have hport : d.port (s.dlv.channel c).cfg.port = s.dlv.port (s.dlv.channel c).cfg.port := Delivery.setWait_port _ _ _ _
    have hrecq : d.recq = s.dlv.recq := Delivery.setWait_recq _ _ _
    have htaken : d.taken c = s.dlv.taken c := by rw [Delivery.taken, hchan, hrecq]; rfl
    have hwait : d.wait (s.dlv.channel c).cfg.port = rest := Delivery.setWait_wait_same _ _ _
    obtain ⟨x, hx, hrun⟩ := settle_attempt s.env 4090 [.waitList (s.dlv.channel c).cfg.port] (d := d) (c := c) (head := true)
      (by rw [hchan]; exact h.sending) (by rw [Delivery.Proceeds, hchan, hport]; exact ⟨h.busy.1, .inl rfl, h.room⟩)
      (by rw [hchan, hport]; exact h.busy.not_free) (by rw [hrecq]; exact h.records) (by rw [htaken]; exact h.low)
    rw [hchan, hwait] at hx
    rw [htaken] at hrun
    refine ⟨x, [.waitList (s.dlv.channel c).cfg.port], 4088, by rw [hrest]; exact hx.of_setWait,
      fun t ht => List.mem_singleton.mp ht, ?_⟩
    rw [exec_sendAttempt_listed h.outOfReset hlist]
    refine congrArg _ (State.run_of_dlv s _ _ ?_)
    rw [run_cons, perform, serveWaitList_head hrest h.busy.1 h.room, ← hd, follow_eq _ _ (by simp [Task.deferred])]
    exact hrun

end Row

end Sys2Proof.Machine
end

section
/-! SUPPORT. How SEND_ATTEMPT ends after its one frame: with the channel ARMED, on the wait list again, or DONE (R142 to R145). -/

namespace Sys2Proof.Machine

/-! ## A channel that is DONE (R141, R145) -/

/-- The task does not continue channel c after a frame, and records no occurrence or report of its PUSH_DONE. -/
def Task.spares (c : Fin 4) (t : Task) : Prop := ¬ t.tells (pushDone c) ∧ ∀ k, t ≠ .sent c k

theorem Task.ne_sent_of_atRest {t : Task} (h : t.atRest) (c : Fin 4) (k : Nat) : t ≠ .sent c k := by
  rintro rfl
  exact h

theorem takeTrigger_tasks (b : Fin 4) (d : Delivery) :
    (takeTrigger b d).2 = [] ∨ (takeTrigger b d).2 = [.attempt b false] := by
  rw [takeTrigger]
  split
  · exact .inr rfl
  · split
    · exact .inl rfl
    · split <;> exact .inl rfl
  · exact .inl rfl
  · exact .inl rfl

theorem takeTrigger_other {b c : Fin 4} (d : Delivery) (h : c ≠ b) : (takeTrigger b d).1.channel c = d.channel c := by
  rw [takeTrigger]
  split
  · exact Delivery.setChannel_channel_other d b c _ h
  · split
    · rfl
    · split <;> exact Delivery.setChannel_channel_other d b c _ h
  · rfl
  · rfl

theorem takeTrigger_done {c : Fin 4} {d : Delivery} (h : (d.channel c).st = .done) : takeTrigger c d = (d, []) := by
  rw [takeTrigger, h]

theorem attemptSend_tasks (env : Env) (b : Fin 4) (head : Bool) (d : Delivery) :
    (attemptSend env b head d).2 = [] ∨
      ∃ p k, (attemptSend env b head d).2 = [.queueHigh, .grant p, .sent b k] := by
  simp only [attemptSend]
  split
  · exact .inl rfl
  · split
    · split
      · exact .inl rfl
      · exact .inr ⟨_, _, rfl⟩
    · exact .inl rfl

theorem joinWait_channel (b c : Fin 4) (p : Port) (d : Delivery) : (joinWait b p d).channel c = d.channel c := by
  rw [joinWait_eq]
  split
  · rfl
  · exact Delivery.setWait_channel d p _ c

theorem attemptSend_other (env : Env) {b c : Fin 4} (head : Bool) (d : Delivery) (h : c ≠ b) :
    (attemptSend env b head d).1.channel c = d.channel c := by
  simp only [attemptSend]
  split
  · rfl
  · split
    · split
      · exact Delivery.setChannel_channel_other d b c _ h
      · rw [Delivery.setPort_channel, Delivery.setChannel_channel_other _ b c _ h]; rfl
    · exact joinWait_channel b c _ d

theorem continueSend_tasks (b : Fin 4) (k : Nat) (d : Delivery) :
    (continueSend b k d).2 = [] ∨ (continueSend b k d).2 = [.attempt b false] ∨
      ∃ detail, (continueSend b k d).2 = [.edge (pushDone b) detail] := by
  by_cases hend : (d.channel b).cfg.count = 0 ∨ (d.channel b).left k ≠ 0
  · rw [continueSend_more hend]
    split
    · split
      · exact .inl rfl
      · exact .inr (.inl rfl)
    · split
      · exact .inr (.inl rfl)
      · exact .inl rfl
  · rw [not_or, not_not] at hend
    rw [continueSend_done hend.1 hend.2]
    exact .inr (.inr ⟨_, rfl⟩)

theorem continueSend_other {b c : Fin 4} (k : Nat) (d : Delivery) (h : c ≠ b) :
    (continueSend b k d).1.channel c = d.channel c := by
  by_cases hend : (d.channel b).cfg.count = 0 ∨ (d.channel b).left k ≠ 0
  · rw [continueSend_more hend]
    split
    · split <;> exact Delivery.setChannel_channel_other d b c _ h
    · split <;> exact Delivery.setChannel_channel_other d b c _ h
  · rw [not_or, not_not] at hend
    rw [continueSend_done hend.1 hend.2]
    exact Delivery.setChannel_channel_other d b c _ h

theorem serveWaitList_tasks (p : Port) (d : Delivery) :
    (serveWaitList p d).2 = [] ∨ ∃ b, (serveWaitList p d).2 = [.attempt b true, .waitList p] := by
  rw [serveWaitList]
  split
  · exact .inl rfl
  · split
    · exact .inr ⟨_, rfl⟩
    · exact .inl rfl

theorem serveWaitList_channels (p : Port) (d : Delivery) : (serveWaitList p d).1.channels = d.channels := by
  rw [serveWaitList]
  split
  · rfl
  · split
    · exact Delivery.setWait_channels d p _
    · rfl

/-- A channel that is DONE stays as it is through every task but its own continuation, and none brings that about. -/
theorem perform_done (env : Env) {c : Fin 4} {d : Delivery} (hd : (d.channel c).st = .done) (t : Task)
    (ht : ∀ k, t ≠ .sent c k) :
    (perform env t d).1.channel c = d.channel c ∧ ∀ u ∈ (perform env t d).2, ∀ k, u ≠ .sent c k := by
  have stays (x : Delivery) (h : x.channels = d.channels) : x.channel c = d.channel c := by
    rw [Delivery.channel, h]; rfl
  cases t with
  | edge n detail =>
    exact ⟨stays _ (recordEdge_frame n detail d).2.1,
      fun u hu => Task.ne_sent_of_atRest (recordEdge_tasks_atRest n detail d u hu) c⟩
  | levels reports =>
    exact ⟨stays _ (by rw [perform, recordLevels_eq]),
      fun u hu => Task.ne_sent_of_atRest (recordLevels_tasks_atRest reports d u hu) c⟩
  | queueHigh => exact ⟨rfl, by simp [perform]⟩
  | trigger b =>
    by_cases e : c = b
    · rw [perform, ← e, takeTrigger_done hd]; exact ⟨rfl, nofun⟩
    · refine ⟨takeTrigger_other d e, ?_⟩
      rcases takeTrigger_tasks b d with h | h <;> simp [perform, h]
  | attempt b head =>
    by_cases e : c = b
    · rw [perform, ← e, attemptSend_idle env c head d (by rw [hd]; decide)]; exact ⟨rfl, nofun⟩
    · refine ⟨attemptSend_other env head d e, ?_⟩
      rcases attemptSend_tasks env b head d with h | ⟨p, k, h⟩ <;> simp [perform, h, Ne.symm e]
  | sent b k =>
    have e : c ≠ b := fun e => ht k (by rw [e])
    refine ⟨continueSend_other k d e, ?_⟩
    rcases continueSend_tasks b k d with h | h | ⟨detail, h⟩ <;> simp [perform, h]
  | waitList p =>
    refine ⟨stays _ (serveWaitList_channels p d), ?_⟩
    rcases serveWaitList_tasks p d with h | ⟨b, h⟩ <;> simp [perform, h]
  | offers p =>
    refine ⟨stays _ (offerOne_frame env p d).2.1, ?_⟩
    rcases offerOne_tasks env p d with h | h <;> simp [perform, h]
  | grant p =>
    refine ⟨stays _ (grant_frame env p d).2.1, ?_⟩
    rcases grant_tasks env p d with h | h | h <;> simp [perform, h]
  | freed p => exact ⟨rfl, by simp [perform]⟩

theorem pushDone_val_ne {b c : Fin 4} (h : c ≠ b) : (pushDone c).val ≠ 10 + b.val := by
  intro e
  exact h (Fin.ext (Nat.add_left_cancel e))

/-- Only channel c's own continuation tells of its PUSH_DONE. -/
theorem perform_pushDone (env : Env) {c : Fin 4} (d : Delivery) (t : Task) (ht : t.spares c) :
    SameReport (d.alert (pushDone c)) ((perform env t d).1.alert (pushDone c)) ∧
      ∀ u ∈ (perform env t d).2, ¬ u.tells (pushDone c) := by
  have of_eq (x : AlertEntry) (h : x = d.alert (pushDone c)) : SameReport (d.alert (pushDone c)) x := by
    rw [h]; exact .refl _
  obtain ⟨htell, hsent⟩ := ht
  cases t with
  | edge m detail => exact (recordEdge_untold m (pushDone c) detail d htell).imp_left (of_eq _)
  | levels reports =>
    exact (recordLevels_untold reports (pushDone c) d fun r hr e => htell ⟨r, hr, e⟩).imp_left (of_eq _)
  | queueHigh =>
    refine ⟨.refl _, ?_⟩
    simpa [perform, Task.tells, queueHighReport] using Ne.symm (pushDone_ne_queueHigh c)
  | trigger b => exact ⟨of_eq _ (by rw [perform, takeTrigger_eq]; rfl), takeTrigger_untold b d _⟩
  | attempt b head => exact (attemptSend_untold env b head d _).imp_left (of_eq _)
  | sent b k =>
    have e : c ≠ b := fun e => hsent k (by rw [e])
    exact ⟨of_eq _ (by rw [perform, continueSend_eq]; rfl), continueSend_untold b k d _ (pushDone_val_ne e)⟩
  | waitList p => exact (serveWaitList_untold p d _).imp_left (of_eq _)
  | offers p =>
    refine ⟨offerOne_sameReport env p d _, ?_⟩
    rcases offerOne_tasks env p d with h | h <;> simp [perform, h, Task.tells]
  | grant p =>
    refine ⟨grant_sameReport env p d _, ?_⟩
    rcases grant_tasks env p d with h | h | h <;> simp [perform, h, Task.tells]
  | freed p => exact ⟨.refl _, by simp [perform, Task.tells]⟩

/-- Through a cascade whose tasks spare it, a channel that is DONE stays as it is and its PUSH_DONE is not raised. -/
theorem settle_done (env : Env) {c : Fin 4} (n : Nat) (ts : List Task) (d : Delivery) (hd : (d.channel c).st = .done)
    (hts : ∀ t ∈ ts, t.spares c) :
    (settle env n ts d).channel c = d.channel c ∧
      ((settle env n ts d).alert (pushDone c)).occurrences = (d.alert (pushDone c)).occurrences := by
  refine settle_keeps env (fun x => x.channel c = d.channel c ∧
    (x.alert (pushDone c)).occurrences = (d.alert (pushDone c)).occurrences) (Task.spares c) ?_ n ts d hts ⟨rfl, rfl⟩
  rintro t x ht ⟨hchan, hocc⟩
  obtain ⟨hkeep, hnot⟩ := perform_done env (by rw [hchan]; exact hd) t ht.2
  obtain ⟨⟨-, -, -, hsame⟩, huntold⟩ := perform_pushDone env x t ht
  exact ⟨⟨hkeep.trans hchan, hsame.trans hocc⟩, fun u hu => ⟨huntold u hu, hnot u hu⟩⟩

/-- The occurrence of PUSH_DONE that a count's end brings about is counted once (R145). -/
theorem settle_pushDone (env : Env) {c : Fin 4} (n : Nat) (detail : BitVec 32) (ts : List Task) (d : Delivery)
    (hd : (d.channel c).st = .done) (hts : ∀ t ∈ ts, t.spares c) :
    (settle env (n + 1) (.edge (pushDone c) detail :: ts) d).channel c = d.channel c ∧
      ((settle env (n + 1) (.edge (pushDone c) detail :: ts) d).alert (pushDone c)).occurrences =
        (d.alert (pushDone c)).occurrences + 1 := by
  obtain ⟨-, hchan, -⟩ := recordEdge_frame (pushDone c) detail d
  have hsame : (recordEdge (pushDone c) detail d).1.channel c = d.channel c := by rw [Delivery.channel, hchan]; rfl
  have hocc : ((recordEdge (pushDone c) detail d).1.alert (pushDone c)).occurrences =
      (d.alert (pushDone c)).occurrences + 1 := by
    rw [recordEdge]
    split <;> simp [AlertEntry.occur]
  have hnew : ∀ u ∈ (recordEdge (pushDone c) detail d).2, u.spares c := by
    refine fun u hu => ⟨?_, Task.ne_sent_of_atRest (recordEdge_tasks_atRest _ _ _ u hu) c⟩
    rw [recordEdge] at hu
    split at hu
    · exact sourceTriggers_untold d _ _ u hu
    · rcases List.mem_append.mp hu with hu | hu
      · exact sourceTriggers_untold d _ _ u hu
      · rw [List.mem_singleton] at hu; subst hu; exact id
  obtain ⟨hc, ho⟩ := settle_done env n (follow (recordEdge (pushDone c) detail d).2 ts) (recordEdge (pushDone c) detail d).1
    (by rw [hsame]; exact hd) fun u hu => ((mem_follow u _ _).mp hu).elim (hnew u) (hts u)
  rw [settle_cons, perform]
  exact ⟨hc.trans hsame, ho.trans hocc⟩

theorem waitList_spares (p : Port) (c : Fin 4) : (Task.waitList p).spares c := ⟨id, nofun⟩

/-! ## How the row ends -/

section Ends
variable {s : State} {c : Fin 4}

/-- The channel's count has come to 0: it is DONE, and PUSH_DONE is raised once (R145). -/
theorem SendsFrame.done (h : SendsFrame s c) (hc : (s.dlv.channel c).cfg.count ≠ 0)
    (hk : (s.dlv.channel c).remaining ≤ (s.dlv.taken c).1.length) :
    ∃ d, exec (.sendAttempt c) s = .next { s with dlv := d } ∧
      d.channel c = { (s.dlv.channel c).placed (s.dlv.taken c).1.length with
        st := .done, remaining := 0, backlog := 0, fresh := false } ∧
      (d.alert (pushDone c)).occurrences = (s.dlv.alert (pushDone c)).occurrences + 1 ∧
      (s.dlv.port (s.dlv.channel c).cfg.port).reportQ ++ [s.dlv.nextFrame s.device.node c] <+:
        (d.port (s.dlv.channel c).cfg.port).reportQ := by
  obtain ⟨x, ts, n, hx, hts, hexec⟩ := h.exec_eq
  have hleft : (x.channel c).left (s.dlv.taken c).1.length = 0 := by
    rw [hx.channel, Channel.left]
    exact (if_pos hc).trans (Nat.sub_eq_zero_of_le hk)
  rw [continueSend_done (by rw [hx.channel]; exact hc) hleft, hleft, hx.channel, follow_one _ _ rfl] at hexec
  set y : Channel := { (s.dlv.channel c).placed (s.dlv.taken c).1.length with
    st := .done, remaining := 0, backlog := 0, fresh := false }
  have hport : (x.setChannel c y).port (s.dlv.channel c).cfg.port = _ := (Delivery.setChannel_port x c y _).trans hx.port
  have hfree := (congrArg PortState.free hport).trans h.busy.not_free
  obtain ⟨hchan, hocc⟩ := settle_pushDone s.env (n + 1) (BitVec.ofNat 32 c.val) ts (x.setChannel c y)
    (by rw [Delivery.setChannel_channel_same]) (fun t ht => hts t ht ▸ waitList_spares _ c)
  obtain ⟨-, hprefix, -⟩ := settle_busy_port s.env (n + 2) (.edge (pushDone c) (BitVec.ofNat 32 c.val) :: ts)
    (x.setChannel c y) (s.dlv.channel c).cfg.port hfree
  refine ⟨_, hexec, hchan.trans (Delivery.setChannel_channel_same x c y), hocc.trans ?_, ?_⟩
  · rw [Delivery.setChannel_alert, hx.alert _ (pushDone_ne_queueHigh c)]
  · rw [hport] at hprefix; exact hprefix

/-- A channel without a count and with nothing to go on for is ARMED again (R144). -/
theorem SendsFrame.armed (h : SendsFrame s c) (hc : (s.dlv.channel c).cfg.count = 0)
    (hlist : s.dlv.wait (s.dlv.channel c).cfg.port = [])
    (hend : (s.dlv.channel c).cfg.burst = true ∧ (s.dlv.taken c).2 = [] ∨
      (s.dlv.channel c).cfg.burst = false ∧ (s.dlv.channel c).backlog = 0) :
    ∃ x, FrameSent s.device.node c [] s.dlv x ∧ exec (.sendAttempt c) s = .next { s with
      dlv := x.setChannel c { (s.dlv.channel c).placed (s.dlv.taken c).1.length with st := .armed, fresh := false } } := by
  obtain ⟨x, ts, n, hx, hts, hexec⟩ := h.exec_eq
  rw [hlist] at hx
  have hcount : (x.channel c).cfg.count = 0 := by rw [hx.channel]; exact hc
  rw [continueSend_armed (.inl hcount) (by rw [hx.channel, hx.recq]; exact hend), follow_nil,
    Channel.left_of_uncounted hcount, hx.channel,
    settle_waitLists s.env (serveWaitList_stays (.inl (by rw [Delivery.setChannel_wait]; exact hx.wait))) ts hts] at hexec
  exact ⟨x, hx, hexec⟩

/-- A channel without a count that has filled its port and goes on joins the tail of the wait list (R143, R144). -/
theorem SendsFrame.waits (h : SendsFrame s c) (hc : (s.dlv.channel c).cfg.count = 0)
    (hfull : (s.dlv.port (s.dlv.channel c).cfg.port).reportQ.length = 3)
    (hnot : c ∉ (s.dlv.wait (s.dlv.channel c).cfg.port).drop 1)
    (hmore : (s.dlv.channel c).cfg.burst = true ∧ (s.dlv.taken c).2 ≠ [] ∨
      (s.dlv.channel c).cfg.burst = false ∧ 0 < (s.dlv.channel c).backlog) :
    ∃ x, FrameSent s.device.node c ((s.dlv.wait (s.dlv.channel c).cfg.port).drop 1) s.dlv x ∧
      exec (.sendAttempt c) s = .next { s with
        dlv := (x.setChannel c { (s.dlv.channel c).placed (s.dlv.taken c).1.length with
            fresh := !(s.dlv.channel c).cfg.burst
            backlog := if (s.dlv.channel c).cfg.burst = true then (s.dlv.channel c).backlog
              else (s.dlv.channel c).backlog - 1 }).setWait (s.dlv.channel c).cfg.port
          ((s.dlv.wait (s.dlv.channel c).cfg.port).drop 1 ++ [c]) } := by
  obtain ⟨x, ts, n, hx, hts, hexec⟩ := h.exec_eq
  set p := (s.dlv.channel c).cfg.port
  set y : Channel := { (s.dlv.channel c).placed (s.dlv.taken c).1.length with
    fresh := !(s.dlv.channel c).cfg.burst
    backlog := if (s.dlv.channel c).cfg.burst = true then (s.dlv.channel c).backlog else (s.dlv.channel c).backlog - 1 } with hy
  have hcount : (x.channel c).cfg.count = 0 := by rw [hx.channel]; exact hc
  have hcontinue : continueSend c (s.dlv.taken c).1.length x = (x.setChannel c y, [.attempt c false]) := by
    rcases hmore with ⟨hb, hr⟩ | ⟨hb, hl⟩
    · rw [continueSend_burst (.inl hcount) (by rw [hx.channel]; exact hb) (by rw [hx.recq]; exact hr),
        Channel.left_of_uncounted hcount, hx.channel, hy, hb]
      rfl
    · rw [continueSend_backlog (.inl hcount) (by rw [hx.channel]; exact hb) (by rw [hx.channel]; exact hl),
        Channel.left_of_uncounted hcount, hx.channel, hy, hb]
      rfl
  have hchan : (x.setChannel c y).channel c = y := Delivery.setChannel_channel_same x c y
  have hyport : y.cfg.port = p := rfl
  have hlen : Config.reportRoom ≤ ((x.setChannel c y).port p).reportQ.length := by
    rw [Delivery.setChannel_port, hx.reportQ, List.length_append, hfull]
    exact Nat.le_refl 4
  have hblocked : ¬ (x.setChannel c y).Proceeds c false := by
    rw [Delivery.Proceeds, hchan, hyport]
    exact fun hgo => absurd hgo.2.2 (Nat.not_lt.mpr hlen)
  have hwait : (x.setChannel c y).wait p = (s.dlv.wait p).drop 1 := (Delivery.setChannel_wait x c y p).trans hx.wait
  rw [hcontinue, follow_one _ _ rfl, settle_cons, perform,
    attemptSend_waits _ (by rw [hchan]; exact h.sending) hblocked, follow_nil, hchan, hyport, joinWait_eq, hwait, if_neg hnot,
    settle_waitLists s.env (serveWaitList_stays (.inr (.inr (by rw [Delivery.setWait_port]; exact hlen)))) ts hts] at hexec
  exact ⟨x, hx, hexec⟩

end Ends

/-! ## The obligation -/

/-- Settles O29: the single steps of the cascade, and for the whole row that after its frame the channel is ARMED, stands on the
wait list again, or is DONE for the rest of the cascade. -/
theorem sendAttemptPlacesOneFrame : Obligations.SendAttemptPlacesOneFrame := by
  refine ⟨fun s c hr => ⟨fun hs hlist => ?_, fun hs hlist hstop => ?_, fun hs hlist hup hroom hempty => ?_,
      fun r rest hs hlist hbusy hroom hb hc hl hrec hfits hlow => ?_⟩,
    fun env c head d => ⟨fun hs hstop => ?_, fun hs hgo hrec => ?_⟩,
    fun c k d => ⟨fun hc hl => ⟨pushDone c, rfl, continueSend_done hc hl⟩, fun hgo => ⟨continueSend_burst hgo,
      fun hb hrec => continueSend_armed hgo (.inl ⟨hb, hrec⟩), continueSend_backlog hgo,
      fun hb hl => continueSend_armed hgo (.inr ⟨hb, hl⟩)⟩⟩,
    fun p d => ⟨fun c rest hw hu hroom => serveWaitList_head hw hu hroom, serveWaitList_stays⟩,
    fun s c hr => ⟨fun hs hlist hnot => ?_, fun rest hlist hstop => ?_, fun hs hbusy hfirst hnot => ?_⟩⟩
  · exact exec_sendAttempt_silent hr (by rw [hlist]; exact nofun) (attemptSend_idle s.env c false s.dlv hs)
  · have hblocked : ¬ s.dlv.Proceeds c false := fun hgo =>
      hstop.elim (fun hdown => absurd (hdown.symm.trans hgo.1) (by decide)) (Nat.not_le.mpr hgo.2.2)
    rw [exec_sendAttempt_waits hr hs (by rw [hlist]; exact nofun) hblocked, joinWait_eq, hlist]
    rfl
  · exact exec_sendAttempt_silent hr (by rw [hlist]; exact nofun)
      (attemptSend_findsEmpty s.env hs ⟨hup, .inr hlist, hroom⟩ hempty)
  · have htaken := Delivery.taken_one hb hrec hfits
    have hsends : SendsFrame s c :=
      ⟨hr, hs, hbusy, hroom, .inl hlist, by rw [hrec]; exact List.cons_ne_nil _ _, by rw [htaken]; exact hlow⟩
    obtain ⟨x, hx, hexec⟩ := hsends.armed hc hlist (.inr ⟨hb, hl⟩)
    refine ⟨_, hexec, ?_, ?_, ?_, fun b hne => ?_, rfl⟩
    · exact hx.recq.trans (by rw [Delivery.queueLeft, htaken]; rfl)
    · rw [Delivery.setChannel_port, hx.reportQ, Delivery.nextFrame, htaken]
    · rw [Delivery.setChannel_channel_same, htaken]; rfl
    · exact (Delivery.setChannel_channel_other x c b _ hne).trans (hx.others b hne)
  · exact (attemptSend_waits env hs hstop).trans (by rw [joinWait_eq])
  · dsimp only
    rw [← Delivery.taken_eq]
    exact attemptSend_places hs hgo hrec
  · have hblocked : ¬ s.dlv.Proceeds c false := fun hgo => hlist (hgo.2.1.resolve_left (by decide))
    rw [exec_sendAttempt_waits hr hs (fun hhead => hnot (List.mem_of_head? hhead)) hblocked, joinWait_eq, if_neg hnot]
  · rw [exec_sendAttempt_listed hr (by rw [hlist]; rfl), run_noop s (.waitList _) (serveWaitList_stays (.inr hstop))]
  · dsimp only
    rw [← Delivery.taken_eq]
    intro hrec hlow
    have hsends (hroom : (s.dlv.port (s.dlv.channel c).cfg.port).reportQ.length < 4) : SendsFrame s c :=
      ⟨hr, hs, hbusy, hroom, hfirst, hrec, hlow⟩
    refine ⟨fun hc hk hroom => ?_, fun hc hfull hmore => ?_, fun hc hb hlist hempty hroom => ?_⟩
    · obtain ⟨d, hexec, hchan, hocc, hprefix⟩ := (hsends hroom).done hc hk
      exact ⟨_, hexec, hchan, fun n hn => eq_pushDone hn ▸ hocc, hprefix, rfl⟩
    · obtain ⟨x, hx, hexec⟩ := (hsends (by omega)).waits hc hfull hnot hmore
      refine ⟨_, hexec, ?_, ?_, ?_, ?_, rfl⟩
      · rw [Delivery.setWait_port, Delivery.setChannel_port, hx.reportQ, Delivery.nextFrame]
      · rw [Delivery.setWait_recq]; exact hx.recq
      · exact (Delivery.setWait_channel _ _ _ c).trans (Delivery.setChannel_channel_same x c _)
      · exact Delivery.setWait_wait_same _ _ _
    · obtain ⟨x, hx, hexec⟩ := (hsends hroom).armed hc hlist (.inl ⟨hb, hempty⟩)
      refine ⟨_, hexec, ?_, ?_, ?_, rfl⟩
      · rw [Delivery.setChannel_port, hx.reportQ, Delivery.nextFrame]
      · exact Delivery.setChannel_channel_same x c _
      · exact (Delivery.setChannel_wait x c _ _).trans hx.wait

end Sys2Proof.Machine
end

section
/-! SUPPORT. What becomes of an alert entry: the moves that chapter 8 gives it, and that every step carries each entry through
a run of them; from that, the law that no entry is SEND-PENDING and awaiting acknowledgement at once (R153, R159). -/

namespace Sys2Proof.Machine

/-! ## The moves of an entry -/

/-- One change of alert entry n: an occurrence or a report is recorded, its frame is built, handed over or returned, its
configuration is written, a LEVEL entry is acknowledged, an EDGE entry is cleared, the accounting restarts, or the part is
reset (R151 to R163, R166). -/
inductive AlertEntry.Move (n : Fin 20) (e : AlertEntry) : AlertEntry → Prop
  | recorded (detail : BitVec 32) : AlertEntry.Move n e (e.occur detail)
  | reported (r : LevelReport) : AlertEntry.Move n e (e.level r)
  | built (floor : Nat) (p : Port) (ready : e.ready floor n = true) : AlertEntry.Move n e (e.afterBuild n p)
  | handedOver : AlertEntry.Move n e (e.afterHandOver n)
  | returned (f : AlertFrame) (own : f.number = n) : AlertEntry.Move n e (e.restore f)
  | configured (c : AlertCfg) : AlertEntry.Move n e { e with cfg := c }
  | acknowledged (level : isLevel n = true) : AlertEntry.Move n e { e with awaiting := false }
  | cleared (edge : isLevel n = false) : AlertEntry.Move n e { e with queuedOn := none, pending := none, count := 0 }
  | restarted : AlertEntry.Move n e (e.restarted n)
  | reset : AlertEntry.Move n e (.init n.val)

/-- Each alert entry has come through a run of moves. -/
def EntriesMove (d x : Delivery) : Prop := ∀ n, Relation.ReflTransGen (AlertEntry.Move n) (d.alert n) (x.alert n)

namespace EntriesMove

theorem refl (d : Delivery) : EntriesMove d d := fun _ => .refl

theorem trans {d x y : Delivery} (h : EntriesMove d x) (k : EntriesMove x y) : EntriesMove d y := fun n => (h n).trans (k n)

theorem of_same {d x : Delivery} (h : ∀ n, x.alert n = d.alert n) : EntriesMove d x := fun n => by rw [h]

theorem of_eq {d x : Delivery} (h : x = d) : EntriesMove d x := by rw [h]; exact refl d

theorem of_each {d x : Delivery} (h : ∀ n, AlertEntry.Move n (d.alert n) (x.alert n)) : EntriesMove d x := fun n => .single (h n)

/-- A move of one entry on a delivery side that has the entries of the one before. -/
theorem setAlert {d y : Delivery} {n : Fin 20} {e : AlertEntry} (h : AlertEntry.Move n (d.alert n) e)
    (hy : ∀ m, y.alert m = d.alert m := by exact fun _ => rfl) : EntriesMove d (y.setAlert n e) := by
  intro m
  by_cases hm : m = n
  · subst hm; rw [Delivery.setAlert_alert_same]; exact .single h
  · rw [Delivery.setAlert_alert_other y n m e hm, hy]

theorem modPort (d : Delivery) (p : Port) (f : PortState → PortState) : EntriesMove d (d.modPort p f) :=
  of_same (Delivery.modPort_alert d p f)

theorem setPort (d : Delivery) (p : Port) (q : PortState) : EntriesMove d (d.setPort p q) :=
  of_same (Delivery.setPort_alert d p q)

theorem ite {d : Delivery} {s t : State} {c : Prop} [Decidable c] (hs : EntriesMove d s.dlv) (ht : EntriesMove d t.dlv) :
    EntriesMove d (if c then s else t).dlv := by
  split
  · exact hs
  · exact ht

theorem foldl {α : Type} (f : State → α → State) (h : ∀ s a, EntriesMove s.dlv (f s a).dlv) :
    ∀ (l : List α) (s : State), EntriesMove s.dlv (l.foldl f s).dlv := by
  intro l
  induction l with
  | nil => exact fun s => refl s.dlv
  | cons a l ih => exact fun s => (h s a).trans (ih _)

end EntriesMove

/-! ## The cascade -/

theorem recordEdge_entriesMove (n : Fin 20) (detail : BitVec 32) (d : Delivery) : EntriesMove d (recordEdge n detail d).1 := by
  have hset : EntriesMove d (d.setAlert n ((d.alert n).occur detail)) := .setAlert (.recorded detail)
  rw [recordEdge]
  split
  · exact hset.trans (.modPort _ _ _)
  · exact hset

theorem foldl_level_entriesMove (reports : List LevelReport) : ∀ d : Delivery,
    EntriesMove d (reports.foldl (fun d r => d.setAlert r.number ((d.alert r.number).level r)) d) := by
  induction reports with
  | nil => exact .refl
  | cons r rs ih => exact fun d => .trans (.setAlert (.reported r)) (ih _)

theorem offerOne_entriesMove (env : Env) (p : Port) (d : Delivery) : EntriesMove d (offerOne env p d).1 := by
  rw [offerOne]
  split
  · exact .refl d
  · rename_i n hn
    dsimp only
    split
    · exact .setAlert (.built env.floor p (bestReady_ready env.floor p d n hn)) (Delivery.setPort_alert d p _)
    · exact .refl d

theorem grantLocal_entriesMove (env : Env) (p : Port) (win : EgressClass) (d : Delivery) :
    EntriesMove d (grantLocal env p win d).1 := by
  cases win with
  | alert =>
    simp only [grantLocal]
    split
    · exact .refl d
    · exact .setAlert .handedOver (Delivery.setPort_alert d p _)
  | reply =>
    simp only [grantLocal]
    split
    · exact .refl d
    · exact .setPort d p _
  | report =>
    simp only [grantLocal]
    split
    · exact .refl d
    · exact .setPort d p _

theorem grant_entriesMove (env : Env) (p : Port) (d : Delivery) : EntriesMove d (grant env p d).1 := by
  rw [grant]
  split
  · exact .refl d
  · split
    · split
      · exact .refl d
      · exact .setPort d p _
    · split
      · exact .refl d
      · exact grantLocal_entriesMove env p _ d

/-- Of the tasks, the recordings, the offers and the grants move entries, and no other. -/
theorem perform_entriesMove (env : Env) (t : Task) (d : Delivery) : EntriesMove d (perform env t d).1 := by
  cases t with
  | edge n detail => exact recordEdge_entriesMove n detail d
  | levels reports => exact foldl_level_entriesMove reports d
  | queueHigh => exact .refl d
  | trigger c => exact .of_same fun n => by rw [perform, takeTrigger_eq]; rfl
  | attempt c head => exact .of_same fun n => (attemptSend_untold env c head d n).1
  | sent c k => exact .of_same fun n => by rw [perform, continueSend_eq]; rfl
  | waitList p => exact .of_same fun n => (serveWaitList_untold p d n).1
  | offers p => exact offerOne_entriesMove env p d
  | grant p => exact grant_entriesMove env p d
  | freed p => exact .refl d

theorem State.run_entriesMove (s : State) (ts : List Task) : EntriesMove s.dlv (s.run ts).dlv :=
  run_keeps (EntriesMove s.dlv) s ts (fun t d h => h.trans (perform_entriesMove s.env t d)) (.refl _)

/-- The cascade that ends an operation. -/
theorem EntriesMove.run {d : Delivery} {t : State} (h : EntriesMove d t.dlv) (ts : List Task) : EntriesMove d (t.run ts).dlv :=
  h.trans (t.run_entriesMove ts)

/-! ## Points, slots, the Finisher and records -/

theorem State.beginFinish_dlv (s : State) : s.beginFinish.dlv = s.dlv := by rw [State.beginFinish_eq]

theorem State.pointEvent_entriesMove (i : Fin 24) (s : State) (e : PointEvent) :
    EntriesMove s.dlv (s.pointEvent i e).dlv := by
  cases e with
  | overflow => exact s.run_entriesMove _
  | discarded r => exact s.run_entriesMove _
  | untracked b => exact s.run_entriesMove _
  | handOver e => rw [State.pointEvent, State.appendFinish, State.beginFinish_dlv]; exact .refl _

theorem State.onPoint_entriesMove (i : Fin 24) (f : PointCtx → Point → PointStep) (s : State) :
    EntriesMove s.dlv (s.onPoint i f).dlv :=
  EntriesMove.foldl _ (State.pointEvent_entriesMove i) _ (s.setPoint i _)

theorem State.onPoints_entriesMove (f : PointCtx → Point → PointStep) (s : State) : EntriesMove s.dlv (s.onPoints f).dlv :=
  EntriesMove.foldl _ (fun s i => State.onPoint_entriesMove i f s) _ s

theorem State.slotReports_entriesMove (k : Fin 32) (x : SlotStep) (s : State) : EntriesMove s.dlv (s.slotReports k x).dlv := by
  have points (c : Bool) (t : State) (f : PointCtx → Point → PointStep) :
      EntriesMove t.dlv (if c then t.onPoints f else t).dlv := .ite (t.onPoints_entriesMove f) (.refl _)
  have tasks (c : Bool) (t : State) (ts : List Task) :
      EntriesMove t.dlv (if c then t.run ts else t).dlv := .ite (t.run_entriesMove ts) (.refl _)
  exact (((points _ _ _).trans (tasks _ _ _)).trans (points _ _ _)).trans (tasks _ _ _)

theorem State.applySlot_entriesMove (k : Fin 32) (x : SlotStep) (s : State) : EntriesMove s.dlv (s.applySlot k x).dlv :=
  (State.slotReports_entriesMove k x (s.setSlot k x.slot)).trans
    (EntriesMove.foldl _ (fun s r => State.onPoints_entriesMove (fun ctx => Point.offerSet ctx k r) s) _ _)

theorem State.dropFinish_dlv (i : Fin 24) (s : State) : (s.dropFinish i).dlv = s.dlv := by
  rw [State.dropFinish]
  split
  · split
    · rfl
    · split <;> rfl
  · split <;> rfl
  · rfl

theorem State.appendIf_entriesMove (i : Fin 24) (o : Option IntervalRecord) (s : State) :
    EntriesMove s.dlv (s.appendIf i o).dlv := by
  cases o with
  | none => exact .refl _
  | some r => exact State.run_entriesMove { s with dlv := { s.dlv with recq := s.dlv.recq.append r } } _

theorem State.closeInterval_entriesMove (i : Fin 24) (cut : Bool) (s : State) :
    EntriesMove s.dlv (s.closeInterval i cut).dlv :=
  State.appendIf_entriesMove i _ (s.setPoint i _)

theorem State.accountWindow_entriesMove (i : Fin 24) (r : WindowResult) (s : State) :
    EntriesMove s.dlv (s.accountWindow i r).dlv := by
  have happ := State.appendIf_entriesMove i (s.accountOf i r).appended (s.setPoint i (s.accountOf i r).point)
  exact .ite (happ.run _) happ

theorem State.nextFinish_dlv (s : State) : s.nextFinish.dlv = s.dlv := by rw [State.nextFinish, State.beginFinish_dlv]

theorem State.completeFinish_entriesMove (e : FinishEntry) (b : BankSums) (l : LimitProfile) (s : State) :
    EntriesMove s.dlv (s.completeFinish e b l).dlv := by
  rw [State.completeFinish_dlv]
  exact (State.run_entriesMove (s.withResult e.point (finishResult e b l)) _).trans (State.accountWindow_entriesMove _ _ _)

theorem State.endAbandoned_dlv (e : FinishEntry) (s : State) : (s.endAbandoned e).dlv = s.dlv := by
  rw [State.endAbandoned, State.nextFinish_dlv]; rfl

/-! ## Written entries (R162, R176) -/

theorem State.writeSlot_entriesMove (i : Nat) (c : SlotCfg) (s : State) : EntriesMove s.dlv (s.writeSlot i c).dlv := by
  rw [State.writeSlot]
  split
  · exact .refl _
  · exact State.applySlot_entriesMove _ _ s

theorem State.disablePoint_entriesMove (k : Fin 24) (c : PointCfg) (s : State) : EntriesMove s.dlv (s.disablePoint k c).dlv := by
  rw [State.disablePoint, State.updateConditions]
  exact (((State.onPoint_entriesMove k _ s).trans (.of_eq (State.dropFinish_dlv k _))).trans
    (State.closeInterval_entriesMove k false _)).run _

theorem State.writePoint_entriesMove (i : Nat) (c : PointCfg) (s : State) : EntriesMove s.dlv (s.writePoint i c).dlv := by
  rw [State.writePoint]
  split
  · exact .refl _
  · split
    case h_1 => exact State.onPoint_entriesMove _ _ s
    case h_2 => exact State.onPoint_entriesMove _ _ s
    case h_3 => exact State.onPoint_entriesMove _ _ s
    case h_4 => exact State.onPoint_entriesMove _ _ s
    case h_5 => exact State.onPoint_entriesMove _ _ s
    case h_6 => exact State.disablePoint_entriesMove _ c s
    case h_7 => exact State.disablePoint_entriesMove _ c s
    case h_8 => exact State.disablePoint_entriesMove _ c s

theorem State.storeAlert_entriesMove (i : Nat) (c : AlertCfg) (s : State) : EntriesMove s.dlv (s.storeAlert i c).dlv := by
  rw [State.storeAlert]
  split
  · exact .refl _
  · exact .setAlert (.configured c)

theorem State.writePush_entriesMove (i : Nat) (c : PushCfg) (s : State) : EntriesMove s.dlv (s.writePush i c).dlv := by
  rw [State.writePush]
  split
  · exact .refl _
  · exact .of_same fun _ => rfl

theorem State.deviceStored_alert (d : Device) (s : State) (n : Fin 20) : (s.deviceStored d).dlv.alert n = s.dlv.alert n := by
  rw [State.deviceStored]
  split <;> rfl

theorem State.writeDevice_entriesMove (d : Device) (s : State) : EntriesMove s.dlv (s.writeDevice d).dlv := by
  rw [State.writeDevice_eq]
  exact (EntriesMove.of_same (s.deviceStored_alert d)).run _

theorem State.writeEntry_entriesMove (i : Nat) (e : Entry) (s : State) : EntriesMove s.dlv (s.writeEntry i e).dlv := by
  cases e with
  | window w => exact .refl _
  | slot c => exact State.writeSlot_entriesMove i c s
  | point c => exact State.writePoint_entriesMove i c s
  | hset l => exact .refl _
  | limit l => exact .refl _
  | alert c => exact State.storeAlert_entriesMove i c s
  | push c => exact State.writePush_entriesMove i c s
  | device d => exact State.writeDevice_entriesMove d s

theorem State.writeRun_entriesMove (es : List Entry) :
    ∀ (i : Nat) (s : State), EntriesMove s.dlv (s.writeRun i es).dlv := by
  induction es with
  | nil => exact fun _ s => .refl s.dlv
  | cons e es ih => exact fun i s => (State.writeEntry_entriesMove i e s).trans (ih _ _)

theorem State.applyWrite_entriesMove (sp : Space) (first count : Nat) (data : List Byte) (s : State) :
    EntriesMove s.dlv (s.applyWrite sp first count data).dlv := by
  rw [State.applyWrite]
  split
  · exact .refl _
  · have hrun := State.writeRun_entriesMove ‹_› first s
    exact .ite (hrun.run _) hrun

/-! ## Services (R160, R161, R166, R171) -/

theorem Delivery.acknowledge_alert (v : Nat) (d : Delivery) (n : Fin 20) :
    (d.acknowledge v).alert n = if acked v n (d.alert n) then { d.alert n with awaiting := false } else d.alert n := by
  rw [Delivery.acknowledge, Delivery.mapAlerts_alert]

theorem acked_eq (v : Nat) (n : Fin 20) (e : AlertEntry) :
    acked v n e = (isLevel n && e.cfg.vector.toNat == v && e.awaiting) := by
  rw [acked, selected]
  cases isLevel n <;> rfl

theorem Delivery.acknowledge_entriesMove (v : Nat) (d : Delivery) : EntriesMove d (d.acknowledge v) := by
  intro n
  rw [Delivery.acknowledge_alert, acked_eq]
  split
  · rename_i hit
    simp only [Bool.and_eq_true] at hit
    exact .single (.acknowledged hit.1.1)
  · exact .refl

theorem Delivery.clearAlerts_entriesMove (v : Nat) (d : Delivery) : EntriesMove d (d.clearAlerts v) := by
  intro n
  rw [Delivery.clearAlerts_alert, selected_false]
  split
  · rename_i hit
    simp only [Bool.and_eq_true, Bool.not_eq_true'] at hit
    exact .single (.cleared hit.1)
  · exact .refl

theorem Delivery.restarted_entriesMove (d : Delivery) : EntriesMove d d.restarted :=
  .of_each fun n => by rw [Delivery.restarted_alert]; exact .restarted

theorem serveWrite_entriesMove (code first count : Nat) (data : List Byte) (s : State) :
    EntriesMove s.dlv (serveWrite code first count data s).state.dlv := by
  rw [serveWrite]
  split
  · exact .refl _
  · split
    · exact .refl _
    · exact State.applyWrite_entriesMove _ _ _ _ s

theorem serveFetch_entriesMove (p : Port) (count : Nat) (s : State) : EntriesMove s.dlv (serveFetch p count s).state.dlv := by
  rw [serveFetch]
  split
  · exact .refl _
  · dsimp only [State.removeFetched]
    refine EntriesMove.run ?_ _
    exact .refl _

theorem serveAck_entriesMove (v : Nat) (s : State) : EntriesMove s.dlv (serveAck v s).state.dlv := by
  rw [serveAck]
  split
  · exact .refl _
  · exact EntriesMove.run (t := { s with dlv := s.dlv.acknowledge v }) (s.dlv.acknowledge_entriesMove v) _

theorem serveClear_entriesMove (v : Nat) (s : State) : EntriesMove s.dlv (serveClear v s).state.dlv := by
  rw [serveClear]
  split
  · exact .refl _
  · exact EntriesMove.run (t := { s with dlv := s.dlv.clearAlerts v }) (s.dlv.clearAlerts_entriesMove v) _

theorem servePushStart_entriesMove (i : Nat) (s : State) : EntriesMove s.dlv (servePushStart i s).state.dlv := by
  rw [servePushStart]
  split
  · exact .refl _
  · split
    · exact s.run_entriesMove _
    · exact .refl _

theorem State.resetPoint_entriesMove (k : Fin 24) (s : State) : EntriesMove s.dlv (s.resetPoint k).dlv := by
  have hdropped := (State.closeInterval_entriesMove k true s).trans (.of_eq (State.dropFinish_dlv k (s.accountsZeroed k)))
  rw [State.resetPoint, State.onTickets_dlv, State.updateConditions]
  exact (hdropped.trans (State.onPoint_entriesMove k Point.reset _)).run _

theorem serveResetPoint_entriesMove (i : Nat) (s : State) : EntriesMove s.dlv (serveResetPoint i s).state.dlv := by
  rw [serveResetPoint]
  split
  · exact .refl _
  · exact State.resetPoint_entriesMove _ s

theorem State.restartAccounting_entriesMove (s : State) : EntriesMove s.dlv s.restartAccounting.dlv := by
  rw [State.restartAccounting_eq]
  exact EntriesMove.run (t := s.blocksRestarted) s.dlv.restarted_entriesMove _

theorem serveLock_dlv (s : State) : (serveLock s).state.dlv = s.dlv := by
  rw [serveLock]
  split <;> rfl

theorem serveLoadOpen_dlv (source : Node) (code first count : Nat) (s : State) :
    (serveLoadOpen source code first count s).state.dlv = s.dlv := by
  rw [serveLoadOpen]
  repeat' split
  all_goals rfl

theorem serveLoadData_dlv (source : Node) (offset count : Nat) (data : List Byte) (s : State) :
    (serveLoadData source offset count data s).state.dlv = s.dlv := by
  rw [serveLoadData]
  repeat' split
  all_goals rfl

theorem serveLoadClose_entriesMove (source : Node) (data : List Byte) (s : State) :
    EntriesMove s.dlv (serveLoadClose source data s).state.dlv := by
  rw [serveLoadClose]
  split
  · exact .refl _
  · split
    · exact .refl _
    · split
      · exact .refl _
      · split
        · exact .refl _
        · split
          · exact .refl _
          · split
            · exact .refl _
            · refine .trans ?_ (State.applyWrite_entriesMove _ _ _ _ _)
              exact .refl _

theorem serveLoadAbort_dlv (source : Node) (s : State) : (serveLoadAbort source s).state.dlv = s.dlv := by
  rw [serveLoadAbort]
  repeat' split
  all_goals rfl

theorem serveSnapshot_dlv (i ticket : Nat) (s : State) : (serveSnapshot i ticket s).state.dlv = s.dlv := by
  rw [serveSnapshot, serveIssue, serveRetrieve]
  repeat' split
  all_goals rfl

theorem serveKind_entriesMove (k : ReqKind) (p : Port) (source : Node) (code index count : Nat) (data : List Byte) (s : State) :
    EntriesMove s.dlv (serveKind k p source code index count data s).state.dlv := by
  cases k with
  | read => rw [serveKind, serveRead_state]; exact .refl _
  | write => exact serveWrite_entriesMove _ _ _ _ s
  | writePosted => exact serveWrite_entriesMove _ _ _ _ s
  | fetchRecords => exact serveFetch_entriesMove _ _ s
  | alertAck => exact serveAck_entriesMove _ s
  | alertClear => exact serveClear_entriesMove _ s
  | pushStart => exact servePushStart_entriesMove _ s
  | resetPoint => exact serveResetPoint_entriesMove _ s
  | restartAccounting => exact State.restartAccounting_entriesMove s
  | lockMetrology => rw [serveKind, serveLock_dlv]; exact .refl _
  | loadOpen => rw [serveKind, serveLoadOpen_dlv]; exact .refl _
  | loadData => rw [serveKind, serveLoadData_dlv]; exact .refl _
  | loadClose => exact serveLoadClose_entriesMove _ _ s
  | loadAbort => rw [serveKind, serveLoadAbort_dlv]; exact .refl _
  | snapshot => rw [serveKind, serveSnapshot_dlv]; exact .refl _

theorem serve_entriesMove (r : Request) (s : State) : EntriesMove s.dlv (serve r s).state.dlv := by
  rw [serve]
  split
  · exact .refl _
  · split
    · exact .refl _
    · split
      · exact serveKind_entriesMove _ _ _ _ _ _ _ s
      · exact .refl _

/-! ## The agent (R169 to R171) -/

theorem State.placeReply_entriesMove (p : Port) (f : ReplyFrame) (s : State) : EntriesMove s.dlv (s.placeReply p f).dlv := by
  rw [State.placeReply]
  split
  · exact EntriesMove.run (t := { s with dlv := s.dlv.setPort p _ }) (.setPort _ _ _) _
  · exact .modPort _ _ _

theorem State.endPosted_entriesMove (r : Request) (x : Served) : EntriesMove x.state.dlv (State.endPosted r x).dlv := by
  rw [State.endPosted]
  split
  · exact .refl _
  · exact EntriesMove.run (t := { x.state with agent := _ }) (.refl _) _

theorem State.serveRequest_entriesMove (r : Request) (s : State) : EntriesMove s.dlv (s.serveRequest r).dlv :=
  .ite ((serve_entriesMove r s).trans (State.endPosted_entriesMove r _))
    ((serve_entriesMove r s).trans (State.placeReply_entriesMove _ _ _))

theorem State.agentLoop_entriesMove (n : Nat) : ∀ s : State, EntriesMove s.dlv (s.agentLoop n).dlv := by
  induction n with
  | zero => exact fun s => .refl s.dlv
  | succ n ih =>
    intro s
    rw [State.agentLoop]
    split
    · exact .refl _
    · rename_i r rest _
      exact .ite ((State.serveRequest_entriesMove r (s.setRequests rest)).trans (ih _)) (.refl _)

theorem State.agentRun_entriesMove (s : State) : EntriesMove s.dlv s.agentRun.dlv := State.agentLoop_entriesMove _ s

theorem State.requestArrives_entriesMove (r : Request) (s : State) : EntriesMove s.dlv (s.requestArrives r).dlv := by
  rw [State.requestArrives]
  refine .ite (.ite (.trans ?_ (State.agentRun_entriesMove _)) (.refl _)) (.refl _)
  exact .refl _

/-! ## The receive side (R2, R7, R22 to R25) -/

theorem State.offerPass_entriesMove (o : Port) (f : List Byte) (s : State) : EntriesMove s.dlv (s.offerPass o f).dlv := by
  rw [State.offerPass]
  split
  · exact .modPort _ _ _
  · split
    · exact EntriesMove.run (t := { s with dlv := s.dlv.setPort o _ }) (.setPort _ _ _) _
    · exact EntriesMove.run (t := { s with dlv := s.dlv.count o _ }) (.modPort _ _ _) _

theorem State.toTracker_entriesMove (w : StreamWindow) (tag : BitVec 32) (payload : List Byte) (s : State) :
    EntriesMove s.dlv (s.toTracker w tag payload).dlv := by
  rw [State.toTracker]
  split
  · exact .refl _
  · exact State.applySlot_entriesMove _ _ s

theorem State.classifySample_entriesMove (o : Port) (f : List Byte) (s : State) :
    EntriesMove s.dlv (s.classifySample o f).dlv := by
  rw [State.classifySample]
  split
  · exact State.offerPass_entriesMove o f (s.modClassifier _)
  · split
    · exact State.offerPass_entriesMove o f s
    · rename_i i _
      have hpass := State.offerPass_entriesMove o f (s.modClassifier (Classifier.countHit i))
      rw [State.windowHit]
      split
      · exact State.toTracker_entriesMove _ _ _ (s.modClassifier (Classifier.countHit i))
      · exact hpass.trans (State.toTracker_entriesMove _ _ _ _)
      · exact hpass

theorem State.classify_entriesMove (p : Port) (f : List Byte) (s : State) : EntriesMove s.dlv (s.classify p f).dlv := by
  rw [State.classify]
  split
  · exact State.classifySample_entriesMove _ f s
  · split
    · rw [State.classifyRequest]
      split
      · exact State.requestArrives_entriesMove _ s
      · split
        · exact (State.offerPass_entriesMove _ f s).trans (State.requestArrives_entriesMove _ _)
        · exact State.offerPass_entriesMove _ f s
    · exact State.offerPass_entriesMove _ f s

theorem State.receive_entriesMove (p : Port) (f : List Byte) (s : State) : EntriesMove s.dlv (s.receive p f).dlv := by
  have hcounted : EntriesMove s.dlv (s.dlv.received p (PortCounters.verdict (verdict s.device.node f))) := .modPort _ _ _
  rw [State.receive]
  split
  · exact hcounted
  · exact hcounted.run (t := { s with dlv := s.dlv.received p _ }) _
  · exact hcounted
  · exact hcounted.trans (State.classify_entriesMove p f { s with dlv := s.dlv.received p _ })

/-! ## Every command -/

theorem Delivery.restoreAlerts_entriesMove (l : List AlertFrame) : ∀ d : Delivery, EntriesMove d (d.restoreAlerts l) := by
  induction l with
  | nil => exact .refl
  | cons f l ih => exact fun d => .trans (.setAlert (.returned f rfl)) (ih _)

theorem State.linkDown_entriesMove (p : Port) (receiving : Bool) (s : State) :
    EntriesMove s.dlv (s.linkDown p receiving).dlv := by
  have hdown : EntriesMove s.dlv (s.dlv.linkDown s.device.priority p receiving) :=
    (EntriesMove.modPort s.dlv p _).trans (Delivery.restoreAlerts_entriesMove _ _)
  exact (hdown.run (t := { s with dlv := _ }) _).trans (State.agentRun_entriesMove _)

theorem State.powerOn_entriesMove (straps : BitVec 12) (pending : List Instr) (d : Delivery) :
    EntriesMove d (State.powerOn straps pending).dlv := by
  refine .of_each fun n => ?_
  have hinit : (State.powerOn straps pending).dlv.alert n = .init n.val := by
    simp [State.powerOn, Delivery.init, Delivery.alert]
  rw [hinit]
  exact .reset

/-- What a row leaves is what it brings about unless the reset input is asserted. -/
theorem State.event_entriesMove {s t : State} {f : State → State} (h : s.event f = .next t)
    (hf : EntriesMove s.dlv (f s).dlv) : EntriesMove s.dlv t.dlv := by
  rw [State.event, Host.Outcome.next.injEq] at h
  rw [← h]
  exact .ite (.refl _) hf

/-- Every command carries each alert entry through a run of its moves; the rows not named below are requests that reach the
agent. -/
theorem exec_entriesMove {c : Instr} {s t : State} (h : exec c s = .next t) : EntriesMove s.dlv t.dlv := by
  cases c with
  | powerOnReset straps =>
    rw [exec, execPowerOnReset, Host.Outcome.next.injEq] at h
    rw [← h]; exact State.powerOn_entriesMove straps s.pending s.dlv
  | resetAsserted =>
    rw [exec, execResetAsserted, Host.Outcome.next.injEq] at h
    rw [← h]; exact State.powerOn_entriesMove s.straps s.pending s.dlv
  | linkUp p =>
    rw [exec, execLinkUp] at h
    refine State.event_entriesMove h (.ite (.refl _) ?_)
    exact EntriesMove.run (t := { s with dlv := s.dlv.modPort p _ }) (.modPort _ _ _) _
  | linkDown p receiving =>
    rw [exec, execLinkDown] at h
    exact State.event_entriesMove h (.ite (State.linkDown_entriesMove p receiving s) (.refl _))
  | frameReceived p bytes =>
    rw [exec, execFrameReceived] at h
    exact State.event_entriesMove h
      (.ite ((State.receive_entriesMove p bytes s).trans (State.agentRun_entriesMove _)) (.refl _))
  | lossTimeout k =>
    rw [exec, execLossTimeout] at h
    exact State.event_entriesMove h (.ite (State.applySlot_entriesMove k _ s) (.refl _))
  | finishBegin =>
    rw [exec, execFinishBegin] at h
    refine State.event_entriesMove h ?_
    rw [State.beginFinish_dlv]; exact .refl _
  | finishComplete =>
    rw [exec, execFinishComplete] at h
    refine State.event_entriesMove h ?_
    split
    · exact .refl _
    · exact State.completeFinish_entriesMove _ _ _ s
  | abandonedFinish =>
    rw [exec, execAbandonedFinish] at h
    refine State.event_entriesMove h ?_
    split
    · exact .refl _
    · rw [State.endAbandoned_dlv]; exact .refl _
  | transmissionEnd p =>
    rw [exec, execTransmissionEnd] at h
    refine State.event_entriesMove h (.ite (.trans ?_ (State.agentRun_entriesMove _)) (.refl _))
    exact EntriesMove.run (t := { s with dlv := s.dlv.modPort p _ }) (.modPort _ _ _) _
  | alertOffer p =>
    rw [exec, execAlertOffer] at h
    exact State.event_entriesMove h (s.run_entriesMove _)
  | sendAttempt c =>
    rw [exec, execSendAttempt] at h
    exact State.event_entriesMove h (.ite (s.run_entriesMove _) (s.run_entriesMove _))
  | loadExpired =>
    rw [exec, execLoadExpired] at h
    refine State.event_entriesMove h ?_
    split
    · exact .refl _
    · exact EntriesMove.run (t := { s with agent := _ }) (.refl _) _
  | ticketExpired k =>
    rw [exec, execTicketExpired] at h
    refine State.event_entriesMove h (.ite ?_ (.refl _))
    exact EntriesMove.run (t := { s with agent := _ }) (.refl _) _
  | _ => exact State.event_entriesMove h (State.requestArrives_entriesMove _ s)

/-- Every step does: a command taken from the queue, or a tick. -/
theorem step_entriesMove {s t : State} (h : step s = .next t) : EntriesMove s.dlv t.dlv := by
  rw [step] at h
  split at h
  · refine .trans ?_ (exec_entriesMove h)
    exact .refl _
  · rw [Host.Outcome.next.injEq] at h
    rw [← h, State.tick]
    exact .ite (.refl _) (.refl _)

/-- What every move of entry n keeps, every step keeps of it. -/
theorem step_keeps_entry {P : AlertEntry → Prop} {n : Fin 20} (hmove : ∀ e x, AlertEntry.Move n e x → P e → P x)
    {s t : State} (h : step s = .next t) (hs : P (s.dlv.alert n)) : P (t.dlv.alert n) := by
  have hmoves := step_entriesMove h n
  generalize t.dlv.alert n = x at hmoves ⊢
  induction hmoves with
  | refl => exact hs
  | tail _ hlast ih => exact hmove _ _ hlast ih

/-! ## The law of R153 and R159 -/

/-- The entry is not SEND-PENDING and awaiting acknowledgement at once, and awaits one only as a LEVEL entry. -/
def AlertEntry.Apart (n : Fin 20) (e : AlertEntry) : Prop :=
  (e.queuedOn.isSome = true → e.awaiting = false) ∧ (isLevel n = false → e.awaiting = false)

/-- An entry that does not await an acknowledgement keeps the law. -/
theorem AlertEntry.apart_of_not_awaiting {n : Fin 20} {e : AlertEntry} (h : e.awaiting = false) : e.Apart n :=
  ⟨fun _ => h, fun _ => h⟩

/-- So does an entry that is IDLE, once it awaits no more than an entry that keeps it. -/
theorem AlertEntry.Apart.of_idle {n : Fin 20} {e x : AlertEntry} (h : e.Apart n) (hq : x.queuedOn = none)
    (ha : x.awaiting = e.awaiting) : x.Apart n :=
  ⟨fun hs => absurd (hq ▸ hs) nofun, fun hn => ha.trans (h.2 hn)⟩

/-- A frame is built only of an entry that awaits no acknowledgement, and the hand-over that begins the wait ends
SEND-PENDING (R156, R159). -/
theorem AlertEntry.Move.apart {n : Fin 20} {e x : AlertEntry} (h : AlertEntry.Move n e x) (he : e.Apart n) : x.Apart n := by
  cases h with
  | recorded detail => exact he
  | reported r =>
    rw [AlertEntry.level]
    split <;> exact he
  | built floor p ready =>
    obtain ⟨-, -, hlevel, -⟩ := (AlertEntry.ready_iff floor n e).mp ready
    refine apart_of_not_awaiting (?_ : e.awaiting = false)
    cases hn : isLevel n with
    | true => exact (hlevel hn).2
    | false => exact he.2 hn
  | handedOver =>
    rw [AlertEntry.afterHandOver]
    split
    · rename_i hn
      exact ⟨nofun, fun hedge => by rw [hn] at hedge; cases hedge⟩
    · exact he.of_idle rfl rfl
  | returned f own =>
    rw [AlertEntry.restore]
    split
    · exact apart_of_not_awaiting rfl
    · exact he.of_idle rfl rfl
  | configured c => exact he
  | acknowledged level => exact apart_of_not_awaiting rfl
  | cleared edge => exact he.of_idle rfl rfl
  | restarted => exact apart_of_not_awaiting rfl
  | reset => exact apart_of_not_awaiting rfl

/-- Settles O57: every step is a run of moves of each entry, and each move keeps the law. -/
theorem everyStepKeepsAlertsApart : Obligations.EveryStepKeepsAlertsApart :=
  fun _ _ hs h n => step_keeps_entry (P := AlertEntry.Apart n) (fun _ _ hm he => hm.apart he) h (hs n)

end Sys2Proof.Machine
end

section
/-! SUPPORT. ALERT_ACK, and the alert frame that a link down returns: what an entry records while its frame waits, and what the
return makes of it (R154 to R158, R160, R163, R182). -/

namespace Sys2Proof.Machine

/-! ## ALERT_ACK (R160, R182) -/

/-- Settles O40: the request is served with what `serveAck` leaves, whose two branches are the two clauses. -/
theorem alertAckClearsAwaiting : Obligations.AlertAckClearsAwaiting := by
  intro s h v h0 hm
  have hserve : ∀ x, serveAck v.toNat (joined s) = x → exec (.alertAck h v) s =
      .next (answered h .alertAck x.status x.count x.data x.state) := fun x hx => by
    rw [exec, execAlertAck]
    exact request_served s h .alertAck 0 v 0 [] h0 hm (by decide) x hx
  refine ⟨fun hv => ?_, fun hlo hhi => ⟨s.dlv.acknowledge v.toNat, fun n => ?_, rfl, ?_⟩⟩
  · have hbad : validVector v.toNat = false := by rw [← Bool.not_eq_true, validVector_iff]; omega
    exact hserve _ (by rw [serveAck, hbad])
  · rw [Delivery.acknowledge_alert, acked_eq]
  · have hok : validVector v.toNat = true := (validVector_iff _).mpr ⟨hlo, hhi⟩
    rw [Answers, hserve _ rfl, serveAck, hok]
    simp only [← acked_eq]
    rfl

/-! ## What an entry records while its frame waits (R154, R155) -/

/-- A count that stops at 255 stops there however the rises are parted. -/
theorem min_add_min_add (c k m : Nat) : min (min (c + k) 255 + m) 255 = min (c + (k + m)) 255 := by omega

/-- A counter takes two increments as their sum. -/
theorem counter_add_add (x : Counter) (k m : Nat) :
    x + BitVec.ofNat 32 k + BitVec.ofNat 32 m = x + BitVec.ofNat 32 (k + m) := by rw [BitVec.ofNat_add, BitVec.add_assoc]

theorem risesAmong_cons (before : Bool) (r : LevelReport) (rest : List LevelReport) :
    risesAmong before (r :: rest) = risesAmong before [r] + risesAmong r.active rest := rfl

/-- One report, with its rise counted as those of a run are. -/
theorem AlertEntry.level_eq_risesAmong (r : LevelReport) {e : AlertEntry} (he : e.count ≤ 255) :
    e.level r = { e with
      active := r.active, detail := r.detail, count := min (e.count + risesAmong e.active [r]) 255
      occurrences := e.occurrences + BitVec.ofNat 32 (risesAmong e.active [r]) } := by
  rw [AlertEntry.level_eq]
  by_cases hrise : r.active = true ∧ e.active = false
  · simp only [risesAmong, if_pos hrise]
    rfl
  · simp only [risesAmong, if_neg hrise, Nat.add_zero, min_eq_left he, BitVec.ofNat_eq_ofNat, BitVec.add_zero]

/-- A run of reports leaves the last of them, and counts the rises among them. -/
theorem AlertEntry.foldl_level (reports : List LevelReport) : ∀ e : AlertEntry, e.count ≤ 255 →
    reports.foldl (fun x r => x.level r) e = { e with
      active := (reports.getLast?.map fun r => r.active).getD e.active
      detail := (reports.getLast?.map fun r => r.detail).getD e.detail
      count := min (e.count + risesAmong e.active reports) 255
      occurrences := e.occurrences + BitVec.ofNat 32 (risesAmong e.active reports) } := by
  induction reports with
  | nil => exact fun e he => by simp [risesAmong, he]
  | cons r rest ih =>
    intro e he
    rw [List.foldl_cons, AlertEntry.level_eq_risesAmong r he, ih _ (min_le_right _ _), risesAmong_cons e.active r rest,
      ← min_add_min_add, ← counter_add_add, List.getLast?_cons]
    simp only [Option.map_some, Option.getD_some, Option.getD_map]

/-- Occurrences of a pending entry leave its first detail, and each is counted. -/
theorem AlertEntry.foldl_occur (details : List (BitVec 32)) : ∀ e : AlertEntry, e.pending.isSome = true → e.count ≤ 255 →
    details.foldl (fun x d => x.occur d) e = { e with
      count := min (e.count + details.length) 255
      occurrences := e.occurrences + BitVec.ofNat 32 details.length } := by
  induction details with
  | nil => exact fun e _ he => by simp [he]
  | cons d rest ih =>
    intro e hp he
    obtain ⟨first, hfirst⟩ := Option.isSome_iff_exists.mp hp
    have hoccur : e.occur d = { e with count := min (e.count + 1) 255, occurrences := e.occurrences + BitVec.ofNat 32 1 } := by
      rw [AlertEntry.occur_eq, hfirst]
      rfl
    rw [List.foldl_cons, hoccur, List.length_cons, Nat.add_comm rest.length, ← min_add_min_add, ← counter_add_add]
    exact ih { e with count := _, occurrences := _ } hp (min_le_right _ _)

/-! ## The return of a frame (R157, R158, R163) -/

/-- A returned LEVEL frame adds what it carries to what has been counted since. -/
theorem AlertEntry.restore_level {n : Fin 20} (hn : isLevel n = true) (env : Env) (e x : AlertEntry) :
    x.restore (buildAlert env n e) = { x with
      queuedOn := none, awaiting := false, count := min (e.count + x.count) 255, restored := x.restored + 1 } := by
  rw [AlertEntry.restore]
  exact if_pos hn

/-- A returned EDGE frame makes its entry pending again, with the detail and the count it carries. -/
theorem AlertEntry.restore_edge {f : AlertFrame} (hn : isLevel f.number = false) (x : AlertEntry) :
    x.restore f = { x with queuedOn := none, pending := some f.detail, count := f.count, restored := x.restored + 1 } := by
  rw [AlertEntry.restore, hn]
  rfl

/-- A LEVEL entry has back what it was, with the reports since its frame was built. -/
theorem restore_level_of_reports {env : Env} {n : Fin 20} {p : Port} {e : AlertEntry} (hn : isLevel n = true)
    (hq : e.queuedOn = none) (reports : List LevelReport) :
    (reports.foldl (fun x r => x.level r) (e.afterBuild n p)).restore (buildAlert env n e) = { e with
      restored := e.restored + 1, awaiting := false, count := min (e.count + risesAmong e.active reports) 255
      occurrences := e.occurrences + BitVec.ofNat 32 (risesAmong e.active reports)
      active := (reports.getLast?.map fun r => r.active).getD e.active
      detail := (reports.getLast?.map fun r => r.detail).getD e.detail } := by
  have hbuilt : e.afterBuild n p = { e with queuedOn := some p, count := 0 } := by rw [AlertEntry.afterBuild, if_pos hn]
  have hsum (k : Nat) : min (e.count + min (0 + k) 255) 255 = min (e.count + k) 255 := by omega
  rw [hbuilt, AlertEntry.foldl_level _ _ (Nat.zero_le _), AlertEntry.restore_level hn, hsum, hq]

/-- What is merged into an EDGE entry while its frame waits (R158). -/
theorem merged_of_details {n : Fin 20} {p : Port} {e : AlertEntry} (hn : isLevel n = false) (hp : e.pending.isSome = true)
    (hc : e.count ≤ 255) (details : List (BitVec 32)) :
    details.foldl (fun x d => x.occur d) (e.afterBuild n p) = { e with
      queuedOn := some p, count := min (e.count + details.length) 255
      occurrences := e.occurrences + BitVec.ofNat 32 details.length } := by
  have hbuilt : e.afterBuild n p = { e with queuedOn := some p } := by rw [AlertEntry.afterBuild, hn]; rfl
  rw [hbuilt]
  exact AlertEntry.foldl_occur details { e with queuedOn := some p } hp hc

/-- An EDGE entry has back what it was, with the occurrences merged into its frame. -/
theorem restore_edge_of_details {env : Env} {n : Fin 20} {p : Port} {e : AlertEntry} (hn : isLevel n = false)
    (hq : e.queuedOn = none) (hp : e.pending.isSome = true) (hc : e.count ≤ 255) (details : List (BitVec 32)) :
    (details.foldl (fun x d => x.occur d) (e.afterBuild n p)).restore
      { buildAlert env n e with count := min (e.count + details.length) 255 } = { e with
        restored := e.restored + 1, count := min (e.count + details.length) 255
        occurrences := e.occurrences + BitVec.ofNat 32 details.length } := by
  obtain ⟨first, hfirst⟩ := Option.isSome_iff_exists.mp hp
  have hdetail : (buildAlert env n e).detail = first := by simp [buildAlert, hn, hfirst]
  rw [merged_of_details hn hp hc, AlertEntry.restore_edge hn, hdetail, hq, hfirst]

/-- Settles O31: an entry is returned as a LEVEL or as an EDGE entry, with what it has recorded since its frame was built. -/
theorem restoreUndoesTheBuild : Obligations.RestoreUndoesTheBuild := by
  refine ⟨fun env n p e hready hc => ?_, fun n detail d => ⟨?_, fun p hq => ?_⟩, fun r d => ?_⟩
  · obtain ⟨-, hq, -, hpending⟩ := (AlertEntry.ready_iff env.floor n e).mp hready
    have hcount : min e.count 255 = e.count := min_eq_left hc
    refine ⟨?_, fun hn => restore_level_of_reports hn hq, fun hn details => ?_⟩
    · cases hn : isLevel n with
      | true =>
        have h := restore_level_of_reports (env := env) (p := p) hn hq []
        simpa [risesAmong, hcount] using h
      | false =>
        have h := restore_edge_of_details (env := env) (p := p) hn hq (hpending hn) hc []
        simpa [hcount, buildAlert] using h
    · have hmerged := congrArg AlertEntry.count (merged_of_details (p := p) hn (hpending hn) hc details)
      refine ⟨hmerged, ?_⟩
      rw [hmerged]
      exact restore_edge_of_details hn hq (hpending hn) hc details
  · rw [recordEdge]
    split
    · rw [Delivery.modPort_alert, Delivery.setAlert_alert_same]
    · exact Delivery.setAlert_alert_same d n _
  · rw [recordEdge]
    have hqueued : ((d.alert n).occur detail).queuedOn = some p := hq
    simp only [hqueued, Delivery.modPort_port_same, Delivery.setAlert_port]
    rfl
  · simp [recordLevels]

end Sys2Proof.Machine
end

section
/-! SUPPORT. Who may manage the part, the metrology lock, and the close of a table load (R171, R172, R175, R177, R180, R181, R192). -/

namespace Sys2Proof.Machine

/-! ## Permitted managers (R172) -/

theorem spaceOf_eq_device_iff (code : Nat) : spaceOf code = some .device ↔ code = 1 := by
  constructor
  · intro h
    unfold spaceOf at h
    split at h <;> simp_all
  · rintro rfl
    rfl

theorem permitted_iff (d : Device) (source : Node) (k : ReqKind) (code : Nat) : permitted d source k code = true ↔
    (d.managers = [] ∨ source ∈ d.managers) ∨ (k = .read ∧ spaceOf code = some .device) := by
  simp only [permitted, Bool.or_eq_true, List.isEmpty_iff, List.contains_iff_mem, decide_eq_true_eq, Bool.and_eq_true]

/-- The header and kind of a row are among its fields. -/
theorem requestRow_eq (c : Instr) : requestRow c = (rowFields c).map fun x => (x.1, x.2.1) := by
  cases c <;> rfl

/-- The row of a READ is the only one that brings a READ. -/
theorem eq_read_of_rowFields {c : Instr} {h : ReqHeader} {space : Byte} {index count : BitVec 16} {data : List Byte}
    (hrow : rowFields c = some (h, .read, space, index, count, data)) : c = .read h space index count := by
  cases c <;> simp_all [rowFields]

section Denied

variable {s : State} {h : ReqHeader} {k : ReqKind} {space : Byte} {index count : BitVec 16} {data : List Byte}

theorem serve_denied (hm : ¬ Manages s h) (hread : ¬ (k = .read ∧ spaceOf space.toNat = some .device)) :
    serve (madeRequest s h k space index count data) (joined s) = refuse .denied (joined s) := by
  have hnot : ¬ permitted (joined s).device h.source k space.toNat = true := fun hp =>
    ((permitted_iff _ _ _ _).mp hp).elim hm hread
  rw [serve_madeRequest, if_neg hnot]

/-- A WRITE-POSTED refused as a request ends with its count and its alert (R177). -/
theorem request_posted_refuse (h0 : TakenAtOnce s h) {st : Status} (hst : st ≠ .ok)
    (hx : serve (madeRequest s h .writePosted space index count data) (joined s) = refuse st (joined s)) :
    s.request h .writePosted space index count data =
      .next (State.raise { joined s with agent := { (joined s).agent with postedRefused := s.agent.postedRefused + 1 } } 16
        (h.tag.toNat * 65536 + statusCode st)) := by
  have htag : reqTag (madeRequest s h .writePosted space index count data).payload = h.tag := reqTag_requestPayload ..
  rw [request_posted s h space index count data h0 _ hx, State.endPosted, htag]
  exact congrArg _ (if_neg hst)

end Denied

/-- Settles O34: the permission is checked before the kind's own checks, and a READ of DEVICE alone passes it without it. -/
theorem unknownManagersAreDenied : Obligations.UnknownManagersAreDenied := by
  intro s c h k hrow h0 hm hread
  rw [requestRow_eq, Option.map_eq_some_iff] at hrow
  obtain ⟨⟨h', k', space, index, count, data⟩, hfields, hrow⟩ := hrow
  obtain ⟨rfl, rfl⟩ := Prod.mk.inj hrow
  have hnot : ¬ (k' = .read ∧ spaceOf space.toNat = some .device) := by
    rintro ⟨rfl, hdevice⟩
    have hspace : space = 0x01 := BitVec.eq_of_toNat_eq ((spaceOf_eq_device_iff _).mp hdevice)
    exact hread index count (hspace ▸ eq_read_of_rowFields hfields)
  have hdenied := serve_denied (index := index) (count := count) (data := data) hm hnot
  have hexec := exec_requestRow c s h' k' space index count data hfields
  refine ⟨fun hk => ?_, fun hk => ?_⟩
  · exact hexec.trans (request_answered s h' k' space index count data h0 hk _ hdenied)
  · subst hk
    have hposted := request_posted_refuse h0 (by decide) hdenied
    rw [show statusCode .denied = 0x03 from rfl] at hposted
    exact hexec.trans hposted

/-! ## The metrology lock (R180) -/

theorem serveLock_empty {s : State} (h : s.device.managers = []) : serveLock s = refuse .badState s := by
  rw [serveLock, if_pos (by rw [h]; rfl)]

theorem serveLock_set {s : State} (h : s.device.managers ≠ []) :
    serveLock s = answerOk 0 { s with device := { s.device with metrologyLock := true } } := by
  rw [serveLock, if_neg (by rwa [List.isEmpty_iff])]

/-- Settles O45: the two outcomes of the service. -/
theorem lockNeedsAManager : Obligations.LockNeedsAManager := by
  intro s h h0
  refine ⟨fun hempty => ?_, fun hmem => ?_⟩
  · exact request_served s h .lockMetrology 0 0 0 [] h0 (Or.inl hempty) (by decide) _ (serveLock_empty (s := joined s) hempty)
  · exact request_served s h .lockMetrology 0 0 0 [] h0 (Or.inr hmem) (by decide) _
      (serveLock_set (s := joined s) (List.ne_nil_of_mem hmem))

/-! ## Check 6 of a close (R192) -/

section Staged

variable (s : State) (l : Load)

theorem checkStaged_eq : checkStaged s l = (checkLock s l.space l.first l.count l.staged).or
    ((checkValues s l.space l.first l.count l.staged).or (checkInUse s l.space l.first l.count)) := by
  rw [checkStaged]
  cases checkLock s l.space l.first l.count l.staged <;> cases checkValues s l.space l.first l.count l.staged <;> rfl

theorem checkStaged_none_iff : checkStaged s l = none ↔
    checkLock s l.space l.first l.count l.staged = none ∧ checkValues s l.space l.first l.count l.staged = none ∧
      checkInUse s l.space l.first l.count = none := by
  simp only [checkStaged_eq, Option.or_eq_none_iff]

end Staged

/-! ## The close (R192) -/

/-- A CRC and the 4 bytes of a close agree as words when they agree as numbers; bytes behind them are not read. -/
theorem eq_trailer_iff (x : BitVec 32) (data : List Byte) :
    x = BitVec.ofNat 32 (field 0 4 data) ↔ x.toNat = beToNat (data.take 4) := by
  have hlen : (data.take 4).length ≤ 4 := List.length_take_le 4 data
  have hlt := (beToNat_lt (data.take 4)).trans_le (Nat.pow_le_pow_right (by decide) hlen)
  rw [← BitVec.toNat_inj, BitVec.toNat_ofNat, field, List.drop_zero, Nat.mod_eq_of_lt hlt]

section Close

variable {s : State} {l : Load} (source : Node) (data : List Byte)

/-- The close of an open load: its checks in order. -/
theorem serveLoadClose_open (hl : s.agent.load = some l) : serveLoadClose source data s =
    if source ≠ l.opener then refuse .busy s
    else if data.length < 4 then refuse .short (s.setLoad (some { l with lastActivity := timebase s }))
    else if l.staged.length ≠ l.total then
      { state := s.setLoad none, status := .loadSize, count := l.staged.length, data := [] }
    else if (crc32 l.staged).toNat ≠ beToNat (data.take 4) then refuse .loadCrc (s.setLoad none)
    else ((checkStaged s l).map fun e => refuseAt e.status e.index (s.setLoad none)).getD
      (answerOk l.count (State.applyWrite l.space l.first l.count l.staged
        { s.setLoad none with agent := { (s.setLoad none).agent with loadsApplied := s.agent.loadsApplied + 1 } })) := by
  rw [serveLoadClose, hl]
  simp only [ne_eq, eq_trailer_iff]
  cases checkStaged s l <;> rfl

end Close

/-- Settles O48: the close by its chain of checks, and check 6 by its three parts in order. -/
theorem loadCloseAppliesOrDiscards : Obligations.LoadCloseAppliesOrDiscards := by
  refine ⟨fun s h data h0 hm => ?_, fun s l => ⟨fun j hj hlocked hmin => ?_, fun hu hshort => ?_,
    fun hu hwhole j hj hbad hmin => ?_, fun hu hwhole hvalid j hj hnamed hmin => ?_, ?_⟩⟩
  · have hserve : ∀ x, serveLoadClose h.source data (joined s) = x → exec (.loadClose h data) s =
        .next (answered h .loadClose x.status x.count x.data x.state) :=
      request_served s h .loadClose 0 0 0 data h0 hm (by decide)
    refine ⟨fun hnone => ?_, fun l hl => ?_⟩
    · exact hserve (refuse .noLoad (joined s)) (by rw [serveLoadClose, show (joined s).agent.load = none from hnone])
    · have hclose := serveLoadClose_open (s := joined s) h.source data hl
      split_ifs at hclose ⊢
      · exact hserve _ hclose
      · exact hserve _ hclose
      · exact hserve _ hclose
      · exact hserve _ hclose
      · have hsame : checkStaged (joined s) l = checkStaged s l := rfl
        rw [hsame] at hclose
        refine ⟨fun e he => ?_, fun hpass => ?_⟩
        · rw [he] at hclose
          exact hserve _ hclose
        · rw [hpass] at hclose
          exact hserve _ hclose
  · rw [checkStaged_eq, checkLock_some s _ _ _ _ hj hlocked hmin, Option.some_or]
  · rw [checkStaged_eq, (checkLock_none_iff ..).mpr hu, checkValues_short s _ _ _ _ hshort]
    rfl
  · rw [checkStaged_eq, (checkLock_none_iff ..).mpr hu, checkValues_bad s _ _ _ _ hwhole hj hbad hmin]
    rfl
  · have hvalues : checkValues s l.space l.first l.count l.staged = none :=
      (checkValues_none_iff ..).mpr ⟨hwhole, fun i hi => Option.isSome_iff_ne_none.mpr (hvalid i hi)⟩
    rw [checkStaged_eq, (checkLock_none_iff ..).mpr hu, hvalues, checkInUse_some s _ _ _ hj hnamed hmin]
    rfl
  · rw [checkStaged_none_iff, checkLock_none_iff, checkValues_none_iff, checkInUse_none_iff]
    simp only [Option.isSome_iff_ne_none, ne_eq, and_assoc]

end Sys2Proof.Machine
end

section
/-! SUPPORT. Fields laid side by side: what a run of bytes holds when it is a row of fields, values that follow one another, and runs
placed in a longer run (11.2 to 11.5, R205). -/

namespace Sys2Proof.Machine

/-! ## Bytes and values (R205) -/

theorem toNat_flagByte (b : Bool) : (flagByte b).toNat = flagBit b := by cases b <;> rfl

theorem cons_eq_beNat (b : Byte) (l : List Byte) : b :: l = beNat 1 b.toNat ++ l := by rw [← singleton_eq_beNat]; rfl

theorem flagByte_cons (b : Bool) (l : List Byte) : flagByte b :: l = beNat 1 (flagBit b) ++ l := by
  rw [cons_eq_beNat, toNat_flagByte]

theorem bitAt_eq_flagBit (b : Bool) (n : Nat) : bitAt b n = flagBit b n := rfl

theorem beInt_eq (w : Nat) (x : Int) : beInt w x = beNat w (twosComplement w x) := by
  rw [beInt, twosComplement, Nat.cast_pow]
  rfl

theorem pad_eq_beNat (w : Nat) : pad w = beNat w 0 := by
  induction w with
  | zero => rfl
  | succ w ih => rw [beNat, ← ih, Nat.zero_div]; rfl

/-! ## What rows hold -/

theorem holds_append_iff (bytes : List Byte) (a b : List (Nat × Nat × Nat)) :
    Holds bytes (a ++ b) ↔ Holds bytes a ∧ Holds bytes b := List.forall_mem_append

/-- The fields of a row but one of them. -/
theorem Holds.eraseIdx {bytes : List Byte} {l : List (Nat × Nat × Nat)} (h : Holds bytes l) (i : Nat) :
    Holds bytes (l.eraseIdx i) := fun x hx => h x (List.mem_of_mem_eraseIdx hx)

/-- The order in which fields are named says nothing. -/
theorem Holds.middle_last {bytes : List Byte} {a b c : List (Nat × Nat × Nat)} (h : Holds bytes (a ++ (b ++ c))) :
    Holds bytes (a ++ c ++ b) := by
  simp only [holds_append_iff] at h ⊢
  obtain ⟨ha, hb, hc⟩ := h
  exact ⟨⟨ha, hc⟩, hb⟩

/-- A row whose widths come to a size is laid out in that size. -/
theorem laid_row {row : List (Nat × Nat)} {size : Nat} (h : (row.map Prod.fst).sum = size) :
    Laid (fieldRow row) size (rowPlaces 0 row) := h ▸ laid_fieldRow row

theorem fieldRow_append (a b : List (Nat × Nat)) : fieldRow (a ++ b) = fieldRow a ++ fieldRow b := List.flatMap_append

theorem rowPlaces_append (off : Nat) (a b : List (Nat × Nat)) :
    rowPlaces off (a ++ b) = rowPlaces off a ++ rowPlaces (off + (a.map Prod.fst).sum) b := by
  induction a generalizing off with
  | nil => rfl
  | cons x a ih => rw [List.cons_append, rowPlaces, rowPlaces, ih, List.map_cons, List.sum_cons, Nat.add_assoc]; rfl

/-- A row of fields of one width. -/
def evenRow (w : Nat) (values : List Nat) : List (Nat × Nat) := values.map fun v => (w, v)

theorem fieldRow_evenRow (w : Nat) (values : List Nat) : fieldRow (evenRow w values) = values.flatMap (beNat w) := by
  rw [fieldRow, evenRow, List.flatMap_map]

theorem sum_evenRow (w : Nat) (values : List Nat) : ((evenRow w values).map Prod.fst).sum = w * values.length := by
  simp [evenRow, Function.comp_def, Nat.mul_comm]

theorem rowPlaces_evenRow (off w : Nat) (values : List Nat) : rowPlaces off (evenRow w values) = fieldsFrom off w values := by
  have shifted (n : Nat) : rowPlaces (off + w * n) (evenRow w values) =
      (values.zipIdx n).map fun x => (off + w * x.2, w, x.1) := by
    induction values generalizing n with
    | nil => rfl
    | cons v values ih =>
      rw [List.zipIdx_cons, List.map_cons, ← ih (n + 1), Nat.mul_succ, ← Nat.add_assoc]
      rfl
  exact shifted 0

theorem laid_evenRow (w : Nat) (values : List Nat) :
    Laid (values.flatMap (beNat w)) (w * values.length) (fieldsFrom 0 w values) := by
  rw [← fieldRow_evenRow, ← sum_evenRow, ← rowPlaces_evenRow]
  exact laid_fieldRow _

/-- Entries that are used, and then zeros up to a number of places. -/
theorem map_range_getD (l : List Nat) {n : Nat} (h : l.length ≤ n) :
    ((List.range n).map fun k => (l[k]?).getD 0) = l ++ List.replicate (n - l.length) 0 := by
  refine List.ext_getElem (by simp; omega) fun k hk hk' => ?_
  rw [List.getElem_map, List.getElem_range, List.getElem_append]
  split
  · rename_i hkl
    rw [List.getElem?_eq_getElem hkl, Option.getD_some]
  · rename_i hkl
    rw [List.getElem?_eq_none (by omega), Option.getD_none, List.getElem_replicate]

/-- Places that are not used are sent as 0. -/
theorem flatMap_beNat_padded (w : Nat) (l : List Nat) {n : Nat} (h : l.length ≤ n) :
    l.flatMap (beNat w) ++ pad (w * (n - l.length)) =
      fieldRow (evenRow w ((List.range n).map fun k => (l[k]?).getD 0)) := by
  have zeros (k : Nat) : pad (w * k) = (List.replicate k 0).flatMap (beNat w) := by
    induction k with
    | zero => rfl
    | succ k ih =>
      rw [List.replicate_succ, List.flatMap_cons, ← ih, ← pad_eq_beNat, pad, pad, pad, List.replicate_append_replicate,
        Nat.mul_succ, Nat.add_comm]
  rw [map_range_getD l h, fieldRow_evenRow, List.flatMap_append, zeros]

/-! ## Runs within a run -/

/-- The run stands in the list, from a place on. -/
def PlacedAt {α : Type} (l : List α) (first : Nat) (run : List α) : Prop := run <+: l.drop first

theorem PlacedAt.getElem? {α : Type} {l run : List α} {first j : Nat} {v : α} (h : PlacedAt l first run) (hj : run[j]? = some v) :
    l[first + j]? = some v := by
  obtain ⟨rest, hrest⟩ := h
  obtain ⟨hlt, -⟩ := List.getElem?_eq_some_iff.mp hj
  rw [← List.getElem?_drop, ← hrest, List.getElem?_append_left hlt, hj]

theorem PlacedAt.trans {α : Type} {l run part : List α} {first off : Nat} (h : PlacedAt l first run) (h' : PlacedAt run off part) :
    PlacedAt l (first + off) part := by
  rw [PlacedAt, ← List.drop_drop]
  exact List.IsPrefix.trans h' (List.IsPrefix.drop h off)

/-- A block stands behind the blocks before it. -/
theorem placedAt_flatten {α : Type} {blocks : List (List α)} {i : Nat} {block : List α} (h : blocks[i]? = some block) :
    PlacedAt blocks.flatten ((blocks.map List.length).take i).sum block := by
  obtain ⟨hi, rfl⟩ := List.getElem?_eq_some_iff.mp h
  have hsplit : blocks.flatten = (blocks.take i).flatten ++ (blocks[i] ++ (blocks.drop (i + 1)).flatten) := by
    rw [← List.flatten_cons, ← List.drop_eq_getElem_cons, ← List.flatten_append, List.take_append_drop]
  rw [PlacedAt, hsplit, ← List.map_take, ← List.length_flatten, List.drop_left]
  exact ⟨_, rfl⟩

/-- Of runs of one length the i-th stands behind those before it. -/
theorem placedAt_flatMap {α β : Type} {f : α → List β} {w : Nat} (hf : ∀ a, (f a).length = w) {l : List α} {i : Nat} {a : α}
    (h : l[i]? = some a) : PlacedAt (l.flatMap f) (w * i) (f a) := by
  obtain ⟨hi, rfl⟩ := List.getElem?_eq_some_iff.mp h
  rw [PlacedAt, drop_flatMap_of_length hf, List.drop_eq_getElem_cons hi, List.flatMap_cons]
  exact ⟨_, rfl⟩

end Sys2Proof.Machine
end

section
/-! SUPPORT. READ, and what an entry of each space but RESULT and COUNTERS reads as (R171, R172, R174, R205, R207, 11.5). -/

namespace Sys2Proof.Machine

/-! ## READ (R174) -/

section Read

variable {s : State} {code first count : Nat} {sp : Space}

theorem serveRead_badSpace (h : spaceOf code = none) : serveRead code first count s = refuse .badSpace s := by
  rw [serveRead, h]

theorem serveRead_badIndex (h : spaceOf code = some sp) (hi : readPlaces sp ≤ first) :
    serveRead code first count s = refuse .badIndex s := by
  rw [serveRead, h]
  exact if_pos hi

theorem serveRead_entries (h : spaceOf code = some sp) (hi : first < readPlaces sp) : serveRead code first count s =
    { state := s, status := .ok, count := readCount sp first count
      data := (List.range (readCount sp first count)).flatMap fun j => readEntry s sp (first + j) } := by
  rw [serveRead, h]
  exact if_neg (by omega)

end Read

/-- A READ that R172 permits is answered with what its service answers. -/
theorem exec_read {s : State} {h : ReqHeader} {space : Byte} {index count : BitVec 16} (h0 : TakenAtOnce s h)
    (hm : Manages s h ∨ spaceOf space.toNat = some .device) {x : Served}
    (hx : serveRead space.toNat index.toNat count.toNat (joined s) = x) :
    exec (.read h space index count) s = .next (answered h .read x.status x.count x.data x.state) := by
  have hp : permitted (joined s).device h.source .read space.toNat = true :=
    (permitted_iff _ _ _ _).mpr (hm.imp_right fun hdevice => ⟨rfl, hdevice⟩)
  exact request_answered s h .read space index count [] h0 (by decide) x (by rw [serve_madeRequest, if_pos hp, ← hx]; rfl)

/-! ## DEVICE (R178) -/

/-- The fields of DEVICE before its manager list. -/
def deviceHead (d : Device) : List (Nat × Nat) := [(2, d.node.toNat), (1, d.managers.length), (1, d.floor)]

/-- The fields of DEVICE behind its manager list. -/
def deviceTail (d : Device) : List (Nat × Nat) :=
  [(2, d.intervalLen), (2, d.watermark), (1, d.priority.alert), (1, d.priority.reply), (1, d.priority.report), (1, 0),
    (2, 0x2420), (1, 1), (1, flagBit d.metrologyLock)]

/-- The four places of the manager list. -/
def managerPlaces (d : Device) : List Nat := (List.range 4).map fun j => ((d.managers[j]?).map fun m => m.toNat).getD 0

theorem readDevice_eq (d : Device) (h : d.managers.length ≤ 4) :
    readDevice d = fieldRow (deviceHead d ++ (evenRow 2 (managerPlaces d) ++ deviceTail d)) := by
  have hmanagers : d.managers.flatMap (fun m => beNat 2 m.toNat) ++ pad (2 * (4 - d.managers.length)) =
      fieldRow (evenRow 2 (managerPlaces d)) := by
    have hlist := flatMap_beNat_padded 2 (d.managers.map BitVec.toNat) (n := 4) (by simpa using h)
    rw [List.flatMap_map, List.length_map] at hlist
    simpa only [managerPlaces, List.getElem?_map] using hlist
  have hrevision (l : List Byte) : Config.revision :: l = beNat 1 1 ++ l := rfl
  rw [fieldRow_append, fieldRow_append, ← hmanagers]
  simp [readDevice, encodeDeviceCfg, fieldRow, deviceHead, deviceTail, pad_eq_beNat 1, flagByte_cons, hrevision, Config.partCode]

theorem laid_device (s : State) (h : s.device.managers.length ≤ 4) :
    Laid (readEntry s .device 0) 24 (rowPlaces 0 (deviceHead s.device) ++ rowPlaces 12 (deviceTail s.device) ++
      fieldsFrom 4 2 (managerPlaces s.device)) := by
  obtain ⟨hlen, hholds⟩ := laid_row (size := 24)
    (row := deviceHead s.device ++ (evenRow 2 (managerPlaces s.device) ++ deviceTail s.device))
    (by simp [deviceHead, deviceTail, managerPlaces, sum_evenRow])
  rw [readEntry, readDevice_eq s.device h]
  refine ⟨hlen, Holds.middle_last ?_⟩
  rw [rowPlaces_append, rowPlaces_append, rowPlaces_evenRow] at hholds
  exact hholds

/-! ## WINDOW (R23) -/

/-- The fields of a WINDOW entry. -/
def windowRow (w : StreamWindow) : List (Nat × Nat) :=
  [(1, flagBit w.enabled), (1, [WindowKind.tap, .sink, .pass].idxOf w.kind), (1, w.slotBase.val), (1, 0), (4, w.base.toNat),
    (4, w.mask.toNat)]

theorem encodeWindow_eq (w : StreamWindow) : encodeWindow w = fieldRow (windowRow w) := by
  rw [encodeWindow, windowRow]
  cases w.kind <;> simp [fieldRow, pad_eq_beNat 1, flagByte_cons]

theorem laid_window (s : State) (i : Fin 16) :
    Laid (readEntry s .window i) 12 (rowPlaces 0 (windowRow s.classifier.windows[i])) := by
  have hread : readEntry s .window i = encodeWindow s.classifier.windows[i] := by simp [readEntry]
  rw [hread, encodeWindow_eq]
  exact laid_fieldRow _

/-! ## SLOT (R27, R28) -/

theorem slotStateCode_eq (st : SlotState) :
    slotStateCode st = [SlotState.disabled, .idle, .acquiring, .locked, .lost].idxOf st := by cases st <;> rfl

/-- The fields of a SLOT entry up to the bytes 13..15, up to 26..27, and behind these; both gaps are sent as 0. -/
def slotRow (x : Slot) : List (Nat × Nat) :=
  [(1, flagBit x.cfg.enabled), (1, flagBit x.cfg.acceptTest), (1, x.cfg.acquire), (1, 0), (2, x.cfg.lossTimeout),
    (2, x.cfg.maxGap), (1, [SlotState.disabled, .idle, .acquiring, .locked, .lost].idxOf x.st),
    (1, flagBit x.tag.isSome + flagBit x.expected.isSome 1 + flagBit x.lastUsable.isSome 2), (1, x.good), (1, x.lateRun),
    (1, flagBit x.lostSeen), (3, 0), (4, (x.tag.getD 0).toNat), (6, x.expected.getD 0), (2, 0), (4, x.lastUsable.getD 0)] ++
  evenRow 4 ((slotCounters x.ctr).map BitVec.toNat)

theorem counterBytes_eq (l : List Counter) : counterBytes l = fieldRow (evenRow 4 (l.map BitVec.toNat)) := by
  rw [fieldRow_evenRow, List.flatMap_map, counterBytes]

theorem readSlot_eq (x : Slot) : readSlot x = fieldRow (slotRow x) := by
  have hcounters : counterBytes x.ctr.list = fieldRow (evenRow 4 ((slotCounters x.ctr).map BitVec.toNat)) := counterBytes_eq _
  rw [slotRow, fieldRow_append, ← hcounters]
  simp [readSlot, encodeSlotCfg, fieldRow, pad_eq_beNat, flagByte_cons, bitAt_eq_flagBit, slotStateCode_eq]

theorem laid_slot (s : State) (k : Fin 32) :
    Laid (readEntry s .slot k) 64 (((rowPlaces 0 (slotRow (s.slot k))).eraseIdx 14).eraseIdx 11) := by
  have hread : readEntry s .slot k = readSlot (s.slot k) := by simp [readEntry, State.slot]
  rw [hread, readSlot_eq]
  obtain ⟨hlen, hholds⟩ := laid_row (row := slotRow (s.slot k)) (size := 64) (by simp [slotRow, sum_evenRow, slotCounters])
  exact ⟨hlen, Holds.eraseIdx (Holds.eraseIdx hholds 14) 11⟩

/-! ## POINT (R45, R60, R82) -/

/-- The written part of a POINT entry, the reserved byte 11 among it. -/
def pointRow (c : PointCfg) : List (Nat × Nat) := pointHead c ++ evenRow 2 c.gains.toList

theorem encodePointCfg_row (c : PointCfg) : encodePointCfg c = fieldRow (pointRow c) := by
  rw [encodePointCfg_eq, pointRow, fieldRow_append]
  rfl

theorem length_encodePointCfg (c : PointCfg) : (encodePointCfg c).length = 28 := by
  simp [encodePointCfg_row, length_fieldRow, pointRow, pointHead, sum_evenRow, Seven.toList]

theorem pointFields_eq (off : Nat) (c : PointCfg) : pointFields off c = (rowPlaces off (pointRow c)).eraseIdx 11 := by
  have hnominal : (if c.nominal = .hz50 then 50 else 60) = c.nominal.hz := by cases c.nominal <;> rfl
  rw [pointFields, pointRow, pointHead]
  cases c.policy <;>
    simp [fieldsFrom, evenRow, rowPlaces, Seven.toList, toNat_flagByte, hnominal, Nat.add_assoc]

theorem framerStateCode_eq (st : FramerState) :
    framerStateCode st = [FramerState.disabled, .waiting, .collecting, .held].idxOf st := by cases st <;> rfl

theorem Framer.started_eq (f : Framer) : f.started = (f.window.bind fun w => w.start).isSome := by
  rw [Framer.started]
  cases f.window <;> rfl

/-- A value of the current window, 0 without one. -/
def Framer.ofWindow (f : Framer) (get : Window → Nat) : Nat := (f.window.map get).getD 0

/-- The offsets 64..77 of a POINT read: the current window's progress (R82). -/
def progressRow (f : Framer) : List (Nat × Nat) :=
  [(2, f.ofWindow fun w => w.len), (2, f.ofWindow fun w => w.pos), (2, f.ofWindow fun w => w.covered),
    (2, f.ofWindow fun w => w.bridgedCount), (6, f.ofWindow fun w => w.start.getD 0)]

theorem readProgress_eq (f : Framer) : readProgress f.window = fieldRow (progressRow f) := by
  simp only [progressRow, Framer.ofWindow]
  cases f.window with
  | none => rfl
  | some w => simp [readProgress, fieldRow]

/-- The dynamic state and the counters of a POINT entry from offset 56 on; the bytes 62..63 are sent as 0. -/
def pointTail (p : Point) : List (Nat × Nat) :=
  [(1, flagBit p.waitingCfg.isSome + flagBit p.changeMark 1 + flagBit p.vLocked 2 + flagBit p.iLocked 3 +
      flagBit p.framer.trk.untracked 4 + flagBit ((p.framer.window.bind fun w => w.start).isSome) 5),
    (1, [FramerState.disabled, .waiting, .collecting, .held].idxOf p.framer.st),
    (1, bankCode p.framer.bank1 + 4 * bankCode p.framer.bank2), (1, p.vQueue.length), (1, p.iQueue.length),
    (1, p.framer.trk.run), (2, 0)] ++
  (progressRow p.framer ++
    ([(2, p.framer.trk.nextLen), (4, p.framer.trk.period), (4, p.framer.trk.freq), (4, p.framer.seq.toNat)] ++
      evenRow 4 ((pointCounters p).map BitVec.toNat)))

/-- The pending configuration of a POINT read, 0 without one (R207). -/
def pendingBytes (p : Point) : List Byte := (p.waitingCfg.map encodePointCfg).getD (pad 28)

theorem length_pendingBytes (p : Point) : (pendingBytes p).length = 28 := by
  rw [pendingBytes]
  cases p.waitingCfg with
  | none => exact length_pad 28
  | some c => exact length_encodePointCfg c

theorem readPoint_eq (p : Point) :
    readPoint p = encodePointCfg p.cfg ++ (pendingBytes p ++ fieldRow (pointTail p)) := by
  have hcounters : counterBytes p.counterList = fieldRow (evenRow 4 ((pointCounters p).map BitVec.toNat)) := counterBytes_eq _
  rw [pointTail, fieldRow_append, fieldRow_append, fieldRow_append, ← hcounters, ← readProgress_eq, readPoint, pendingBytes]
  cases p.waitingCfg <;> simp [fieldRow, pad_eq_beNat 2, bitAt_eq_flagBit, framerStateCode_eq, Framer.started_eq]

theorem readEntry_point (s : State) (i : Fin 24) : readEntry s .point i = readPoint (s.point i) := by
  simp [readEntry, State.point]

theorem laid_point (p : Point) : Laid (readPoint p) 152 (pointFields 0 p.cfg ++ (rowPlaces 56 (pointTail p)).eraseIdx 6) := by
  have hcfg := length_encodePointCfg p.cfg
  have hpending := length_pendingBytes p
  have htail : (fieldRow (pointTail p)).length = 96 := by
    simp [length_fieldRow, pointTail, progressRow, sum_evenRow, pointCounters]
  refine ⟨by rw [readPoint_eq, List.length_append, List.length_append, hcfg, hpending, htail],
    (holds_append_iff _ _ _).mpr ⟨?_, Holds.eraseIdx ?_ 6⟩⟩
  · rw [pointFields_eq, readPoint_eq, encodePointCfg_row]
    exact Holds.eraseIdx (field_fieldRow (pointRow p.cfg) [] _) 11
  · have hplaces := field_fieldRow (pointTail p) (encodePointCfg p.cfg ++ pendingBytes p) []
    rw [List.length_append, hcfg, hpending, List.append_nil, List.append_assoc, ← readPoint_eq] at hplaces
    exact hplaces

theorem holds_pending {p : Point} {c : PointCfg} (h : p.waitingCfg = some c) : Holds (readPoint p) (pointFields 28 c) := by
  have hbytes : pendingBytes p = fieldRow (pointRow c) := by
    rw [pendingBytes, h]
    exact encodePointCfg_row c
  have hplaces := field_fieldRow (pointRow c) (encodePointCfg p.cfg) (fieldRow (pointTail p))
  rw [length_encodePointCfg, ← hbytes, ← readPoint_eq] at hplaces
  rw [pointFields_eq]
  exact Holds.eraseIdx hplaces 11

theorem no_pending {p : Point} (h : p.waitingCfg = none) : ((readPoint p).drop 28).take 28 = List.replicate 28 0 := by
  have hbytes : pendingBytes p = List.replicate 28 0 := by
    rw [pendingBytes, h]
    rfl
  rw [readPoint_eq, List.drop_left' (length_encodePointCfg p.cfg), List.take_left' (length_pendingBytes p), hbytes]

/-! ## HSET and LIMIT (R91, R92) -/

theorem laid_hset {l : List Nat} (h : l.length ≤ 16) : Laid (encodeHset l) 20
    ((0, 1, l.length) :: (17, 3, 0) :: fieldsFrom 1 1 ((List.range 16).map fun k => (l[k]?).getD 0)) := by
  have hbytes : encodeHset l =
      fieldRow ([(1, l.length)] ++ (evenRow 1 ((List.range 16).map fun k => (l[k]?).getD 0) ++ [(3, 0)])) := by
    rw [fieldRow_append, fieldRow_append, ← flatMap_beNat_padded 1 l h]
    simp [encodeHset, fieldRow, pad_eq_beNat 3]
  obtain ⟨hlen, hholds⟩ := laid_fieldRow
    ([(1, l.length)] ++ (evenRow 1 ((List.range 16).map fun k => (l[k]?).getD 0) ++ [(3, 0)]))
  rw [rowPlaces_append, rowPlaces_append, rowPlaces_evenRow, sum_evenRow] at hholds
  rw [hbytes]
  exact ⟨hlen.trans (by simp [sum_evenRow]), Holds.middle_last hholds⟩

theorem laid_limit (m : LimitProfile) :
    Laid (encodeLimit m) 204 (fieldsFrom 0 4 (m.orders.toList ++ [m.triplen, m.nonFund])) := by
  have hbytes : encodeLimit m = (m.orders.toList ++ [m.triplen, m.nonFund]).flatMap (beNat 4) := by
    simp [encodeLimit]
  obtain ⟨hlen, hholds⟩ := laid_evenRow 4 (m.orders.toList ++ [m.triplen, m.nonFund])
  rw [hbytes]
  exact ⟨hlen.trans (by simp), hholds⟩

/-! ## ALERT (R151) -/

/-- The fields of an ALERT entry. -/
def alertEntryRow (n : Fin 20) (e : AlertEntry) : List (Nat × Nat) :=
  [(1, flagBit e.cfg.masked), (1, e.cfg.level), (1, e.cfg.vector.toNat), (1, portCode e.cfg.port),
    (1, flagBit (!e.cfg.deliverFrame)), (1, 0), (2, e.cfg.dest.toNat),
    (1, if isLevel n then flagBit e.active else flagBit e.pending.isSome), (1, e.count), (1, flagBit e.queuedOn.isSome),
    (1, flagBit e.awaiting), (1, flagBit e.queuedOn.isSome), (1, flagBit (isLevel n)), (1, flagBit (isLevel n && e.active)),
    (1, (e.queuedOn.map portCode).getD 0), (4, (if isLevel n then e.detail else e.pending.getD 0).toNat)] ++
  evenRow 4 [e.occurrences.toNat, e.frames.toNat, e.restored.toNat]

theorem readAlert_eq (n : Fin 20) (e : AlertEntry) : readAlert n e = fieldRow (alertEntryRow n e) := by
  have hcounters : counterBytes e.counterList = fieldRow (evenRow 4 [e.occurrences.toNat, e.frames.toNat, e.restored.toNat]) :=
    counterBytes_eq _
  rw [alertEntryRow, fieldRow_append, ← hcounters, ← apply_ite flagBit]
  simp [readAlert, encodeAlertCfg, fieldRow, pad_eq_beNat 1, flagByte_cons, cons_eq_beNat e.cfg.vector]

theorem laid_alert (n : Fin 20) (e : AlertEntry) : Laid (readAlert n e) 32 (rowPlaces 0 (alertEntryRow n e)) := by
  rw [readAlert_eq]
  exact laid_row (by simp [alertEntryRow, sum_evenRow])

/-! ## PUSH (R138, R139, R147) -/

theorem pushStateCode_eq (st : PushState) :
    pushStateCode st = [PushState.disabled, .armed, .sending, .done].idxOf st := by cases st <;> rfl

/-- The fields of a PUSH entry; the bytes 15 and 18..19 are sent as 0. -/
def pushRow (waiting : Bool) (x : Channel) : List (Nat × Nat) :=
  [(1, flagBit x.cfg.enabled), (1, [TriggerKind.source, .interval, .manual].idxOf x.cfg.trigger), (1, x.cfg.source.val),
    (1, portCode x.cfg.port), (1, flagBit x.cfg.burst), (1, 0), (2, x.cfg.dest.toNat), (2, x.cfg.count), (2, 0),
    (1, [PushState.disabled, .armed, .sending, .done].idxOf x.st), (1, x.backlog), (1, flagBit waiting), (1, 0),
    (2, x.remaining), (2, 0), (4, x.seq.toNat)] ++
  evenRow 4 [x.framesPushed.toNat, x.recordsSent.toNat, x.emptyTrigger.toNat, x.backlogSat.toNat]

theorem readPush_eq (waiting : Bool) (x : Channel) : readPush waiting x = fieldRow (pushRow waiting x) := by
  have hcounters : counterBytes x.counterList =
      fieldRow (evenRow 4 [x.framesPushed.toNat, x.recordsSent.toNat, x.emptyTrigger.toNat, x.backlogSat.toNat]) :=
    counterBytes_eq _
  rw [pushRow, fieldRow_append, ← hcounters, readPush, encodePushCfg]
  cases x.cfg.trigger <;> simp [fieldRow, pad_eq_beNat, flagByte_cons, pushStateCode_eq]

theorem laid_push (waiting : Bool) (x : Channel) :
    Laid (readPush waiting x) 40 (((rowPlaces 0 (pushRow waiting x)).eraseIdx 14).eraseIdx 12) := by
  rw [readPush_eq]
  obtain ⟨hlen, hholds⟩ := laid_row (row := pushRow waiting x) (size := 40) (by simp [pushRow, sum_evenRow])
  exact ⟨hlen, Holds.eraseIdx (Holds.eraseIdx hholds 14) 12⟩

end Sys2Proof.Machine
end

section
/-! SUPPORT. What RESULT and COUNTERS read as, and the READ of every space (R103, R174, R207, 11.4, 11.5). -/

namespace Sys2Proof.Machine

/-! ## RESULT (R103, 11.4) -/

/-- The fields of a present RESULT entry before its orders. -/
def resultHead (i : Fin 24) (r : WindowResult) : List (Nat × Nat) :=
  [(1, 1), (1, i.val), (1, r.orders.length), (1, flagBit r.nonFundExceed + flagBit r.neutral 1), (4, r.seq.toNat),
    (6, r.start), (2, r.len), (2, r.covered), (2, r.bridgedCount),
    (2, flagBit r.flags.untracked 8 + flagBit r.flags.clamped 9 + flagBit r.flags.bridged 10 + flagBit r.flags.incomplete 11 +
      flagBit r.flags.firstAfterChange 12), (2, 0), (4, r.freq), (8, r.excess)] ++
  evenRow 8 ([r.ia, r.ib, r.ic, r.inn].flatMap fun t => [t.total, t.nonFund])

-- `delta`, since the equation of so long a chain of runs is slow to derive.
theorem readResult_eq (i : Fin 24) (r : WindowResult) : readResult i (some r) = fieldRow (resultHead i r) ++
    (r.orders.flatMap encodeOrderResult ++ pad (76 * (16 - r.orders.length))) := by
  have hpresent (l : List Byte) : flagByte true :: l = beNat 1 1 ++ l := rfl
  delta readResult
  simp [resultHead, fieldRow, evenRow, encodeTotals, hpresent, pad_eq_beNat 2, windowFlagsWord, bitAt_eq_flagBit]

/-- The phasors of an order in their order, each re then im. -/
def phasorValues (o : OrderResult) : List Nat :=
  [Seven.va, Seven.vb, Seven.vc, Seven.ia, Seven.ib, Seven.ic, Seven.inn].flatMap fun sig =>
    [twosComplement 4 (sig o.re), twosComplement 4 (sig o.im)]

theorem length_phasorValues (o : OrderResult) : (phasorValues o).length = 14 := rfl

/-- The fields of an order of a RESULT entry, its phasors between its head and its powers. -/
def orderRow (o : OrderResult) : List (Nat × Nat) :=
  [(1, o.order), (1, flagBit o.exceed), (2, 0)] ++
    (evenRow 4 (phasorValues o) ++ [(8, twosComplement 8 o.p), (8, twosComplement 8 o.q)])

theorem encodeOrderResult_eq (o : OrderResult) : encodeOrderResult o = fieldRow (orderRow o) := by
  have hphasors : encodePhasors o.re o.im = fieldRow (evenRow 4 (phasorValues o)) := by
    simp [encodePhasors, phasorValues, fieldRow_evenRow, beInt_eq]
  rw [orderRow, fieldRow_append, fieldRow_append, ← hphasors]
  simp [encodeOrderResult, fieldRow, flagByte_cons, pad_eq_beNat 2, beInt_eq]

theorem length_encodeOrderResult (o : OrderResult) : (encodeOrderResult o).length = 76 := by
  simp [encodeOrderResult_eq, length_fieldRow, orderRow, sum_evenRow, length_phasorValues]

theorem length_resultHead (i : Fin 24) (r : WindowResult) : (fieldRow (resultHead i r)).length = 100 := by
  simp [length_fieldRow, resultHead, sum_evenRow]

section Result

variable (i : Fin 24) (r : WindowResult)

theorem length_orders : (r.orders.flatMap encodeOrderResult).length = 76 * r.orders.length := by
  simp [List.length_flatMap, length_encodeOrderResult, Nat.mul_comm]

theorem laid_result (h : r.orders.length ≤ 16) : Laid (readResult i (some r)) 1316 (rowPlaces 0 (resultHead i r)) := by
  rw [readResult_eq]
  refine ⟨?_, ?_⟩
  · rw [List.length_append, List.length_append, length_resultHead, length_orders, length_pad]
    omega
  · exact field_fieldRow (resultHead i r) [] _

/-- The j-th order stands behind those before it. -/
theorem holds_order {j : Nat} {o : OrderResult} (h : r.orders[j]? = some o) :
    Holds ((readResult i (some r)).drop (100 + 76 * j))
      ([(0, 1, o.order), (1, 1, flagBit o.exceed), (2, 2, 0), (60, 8, twosComplement 8 o.p), (68, 8, twosComplement 8 o.q)] ++
        fieldsFrom 4 4 (phasorValues o)) := by
  obtain ⟨hj, rfl⟩ := List.getElem?_eq_some_iff.mp h
  have hlen : 76 * j ≤ (r.orders.flatMap encodeOrderResult).length := by
    rw [length_orders]
    omega
  rw [readResult_eq, ← length_resultHead i r, List.drop_length_add_append, List.drop_append_of_le_length hlen,
    drop_flatMap_of_length length_encodeOrderResult, List.drop_eq_getElem_cons hj, List.flatMap_cons, encodeOrderResult_eq,
    List.append_assoc]
  have hplaces := field_fieldRow (orderRow r.orders[j]) []
    ((r.orders.drop (j + 1)).flatMap encodeOrderResult ++ pad (76 * (16 - r.orders.length)))
  rw [orderRow, rowPlaces_append, rowPlaces_append, rowPlaces_evenRow, sum_evenRow, length_phasorValues] at hplaces
  exact Holds.middle_last hplaces

/-- Behind the last order the entry is 0. -/
theorem zero_behind_orders {j : Nat} (hlo : 100 + 76 * r.orders.length ≤ j) (hhi : j < 1316) :
    (readResult i (some r))[j]? = some 0 := by
  rw [readResult_eq, ← List.append_assoc, List.getElem?_append_right (by
    rw [List.length_append, length_resultHead, length_orders]; omega), pad, List.getElem?_replicate_of_lt]
  rw [List.length_append, length_resultHead, length_orders]
  omega

end Result

theorem readEntry_result (s : State) (i : Fin 24) : readEntry s .result i = readResult i (s.point i).result := by
  rw [readEntry, toIndex_val]
  rfl

/-! ## COUNTERS (R207) -/

/-- The words of COUNTERS, block by block in their order. -/
def counterBlocks (s : State) : List (List Counter) :=
  [s.dlv.portA.ctr.list, s.dlv.portB.ctr.list, [s.dlv.portB.ctr.passOverflow, s.dlv.portA.ctr.passOverflow],
    s.classifier.hits.toList, [s.classifier.noSlot, s.classifier.noTag], s.slots.toList.flatMap fun x => x.ctr.list,
    s.points.toList.flatMap fun p => p.counterList ++ [p.finished, p.iau.closed, p.iau.merges, p.iau.discardedIntervals],
    [s.finisher.abandonedCount, gauge s.finisher.peak],
    [gauge s.dlv.recq.words, gauge s.dlv.recq.records.length, gauge s.dlv.recq.peakWords, s.dlv.recq.appended,
      s.dlv.recq.fetched, s.dlv.recq.pushed],
    s.dlv.channels.toList.flatMap Channel.counterList, s.dlv.alerts.toList.flatMap AlertEntry.counterList,
    [s.agent.received, s.agent.dropped, s.agent.postedRefused, s.agent.loadsOpened, s.agent.loadsApplied,
      s.agent.loadsExpired, gauge s.agent.ticketsHeld, s.agent.issued, s.agent.delivered, s.agent.ticketsExpired]]

theorem counterWords_eq (s : State) : counterWords s = (counterBlocks s).flatten := by
  simp [counterWords, counterBlocks]

theorem length_counterBlocks (s : State) :
    (counterBlocks s).map List.length = [7, 7, 2, 16, 2, 32 * 8, 24 * 19, 2, 6, 4 * 4, 20 * 3, 10] := by
  simp [counterBlocks, List.length_flatMap, PortCounters.list, SlotCounters.list, Point.counterList, Channel.counterList,
    AlertEntry.counterList]

theorem counterBlock_placed {s : State} {i : Nat} {block : List Counter} (h : (counterBlocks s)[i]? = some block) :
    PlacedAt (counterWords s) ([7, 7, 2, 16, 2, 32 * 8, 24 * 19, 2, 6, 4 * 4, 20 * 3, 10].take i).sum block := by
  rw [counterWords_eq, ← length_counterBlocks s]
  exact placedAt_flatten h

/-- The words of a placed run are read one by one. -/
theorem readEntry_counters {s : State} {first : Nat} {run : List Counter} (h : PlacedAt (counterWords s) first run) (j : Nat)
    (v : Counter) (hj : run[j]? = some v) : readEntry s .counters (first + j) = beNat 4 v.toNat := by
  rw [readEntry, h.getElem? hj]
  rfl

theorem slot_counters_placed (s : State) (k : Fin 32) :
    PlacedAt (counterWords s) (34 + 8 * k.val) (slotCounters (s.slot k).ctr) := by
  have hblock : PlacedAt (counterWords s) 34 (s.slots.toList.flatMap fun x => x.ctr.list) := counterBlock_placed (i := 5) rfl
  have hget : s.slots.toList[k.val]? = some (s.slot k) := by simp [State.slot]
  exact hblock.trans (placedAt_flatMap (by intro _; rfl) hget)

theorem point_counters_placed (s : State) (i : Fin 24) : PlacedAt (counterWords s) (290 + 19 * i.val)
    (pointCounters (s.point i) ++ [(s.point i).finished, (s.point i).iau.closed, (s.point i).iau.merges,
      (s.point i).iau.discardedIntervals]) := by
  have hblock : PlacedAt (counterWords s) 290 (s.points.toList.flatMap fun p =>
    p.counterList ++ [p.finished, p.iau.closed, p.iau.merges, p.iau.discardedIntervals]) := counterBlock_placed (i := 6) rfl
  have hget : s.points.toList[i.val]? = some (s.point i) := by simp [State.point]
  exact hblock.trans (placedAt_flatMap (by intro _; rfl) hget)

theorem channel_counters_placed (s : State) (c : Fin 4) :
    PlacedAt (counterWords s) (754 + 4 * c.val) (s.dlv.channel c).counterList := by
  have hblock : PlacedAt (counterWords s) 754 (s.dlv.channels.toList.flatMap Channel.counterList) :=
    counterBlock_placed (i := 9) rfl
  have hget : s.dlv.channels.toList[c.val]? = some (s.dlv.channel c) := by simp [Delivery.channel]
  exact hblock.trans (placedAt_flatMap (by intro _; rfl) hget)

theorem alert_counters_placed (s : State) (n : Fin 20) :
    PlacedAt (counterWords s) (770 + 3 * n.val) (s.dlv.alert n).counterList := by
  have hblock : PlacedAt (counterWords s) 770 (s.dlv.alerts.toList.flatMap AlertEntry.counterList) :=
    counterBlock_placed (i := 10) rfl
  have hget : s.dlv.alerts.toList[n.val]? = some (s.dlv.alert n) := by simp [Delivery.alert]
  exact hblock.trans (placedAt_flatMap (by intro _; rfl) hget)

/-- TICKETS_HELD counts the tickets that are not FREE (R202). -/
theorem Agent.ticketsHeld_eq (a : Agent) :
    a.ticketsHeld = ((List.finRange 4).filter fun t => a.tickets[t] ≠ .free).length := by
  have hlist : a.tickets.toList = (List.finRange 4).map fun t => a.tickets[t] :=
    List.ext_getElem (by simp) fun i _ _ => by simp
  have hheld (t : Ticket) : t.held = decide (t ≠ .free) := by cases t <;> rfl
  rw [Agent.ticketsHeld, hlist, List.filter_map, List.length_map]
  simp only [Function.comp_def, hheld]

/-! ## READ of every space (R171, R172, R174) -/

/-- Settles O33: the service by its three outcomes, each entry as its row of fields, and COUNTERS as its blocks of words. -/
theorem readReturnsWholeEntries : Obligations.ReadReturnsWholeEntries := by
  refine ⟨fun s h space index count h0 hm => ⟨fun hsp => ?_, fun sp hsp hout => ?_, fun sp hsp hin => ?_⟩,
    laid_device, laid_window, laid_slot, fun s i => ?_, fun s j => ⟨fun hl => ?_, ?_⟩, fun s n => ?_, fun s c => ?_,
    fun s i => ⟨fun hnone => ?_, fun r hr hlen => ?_⟩, fun s => ?_⟩
  · exact exec_read h0 hm (serveRead_badSpace (s := joined s) hsp)
  · exact exec_read h0 hm (serveRead_badIndex (s := joined s) hsp hout)
  · exact exec_read h0 hm (serveRead_entries (s := joined s) hsp hin)
  · simp only [readEntry_point]
    exact ⟨no_pending, fun c => holds_pending, laid_point (s.point i)⟩
  · have hread : readEntry s .hset j = encodeHset s.finisher.hsets[j] := by simp [readEntry]
    rw [hread]
    exact laid_hset hl
  · have hread : readEntry s .limit j = encodeLimit s.finisher.limits[j] := by simp [readEntry]
    rw [hread]
    exact laid_limit s.finisher.limits[j]
  · rw [readEntry, toIndex_val]
    exact laid_alert n (s.dlv.alert n)
  · have hwaiting : (s.dlv.waitA.contains c || s.dlv.waitB.contains c) = decide (c ∈ s.dlv.waitA ∨ c ∈ s.dlv.waitB) := by
      simp
    rw [readEntry, toIndex_val]
    simp only [hwaiting]
    exact laid_push _ (s.dlv.channel c)
  · rw [readEntry_result, hnone]
    rfl
  · rw [readEntry_result, hr]
    exact ⟨laid_result i r hlen, fun j o => holds_order i r, fun j => zero_behind_orders i r⟩
  · have block {first : Nat} {run : List Counter} (h : PlacedAt (counterWords s) first run) := readEntry_counters h
    refine ⟨block (counterBlock_placed (i := 0) rfl), block (counterBlock_placed (i := 1) rfl),
      block (counterBlock_placed (i := 2) rfl) 0 _ rfl, block (counterBlock_placed (i := 2) rfl) 1 _ rfl, fun i => ?_,
      block (counterBlock_placed (i := 4) rfl), fun k => block (slot_counters_placed s k),
      fun i => block (point_counters_placed s i), block (counterBlock_placed (i := 7) rfl),
      block (counterBlock_placed (i := 8) rfl), fun c => block (channel_counters_placed s c),
      fun n => block (alert_counters_placed s n), ?_⟩
    · exact block (counterBlock_placed (i := 3) rfl) i.val _ (by simp)
    · rw [← Agent.ticketsHeld_eq]
      exact block (counterBlock_placed (i := 11) rfl)

end Sys2Proof.Machine
end

section
/-! SUPPORT. A table load opened, extended and discarded, and the two time limits: an idle load and a ticket (R190, R191, R193,
R194, R201). -/

namespace Sys2Proof.Machine

/-! ## LOAD_OPEN (R190) -/

section LoadOpen

variable {s : State} {sp : Space} {code : Nat}

theorem serveLoadOpen_badSpace (source : Node) (first count : Nat) (h : spaceOf code = none) :
    serveLoadOpen source code first count s = refuse .badSpace s := by
  rw [serveLoadOpen, h]

/-- Past the space come READ-ONLY, BAD-INDEX, BUSY and LOCKED, in this order. -/
theorem serveLoadOpen_space (source : Node) (first : Nat) (count : BitVec 16) (h : spaceOf code = some sp) :
    serveLoadOpen source code first count.toNat s =
      if sp = .counters ∨ sp = .result then refuse .readOnly s
      else if count = 0 ∨ spaceEntries sp < first + count.toNat then refuse .badIndex s
      else if s.agent.load ≠ none then refuse .busy s
      else if sp = .hset ∧ s.device.metrologyLock = true then refuse .locked s
      else answerOk (count.toNat * writeSize sp) { s with agent := { s.agent with
        load := some (openedLoad source sp first count.toNat s), loadsOpened := s.agent.loadsOpened + 1 } } := by
  have hzero : count.toNat = 0 ↔ count = 0 := BitVec.toNat_inj (y := 0)
  rw [serveLoadOpen, h]
  simp only [writeSize_eq_zero_iff, hzero, Bool.or_eq_true, Bool.and_eq_true, decide_eq_true_eq, Option.isSome_iff_ne_none]

end LoadOpen

/-- Settles O46: the space first, then the service's chain of checks. -/
theorem loadOpenChecksInOrder : Obligations.LoadOpenChecksInOrder := by
  intro s h space index count h0 hm
  have hserve : ∀ x, serveLoadOpen h.source space.toNat index.toNat count.toNat (joined s) = x →
      exec (.loadOpen h space index count) s = .next (answered h .loadOpen x.status x.count x.data x.state) :=
    request_served s h .loadOpen space index count [] h0 hm (by decide)
  refine ⟨fun hsp => hserve _ (serveLoadOpen_badSpace h.source _ _ hsp), fun sp hsp => ?_⟩
  have hopen := serveLoadOpen_space (s := joined s) h.source index.toNat count hsp
  rw [joined_load, joined_device] at hopen
  split_ifs at hopen ⊢ <;> exact hserve _ hopen

/-! ## LOAD_DATA (R191, R194) -/

/-- Past NO-LOAD and BUSY the load is refreshed, by SHORT, BAD-OFFSET and LOAD-SIZE in this order, or by the bytes appended. -/
theorem serveLoadData_open {s : State} {l : Load} (source : Node) (offset count : Nat) (data : List Byte)
    (hl : s.agent.load = some l) : serveLoadData source offset count data s =
      if source ≠ l.opener then refuse .busy s
      else if data.length ≠ count then refuseStaged .short l s
      else if offset ≠ l.staged.length then refuseStaged .badOffset l s
      else if l.total < l.staged.length + count then refuseStaged .loadSize l s
      else answerOk (l.staged.length + count)
        (s.setLoad (some { l with staged := l.staged ++ data, lastActivity := timebase s })) := by
  rw [serveLoadData, hl]

/-- Settles O47: no load, or the service's chain of checks on the open one. -/
theorem loadDataAppendsInOrder : Obligations.LoadDataAppendsInOrder := by
  intro s h offset count data h0 hm
  have hserve : ∀ x, serveLoadData h.source offset.toNat count.toNat data (joined s) = x →
      exec (.loadData h offset count data) s = .next (answered h .loadData x.status x.count x.data x.state) :=
    request_served s h .loadData 0 offset count data h0 hm (by decide)
  refine ⟨fun hnone => ?_, fun l hl => ?_⟩
  · exact hserve (refuse .noLoad (joined s)) (by rw [serveLoadData, joined_load, hnone])
  · have hdata := serveLoadData_open (s := joined s) h.source offset.toNat count.toNat data hl
    split_ifs at hdata ⊢ <;> exact hserve _ hdata

/-! ## LOAD_ABORT (R193) -/

/-- The abort of an open load: BUSY from another node than its opener, otherwise the load is discarded. -/
theorem serveLoadAbort_open {s : State} {l : Load} (source : Node) (hl : s.agent.load = some l) :
    serveLoadAbort source s =
      if source ≠ l.opener then refuse .busy s else answerOk l.staged.length (s.setLoad none) := by
  rw [serveLoadAbort, hl]

/-- Settles O49: the three outcomes of the service. -/
theorem loadAbortDiscards : Obligations.LoadAbortDiscards := by
  intro s h h0 hm
  have hserve : ∀ x, serveLoadAbort h.source (joined s) = x →
      exec (.loadAbort h) s = .next (answered h .loadAbort x.status x.count x.data x.state) :=
    request_served s h .loadAbort 0 0 0 [] h0 hm (by decide)
  refine ⟨fun hnone => ?_, fun l hl hother => ?_, fun l hl hopener => ?_⟩
  · exact hserve (refuse .noLoad (joined s)) (by rw [serveLoadAbort, joined_load, hnone])
  · exact hserve _ ((serveLoadAbort_open (s := joined s) h.source hl).trans (if_pos hother))
  · exact hserve _ ((serveLoadAbort_open (s := joined s) h.source hl).trans (if_neg (not_not.mpr hopener)))

/-! ## Time limits (R194, R201) -/

/-- An occurrence of a source no cascade tells of, raised when the agent has changed: the occurrence is counted once, and
beyond the agent and the delivery side nothing else changes. -/
theorem raise_after_agent (s : State) (a : Agent) {n : Fin 20} (hn : OutsideCascade n) (detail : Nat) :
    (let t := State.raise { s with agent := a } n detail
     t.agent = a ∧ (t.dlv.alert n).occurrences = (s.dlv.alert n).occurrences + 1 ∧
       t = { s with agent := t.agent, dlv := t.dlv }) :=
  ⟨rfl, raise_alert { s with agent := a } n hn detail, rfl⟩

theorem dueLoad_eq_some_iff (s : State) (l : Load) :
    s.dueLoad = some l ↔ s.agent.load = some l ∧ l.lastActivity + 1000 ≤ timebase s := by
  rw [State.dueLoad]
  cases s.agent.load with
  | none => simp
  | some m =>
    simp only [Option.ite_none_right_eq_some, Option.some.injEq]
    constructor
    · rintro ⟨hdue, rfl⟩; exact ⟨rfl, hdue⟩
    · rintro ⟨rfl, hdue⟩; exact ⟨hdue, rfl⟩

section Expiry

variable {s : State} (hr : s.inReset = false)

include hr

theorem exec_loadExpired_before (h : ∀ l, s.agent.load = some l → timebase s < l.lastActivity + 1000) :
    exec .loadExpired s = .next s := by
  have hnone : s.dueLoad = none := Option.eq_none_iff_forall_not_mem.mpr fun l hl => by
    obtain ⟨hload, hdue⟩ := (dueLoad_eq_some_iff s l).mp hl
    exact absurd (h l hload) (by omega)
  rw [exec, execLoadExpired, State.event_out_of_reset s _ hr, hnone]

theorem exec_loadExpired_due {l : Load} (hl : s.agent.load = some l) (hdue : l.lastActivity + 1000 ≤ timebase s) :
    exec .loadExpired s = .next (s.expireLoad l) := by
  rw [exec, execLoadExpired, State.event_out_of_reset s _ hr, (dueLoad_eq_some_iff s l).mpr ⟨hl, hdue⟩]

theorem exec_ticketExpired (q : Fin 4) : exec (.ticketExpired q) s =
    .next (if s.agent.tickets[q].due (timebase s) then s.expireTicket q else s) :=
  State.event_out_of_reset s _ hr

/-- A ticket with a limit: it expires from its moment on, and before it nothing happens. -/
theorem exec_ticketExpired_limit {q : Fin 4} {limit : Nat}
    (h : s.agent.tickets[q].due (timebase s) = decide (limit ≤ timebase s)) :
    exec (.ticketExpired q) s = .next (if limit ≤ timebase s then s.expireTicket q else s) := by
  rw [exec_ticketExpired hr, h]
  simp only [decide_eq_true_eq]

end Expiry

/-- Settles O50: the load by whether it is due, and a ticket by its state and its limit. -/
theorem loadsAndTicketsExpireAtTheirLimits : Obligations.LoadsAndTicketsExpireAtTheirLimits := by
  have outside : OutsideCascade 17 ∧ OutsideCascade 18 := by unfold OutsideCascade; decide
  refine ⟨fun s hr => ⟨fun hnone => ?_, fun l hl hbefore => ?_, fun l hl hdue => ?_⟩,
    fun s q hr => ⟨fun hfree => ?_, fun k since hwaiting => ?_, fun k since copy hready => ?_⟩⟩
  · exact exec_loadExpired_before hr fun l hl => by rw [hnone] at hl; cases hl
  · exact exec_loadExpired_before hr fun m hm => by rw [hl] at hm; cases hm; exact hbefore
  · exact ⟨_, exec_loadExpired_due hr hl hdue, raise_after_agent s _ outside.1 _⟩
  · rw [exec_ticketExpired hr, hfree]
    rfl
  · have hexec := exec_ticketExpired_limit (limit := since + 5000) hr (q := q) (by rw [hwaiting]; rfl)
    split_ifs at hexec ⊢
    · exact ⟨_, hexec, raise_after_agent s _ outside.2 _⟩
    · exact hexec
  · have hexec := exec_ticketExpired_limit (limit := since + 2000) hr (q := q) (by rw [hready]; rfl)
    split_ifs at hexec ⊢
    · exact ⟨_, hexec, raise_after_agent s _ outside.2 _⟩
    · exact hexec

end Sys2Proof.Machine
end

section
/-! SUPPORT. The retrieval of a snapshot and the layout of the snapshot data (R199, R200, 11.4). -/

namespace Sys2Proof.Machine

/-! ## The retrieval (R200) -/

theorem serveRetrieve_badIndex {i ticket : Nat} (h : 24 ≤ i ∨ 4 < ticket) (s : State) :
    serveRetrieve i ticket s = refuse .badIndex s := by
  rw [serveRetrieve]
  rcases h with h | h
  · rw [show toIndex 24 i = none from dif_neg (by omega)]
  · rw [show toIndex 4 (ticket - 1) = none from dif_neg (by omega)]
    cases toIndex 24 i <;> rfl

section Retrieve

variable {s : State} {k : Fin 24} {q : Fin 4}

/-- A ticket that is FREE or another point's. -/
theorem serveRetrieve_noTicket (hw : ∀ since, s.agent.tickets[q] ≠ .waiting k since)
    (hr : ∀ since copy, s.agent.tickets[q] ≠ .ready k since copy) :
    serveRetrieve k.val (q.val + 1) s = refuse .noTicket s := by
  rw [serveRetrieve, Nat.add_sub_cancel, toIndex_val, toIndex_val]
  cases ht : s.agent.tickets[q] with
  | free => simp only [ht]
  | waiting j since => simp only [ht, if_neg (show j ≠ k by rintro rfl; exact hw since ht)]
  | ready j since copy => simp only [ht, if_neg (show j ≠ k by rintro rfl; exact hr since copy ht)]

theorem serveRetrieve_waiting {since : Nat} (h : s.agent.tickets[q] = .waiting k since) :
    serveRetrieve k.val (q.val + 1) s = retryTicket q s := by
  rw [serveRetrieve, Nat.add_sub_cancel, toIndex_val, toIndex_val]
  simp only [h, if_true]

theorem serveRetrieve_ready {since : Nat} {copy : SnapshotCopy} (h : s.agent.tickets[q] = .ready k since copy) :
    serveRetrieve k.val (q.val + 1) s =
      { state := { s with agent := { s.agent with
          tickets := s.agent.tickets.set q .free, delivered := s.agent.delivered + 1 } }
        status := .ok, count := q.val + 1, data := encodeSnapshot copy } := by
  rw [serveRetrieve, Nat.add_sub_cancel, toIndex_val, toIndex_val]
  simp only [h, if_true]
  rfl

end Retrieve

/-! ## The snapshot data (11.4) -/

theorem Holds.subset {bytes : List Byte} {a b : List (Nat × Nat × Nat)} (h : Holds bytes b) (hab : a ⊆ b) : Holds bytes a :=
  fun x hx => h x (hab hx)

/-- A field of the open interval, 0 when there is none. -/
def Interval.ofFields (v : Interval) (get : OpenFields → Nat) : Nat := (v.fields.map get).getD 0

theorem Interval.ofFields_none {v : Interval} (h : v.fields = none) (get : OpenFields → Nat) : v.ofFields get = 0 := by
  rw [Interval.ofFields, h]
  rfl

theorem Interval.ofFields_some {v : Interval} {f : OpenFields} (h : v.fields = some f) (get : OpenFields → Nat) :
    v.ofFields get = get f := by
  rw [Interval.ofFields, h]
  rfl

/-- The fields of snapshot data from the flags to the frequency maximum. -/
def snapshotIntervalRow (v : Interval) : List (Nat × Nat) :=
  [(4, v.ofFields fun f => flagsWord f.flags false), (4, v.ofFields (·.firstNo)), (4, v.ofFields (·.lastNo)),
    (2, v.ofFields (·.openLen)), (2, v.ofFields (·.windows)), (6, v.ofFields (·.firstStart)), (2, v.discardedWindows),
    (6, v.ofFields (·.lastEnd)), (2, v.ofFields (·.nonFundExceeded)), (4, v.ofFields (·.elapsed)),
    (4, v.ofFields (·.covered)), (4, v.discardedSamples), (4, v.ofFields (·.freqMin.getD 0)),
    (4, v.ofFields (·.freqMax.getD 0))]

/-- The absent fields of an EMPTY interval are sent as 0. -/
theorem encodeSnapshotFields_eq (v : Interval) : encodeSnapshotFields v = fieldRow (snapshotIntervalRow v) := by
  rw [encodeSnapshotFields]
  cases h : v.fields with
  | none => simp [snapshotIntervalRow, Interval.ofFields_none h, fieldRow, pad, beNat]
  | some f => simp [snapshotIntervalRow, Interval.ofFields_some h, fieldRow]

/-- The fields of an accumulator: whole units, then the remainder. -/
def accumRow (a : Accum) : List (Nat × Nat) := [(8, a.whole), (4, a.rem)]

theorem encodeAccum_eq (a : Accum) : encodeAccum a = fieldRow (accumRow a) := by
  simp [encodeAccum, accumRow, fieldRow]

/-- The fields of snapshot data before those of the interval. -/
def snapshotStart (c : SnapshotCopy) : List (Nat × Nat) :=
  [(1, c.point.val), (1, flagBit c.ivl.fields.isSome), (1, c.orders.length), (1, 0), (4, c.seq.toNat), (4, c.takenAt)]

/-- The fields of snapshot data behind those of the interval, up to its order blocks. -/
def snapshotTotals (c : SnapshotCopy) : List (Nat × Nat) :=
  [(2, absentMap c.ivl.fields), (2, 0)] ++ accumRow c.acc.activeImp ++ accumRow c.acc.activeExp ++ accumRow c.acc.q1 ++
    accumRow c.acc.q2 ++ accumRow c.acc.q3 ++ accumRow c.acc.q4 ++ accumRow c.acc.excess

/-- The fields of snapshot data before its order blocks. -/
def snapshotHead (c : SnapshotCopy) : List (Nat × Nat) :=
  snapshotStart c ++ (snapshotIntervalRow c.ivl ++ snapshotTotals c)

/-- The orders of a copy that have a block. -/
def SnapshotCopy.blocks (c : SnapshotCopy) : List OrderCount := c.orders.filter fun o => 2 ≤ o.order

/-- The fields of the block of an order. -/
def snapshotBlockRow (a : Accumulators) (o : OrderCount) : List (Nat × Nat) :=
  [(1, o.order), (3, o.exceeded)] ++ accumRow (a.harmOf o.order).imp ++ accumRow (a.harmOf o.order).exp

theorem encodeSnapshotOrder_eq (a : Accumulators) (o : OrderCount) :
    encodeSnapshotOrder a o = fieldRow (snapshotBlockRow a o) := by
  simp [encodeSnapshotOrder, snapshotBlockRow, fieldRow_append, encodeAccum_eq, fieldRow_cons]

-- `delta`, since the equation of so long a chain of runs is slow to derive.
theorem encodeSnapshot_eq (c : SnapshotCopy) :
    encodeSnapshot c = fieldRow (snapshotHead c) ++ c.blocks.flatMap (encodeSnapshotOrder c.acc) := by
  delta encodeSnapshot
  simp only [snapshotHead, snapshotStart, snapshotTotals, fieldRow_append, ← encodeAccum_eq, ← encodeSnapshotFields_eq]
  simp [SnapshotCopy.blocks, fieldRow, pad_eq_beNat, flagByte_cons]

theorem length_encodeSnapshotOrder (a : Accumulators) (o : OrderCount) : (encodeSnapshotOrder a o).length = 28 := by
  rw [encodeSnapshotOrder_eq, length_fieldRow]
  rfl

theorem length_snapshotHead (c : SnapshotCopy) : (fieldRow (snapshotHead c)).length = 152 := by
  simp [length_fieldRow, snapshotHead, snapshotStart, snapshotIntervalRow, snapshotTotals, accumRow]

theorem length_encodeSnapshot (c : SnapshotCopy) : (encodeSnapshot c).length = 152 + 28 * c.blocks.length := by
  simp [encodeSnapshot_eq, length_snapshotHead, List.length_flatMap, length_encodeSnapshotOrder, Nat.mul_comm]

/-- The interval's fields stand from 12 on, the absent map and the accumulators from 64 on. -/
theorem holds_snapshotHead (c : SnapshotCopy) : Holds (encodeSnapshot c) (rowPlaces 0 (snapshotStart c)) ∧
    Holds (encodeSnapshot c) (rowPlaces 12 (snapshotIntervalRow c.ivl)) ∧
      Holds (encodeSnapshot c) (rowPlaces 64 (snapshotTotals c)) := by
  have hstartSum : ((snapshotStart c).map Prod.fst).sum = 12 := by simp [snapshotStart]
  have hintervalSum : ((snapshotIntervalRow c.ivl).map Prod.fst).sum = 52 := by simp [snapshotIntervalRow]
  have hplaces := field_fieldRow (snapshotHead c) [] (c.blocks.flatMap (encodeSnapshotOrder c.acc))
  rw [List.nil_append, ← encodeSnapshot_eq, snapshotHead, rowPlaces_append, rowPlaces_append, hstartSum, hintervalSum] at hplaces
  obtain ⟨hstart, hrest⟩ := (holds_append_iff _ _ _).mp hplaces
  exact ⟨hstart, (holds_append_iff _ _ _).mp hrest⟩

/-- The fields that are absent in EMPTY stand with the absent map; the two discard counts never are. -/
theorem holds_snapshotInterval (c : SnapshotCopy) : Holds (encodeSnapshot c)
    (((rowPlaces 12 (snapshotIntervalRow c.ivl)).eraseIdx 11).eraseIdx 6 ++ [(64, 2, absentMap c.ivl.fields)]) := by
  obtain ⟨-, hinterval, htotals⟩ := holds_snapshotHead c
  refine (holds_append_iff _ _ _).mpr ⟨Holds.eraseIdx (Holds.eraseIdx hinterval 11) 6, fun x hx => htotals x ?_⟩
  rw [List.mem_singleton.mp hx]
  exact List.mem_cons_self

/-- The j-th block stands behind those before it. -/
theorem holds_snapshotBlock {c : SnapshotCopy} {j : Nat} {o : OrderCount} (h : c.blocks[j]? = some o) :
    Holds ((encodeSnapshot c).drop (152 + 28 * j)) (rowPlaces 0 (snapshotBlockRow c.acc o)) := by
  obtain ⟨rest, hrest⟩ := placedAt_flatMap (length_encodeSnapshotOrder c.acc) h
  rw [encodeSnapshot_eq, ← length_snapshotHead c, List.drop_length_add_append, ← hrest, encodeSnapshotOrder_eq]
  exact field_fieldRow (snapshotBlockRow c.acc o) [] rest

/-- Settles O52: the retrieval by the ticket it names, and the data as a row of fields with a row behind it for each block. -/
theorem snapshotRetrieveDeliversOnce : Obligations.SnapshotRetrieveDeliversOnce := by
  refine ⟨fun s h i ticket h0 hm hticket => ?_, fun c => ⟨⟨length_encodeSnapshot c, ?_⟩, fun hnone => ?_, fun f hf => ?_,
    fun j o ho => ?_⟩⟩
  · have hserve : ∀ x, serveRetrieve i.toNat ticket.toNat (joined s) = x → exec (.snapshotRetrieve h i ticket) s =
        .next (answered h .snapshot x.status x.count x.data x.state) := fun x hx => by
      have hnamed : ticket.toNat ≠ 0 := fun hz => hticket (BitVec.eq_of_toNat_eq hz)
      exact request_served s h .snapshot 0 i ticket [] h0 hm (by decide) x
        (by rw [serveKind, serveSnapshot, if_neg hnamed, hx])
    refine ⟨fun hout => hserve _ (serveRetrieve_badIndex hout (joined s)), fun k q hk hq => ?_⟩
    rw [← hk, ← hq] at hserve
    rw [← hq]
    refine ⟨fun hfree => ?_, fun j since hwaiting hj => ?_, fun since hwaiting => ?_, fun j since copy hready hj => ?_,
      fun since copy hready => ?_⟩
    · exact hserve _ (serveRetrieve_noTicket (by simp [hfree]) (by simp [hfree]))
    · exact hserve _ (serveRetrieve_noTicket (by simp [hwaiting, hj]) (by simp [hwaiting]))
    · exact hserve _ (serveRetrieve_waiting (s := joined s) hwaiting)
    · exact hserve _ (serveRetrieve_noTicket (by simp [hready]) (by simp [hready, hj]))
    · exact hserve _ (serveRetrieve_ready (s := joined s) hready)
  · obtain ⟨hstart, hinterval, htotals⟩ := holds_snapshotHead c
    have hdiscards : Holds (encodeSnapshot c) [(34, 2, c.ivl.discardedWindows), (52, 4, c.ivl.discardedSamples)] :=
      Holds.subset hinterval (by simp [rowPlaces, snapshotIntervalRow])
    have hlaid := (holds_append_iff _ _ _).mpr ⟨hstart, (holds_append_iff _ _ _).mpr ⟨hdiscards, Holds.eraseIdx htotals 0⟩⟩
    exact hlaid
  · have hinterval := holds_snapshotInterval c
    simp only [snapshotIntervalRow, Interval.ofFields_none hnone, hnone] at hinterval
    exact hinterval
  · have hinterval := holds_snapshotInterval c
    simp only [snapshotIntervalRow, Interval.ofFields_some hf, hf] at hinterval
    exact hinterval
  · exact holds_snapshotBlock ho

end Sys2Proof.Machine
end

section
/-! SUPPORT. Written parts read back: the values of their fields, their flags, codes and lists (R205, R207, R208). -/

namespace Sys2Proof.Machine

/-! ## Values that fit their fields (R205) -/

/-- Each of these values fits the width of its field. -/
def ValuesFit (fields : List (Nat × Nat × Nat)) : Prop := ∀ x ∈ fields, x.2.2 < 256 ^ x.2.1

/-- A value that fits its field is read back as it is. -/
theorem Holds.value {bytes : List Byte} {fields : List (Nat × Nat × Nat)} (h : Holds bytes fields) (hfit : ValuesFit fields) :
    ∀ x ∈ fields, field x.1 x.2.1 bytes = x.2.2 := fun x hx => (h x hx).trans (Nat.mod_eq_of_lt (hfit x hx))

/-- A row's fields are read back from it, where their values fit. -/
theorem fieldRow_value {row : List (Nat × Nat)} (hfit : ValuesFit (rowPlaces 0 row)) :
    ∀ x ∈ rowPlaces 0 row, field x.1 x.2.1 (fieldRow row) = x.2.2 := Holds.value (laid_fieldRow row).2 hfit

/-- A field within the first of two runs. -/
theorem field_append_left {off w : Nat} {a : List Byte} (b : List Byte) (h : off + w ≤ a.length) :
    field off w (a ++ b) = field off w a := by
  rw [field, field, List.drop_append_of_le_length (by omega), List.take_append_of_le_length (by rw [List.length_drop]; omega)]

theorem flagBit_lt (b : Bool) : flagBit b < 256 := by cases b <;> decide

/-! ## Flags, ports and ranges -/

@[simp] theorem flagOf_flagBit (b : Bool) : flagOf (flagBit b) = some b := by cases b <;> rfl

@[simp] theorem portOf_portCode (p : Port) : portOf (portCode p) = some p := by cases p <;> rfl

theorem portCode_lt (p : Port) : portCode p < 256 := by cases p <;> decide

theorem inRange_of_mem {lo hi n : Nat} (hlo : lo ≤ n) (hhi : n ≤ hi) : inRange lo hi n = some n :=
  (inRange_eq_some_iff lo hi n n).mpr ⟨⟨hlo, hhi⟩, rfl⟩

/-! ## Values that follow one another -/

theorem mem_fieldsFrom {values : List Nat} {j v : Nat} (off w : Nat) (h : values[j]? = some v) :
    (off + w * j, w, v) ∈ fieldsFrom off w values :=
  List.mem_map.mpr ⟨(v, j), List.mem_zipIdx_iff_getElem?.mpr h, rfl⟩

/-- A list written value by value is read back from its places, whatever follows it. -/
theorem Holds.map_range_field {bytes : List Byte} {off w : Nat} {l rest : List Nat} (h : Holds bytes (fieldsFrom off w (l ++ rest)))
    (hfit : ∀ v ∈ l, v < 256 ^ w) : (List.range l.length).map (fun j => field (off + w * j) w bytes) = l := by
  refine List.ext_getElem (by simp) fun j hj hjl => ?_
  have hplace : (l ++ rest)[j]? = some l[j] := by
    rw [List.getElem?_append_left hjl, List.getElem?_eq_getElem hjl]
  have hread := h _ (mem_fieldsFrom off w hplace)
  rw [List.getElem_map, List.getElem_range, hread]
  exact Nat.mod_eq_of_lt (hfit _ (List.getElem_mem hjl))

end Sys2Proof.Machine
end

section
/-! SUPPORT. The written part of each space, read back (R23, R27, R45, R91, R92, R138, R151, R178); and the statement that every
legal entry is. -/

namespace Sys2Proof.Machine

/-! ## WINDOW (R23) -/

theorem length_encodeWindow (w : StreamWindow) : (encodeWindow w).length = writeSize .window := by
  rw [encodeWindow_eq, length_fieldRow]
  rfl

theorem decodeWindow_encodeWindow (w : StreamWindow) : decodeWindow (encodeWindow w) = some w := by
  have hfit : ValuesFit (rowPlaces 0 (windowRow w)) := by
    have hkind : [WindowKind.tap, .sink, .pass].idxOf w.kind < 256 := by cases w.kind <;> decide
    simp only [ValuesFit, windowRow, rowPlaces, List.forall_mem_cons]
    exact ⟨flagBit_lt _, hkind, by omega, by decide, w.base.isLt, w.mask.isLt, by simp⟩
  have hread := fieldRow_value hfit
  rw [← encodeWindow_eq] at hread
  simp only [windowRow, rowPlaces, List.forall_mem_cons, Nat.reduceAdd] at hread
  obtain ⟨henabled, hkind, hslot, -, hbase, hmask, -⟩ := hread
  rw [decodeWindow, henabled, hkind, hslot, hbase, hmask]
  obtain ⟨enabled, kind, base, mask, slotBase⟩ := w
  cases kind <;> simp [toIndex_val]

/-! ## SLOT (R27) -/

/-- The written fields of a SLOT entry. -/
def slotCfgRow (c : SlotCfg) : List (Nat × Nat) :=
  [(1, flagBit c.enabled), (1, flagBit c.acceptTest), (1, c.acquire), (1, 0), (2, c.lossTimeout), (2, c.maxGap)]

theorem encodeSlotCfg_eq (c : SlotCfg) : encodeSlotCfg c = fieldRow (slotCfgRow c) := by
  simp [encodeSlotCfg, fieldRow, slotCfgRow, pad_eq_beNat, flagByte_cons]

theorem length_encodeSlotCfg (c : SlotCfg) : (encodeSlotCfg c).length = writeSize .slot := by
  rw [encodeSlotCfg_eq, length_fieldRow]
  rfl

theorem decodeSlotCfg_encodeSlotCfg {c : SlotCfg} (h : c.Legal) : decodeSlotCfg (encodeSlotCfg c) = some c := by
  obtain ⟨hacqLo, hacqHi, hlossLo, hlossHi, hgapLo, hgapHi⟩ := h
  have hfit : ValuesFit (rowPlaces 0 (slotCfgRow c)) := by
    simp only [ValuesFit, slotCfgRow, rowPlaces, List.forall_mem_cons]
    exact ⟨flagBit_lt _, flagBit_lt _, by omega, by decide, by omega, by omega, by simp⟩
  have hread := fieldRow_value hfit
  rw [← encodeSlotCfg_eq] at hread
  simp only [slotCfgRow, rowPlaces, List.forall_mem_cons, Nat.reduceAdd] at hread
  obtain ⟨henabled, htest, hacquire, -, hloss, hgap, -⟩ := hread
  rw [decodeSlotCfg, henabled, htest, hacquire, hloss, hgap, inRange_of_mem hacqLo hacqHi, inRange_of_mem hlossLo hlossHi,
    inRange_of_mem hgapLo hgapHi]
  simp

/-! ## POINT (R45) -/

theorem decodePointCfg_encodePointCfg {c : PointCfg} (h : c.Legal) : decodePointCfg (encodePointCfg c) = some c := by
  have hgain {j g : Nat} (hj : c.gains.toList[j]? = some g) : decodeGain (encodePointCfg c) j = some g := by
    rw [decodeGain, field_gain c h hj]
    obtain ⟨-, -, -, -, -, -, -, hgains⟩ := h
    exact inRange_of_mem (Nat.zero_le g) (hgains g (List.mem_of_getElem? hj))
  obtain ⟨hcycLo, hcycHi, hbridgeLo, hbridgeHi, hcovLo, hcovHi, htanHi, -⟩ := h
  have hfit : ValuesFit (rowPlaces 0 (pointHead c)) := by
    have hnominal : c.nominal.hz < 256 := by cases c.nominal <;> decide
    have hpolicy : (match c.policy with | .restart => 0 | .bridge => 1 | .skip => 2) < 256 := by cases c.policy <;> decide
    simp only [ValuesFit, pointHead, rowPlaces, List.forall_mem_cons, toNat_flagByte]
    exact ⟨flagBit_lt _, by omega, by omega, flagBit_lt _, hnominal, by omega, by omega, by omega, hpolicy, by omega, by omega,
      by decide, by omega, by simp⟩
  have hread := Holds.value (field_pointHead c) hfit
  simp only [pointHead, rowPlaces, List.forall_mem_cons, Nat.reduceAdd, toNat_flagByte] at hread
  obtain ⟨henabled, hv, hi, hneutral, hnominal, hcycles, hhset, hlimit, hpolicy, hbridge, hcov, -, htan, -⟩ := hread
  rw [decodePointCfg, henabled, hv, hi, hneutral, hnominal, hcycles, hhset, hlimit, hpolicy, hbridge, hcov, htan,
    inRange_of_mem hcycLo hcycHi, inRange_of_mem hbridgeLo hbridgeHi, inRange_of_mem hcovLo hcovHi,
    inRange_of_mem (Nat.zero_le _) htanHi, hgain (j := 0) rfl, hgain (j := 1) rfl, hgain (j := 2) rfl, hgain (j := 3) rfl,
    hgain (j := 4) rfl, hgain (j := 5) rfl, hgain (j := 6) rfl]
  obtain ⟨enabled, vSlot, iSlot, useNeutral, nominal, cycles, hset, limit, policy, bridgeLimit, minCoverage, tanLimit,
    gains⟩ := c
  cases nominal <;> cases policy <;> simp [toIndex_val, Nominal.hz]

/-! ## HSET (R91) -/

theorem validOrders_bounds {l : List Nat} (h : validOrders l = true) : l.length ≤ 16 ∧ ∀ o ∈ l, o ≤ 50 := by
  simp only [validOrders, Bool.and_eq_true, decide_eq_true_eq, List.all_eq_true] at h
  obtain ⟨⟨⟨⟨-, hlen⟩, hall⟩, -⟩, -⟩ := h
  exact ⟨hlen, fun o ho => (hall o ho).2⟩

theorem decodeHset_encodeHset {l : List Nat} (h : validOrders l = true) : decodeHset (encodeHset l) = some l := by
  obtain ⟨hlen, hle⟩ := validOrders_bounds h
  obtain ⟨-, hholds⟩ := laid_hset hlen
  obtain ⟨hcount, -, hplaces⟩ : _ ∧ _ ∧ Holds _ _ := by
    simpa only [Holds, List.forall_mem_cons] using hholds
  rw [map_range_getD l hlen] at hplaces
  have horders := Holds.map_range_field hplaces fun v hv => (hle v hv).trans_lt (by decide)
  have hn : field 0 1 (encodeHset l) = l.length := hcount.trans (Nat.mod_eq_of_lt (by omega))
  simp only [one_mul] at horders
  simp only [decodeHset, hn, horders, h, hlen, decide_true, Bool.and_self, if_true]

/-! ## LIMIT (R92) -/

theorem decodeLimitField_encodeLimit {m : LimitProfile} (h : m.Legal) {j v : Nat}
    (hj : (m.orders.toList ++ [m.triplen, m.nonFund])[j]? = some v) :
    decodeLimitField (encodeLimit m) j = v ∧ v ≤ 16777215 := by
  obtain ⟨horders, htriplen, hnonFund⟩ := h
  have hle : v ≤ 16777215 := by
    have hmem := List.mem_of_getElem? hj
    simp only [List.mem_append, List.mem_cons, List.not_mem_nil, or_false] at hmem
    rcases hmem with hv | rfl | rfl
    · exact horders v hv
    · exact htriplen
    · exact hnonFund
  have hread := (laid_limit m).2 _ (mem_fieldsFrom 0 4 hj)
  rw [Nat.zero_add] at hread
  exact ⟨hread.trans (Nat.mod_eq_of_lt (show v < 256 ^ 4 by omega)), hle⟩

theorem decodeLimit_encodeLimit {m : LimitProfile} (h : m.Legal) : decodeLimit (encodeLimit m) = some m := by
  have horders : (Vector.ofFn fun i : Fin 49 => decodeLimitField (encodeLimit m) i.val) = m.orders := by
    refine Vector.ext fun i hi => ?_
    have hi' : i < m.orders.toList.length := by simpa using hi
    rw [Vector.getElem_ofFn, ← Vector.getElem_toList hi']
    exact (decodeLimitField_encodeLimit h (by rw [List.getElem?_append_left hi', List.getElem?_eq_getElem hi'])).1
  have htriplen : decodeLimitField (encodeLimit m) 49 = m.triplen := (decodeLimitField_encodeLimit h (by simp)).1
  have hnonFund : decodeLimitField (encodeLimit m) 50 = m.nonFund := (decodeLimitField_encodeLimit h (by simp)).1
  have hall : (List.range 51).all (fun i => decodeLimitField (encodeLimit m) i ≤ 16777215) = true := by
    refine List.all_eq_true.mpr fun i hi => decide_eq_true ?_
    have hlen : i < (m.orders.toList ++ [m.triplen, m.nonFund]).length := by simpa using hi
    obtain ⟨hv, hle⟩ := decodeLimitField_encodeLimit h (List.getElem?_eq_getElem hlen)
    exact hv.trans_le hle
  rw [decodeLimit, if_pos hall, horders, htriplen, hnonFund]

/-! ## ALERT (R151) -/

/-- The written fields of an ALERT entry. -/
def alertCfgRow (c : AlertCfg) : List (Nat × Nat) :=
  [(1, flagBit c.masked), (1, c.level), (1, c.vector.toNat), (1, portCode c.port), (1, flagBit (!c.deliverFrame)), (1, 0),
    (2, c.dest.toNat)]

theorem encodeAlertCfg_eq (c : AlertCfg) : encodeAlertCfg c = fieldRow (alertCfgRow c) := by
  simp [encodeAlertCfg, fieldRow, alertCfgRow, pad_eq_beNat 1, flagByte_cons, cons_eq_beNat c.vector]

theorem length_encodeAlertCfg (c : AlertCfg) : (encodeAlertCfg c).length = writeSize .alert := by
  rw [encodeAlertCfg_eq, length_fieldRow]
  rfl

theorem decodeAlertCfg_encodeAlertCfg {c : AlertCfg} (h : c.Legal) : decodeAlertCfg (encodeAlertCfg c) = some c := by
  obtain ⟨hlevel, hvecLo, hvecHi⟩ := h
  have hfit : ValuesFit (rowPlaces 0 (alertCfgRow c)) := by
    simp only [ValuesFit, alertCfgRow, rowPlaces, List.forall_mem_cons]
    exact ⟨flagBit_lt _, by omega, c.vector.isLt, portCode_lt _, flagBit_lt _, by decide, c.dest.isLt, by simp⟩
  have hread := fieldRow_value hfit
  rw [← encodeAlertCfg_eq] at hread
  simp only [alertCfgRow, rowPlaces, List.forall_mem_cons, Nat.reduceAdd] at hread
  obtain ⟨hmasked, hlev, hvector, hport, hdeliver, -, hdest, -⟩ := hread
  rw [decodeAlertCfg, hmasked, hlev, hvector, hport, hdeliver, hdest, flagOf_flagBit, inRange_of_mem (Nat.zero_le _) hlevel,
    inRange_of_mem hvecLo hvecHi]
  obtain ⟨masked, level, vector, dest, port, deliverFrame⟩ := c
  cases deliverFrame <;> simp [flagBit]

/-! ## PUSH (R138) -/

/-- The written fields of a PUSH entry. -/
def pushCfgRow (c : PushCfg) : List (Nat × Nat) :=
  [(1, flagBit c.enabled), (1, [TriggerKind.source, .interval, .manual].idxOf c.trigger), (1, c.source.val), (1, portCode c.port),
    (1, flagBit c.burst), (1, 0), (2, c.dest.toNat), (2, c.count), (2, 0)]

theorem encodePushCfg_eq (c : PushCfg) : encodePushCfg c = fieldRow (pushCfgRow c) := by
  rw [encodePushCfg, pushCfgRow]
  cases c.trigger <;> simp [fieldRow, pad_eq_beNat, flagByte_cons]

theorem length_encodePushCfg (c : PushCfg) : (encodePushCfg c).length = writeSize .push := by
  rw [encodePushCfg_eq, length_fieldRow]
  rfl

theorem decodePushCfg_encodePushCfg {c : PushCfg} (h : c.count ≤ 65535) : decodePushCfg (encodePushCfg c) = some c := by
  have hfit : ValuesFit (rowPlaces 0 (pushCfgRow c)) := by
    have htrigger : [TriggerKind.source, .interval, .manual].idxOf c.trigger < 256 := by cases c.trigger <;> decide
    simp only [ValuesFit, pushCfgRow, rowPlaces, List.forall_mem_cons]
    exact ⟨flagBit_lt _, htrigger, by omega, portCode_lt _, flagBit_lt _, by decide, c.dest.isLt, by omega, by decide, by simp⟩
  have hread := fieldRow_value hfit
  rw [← encodePushCfg_eq] at hread
  simp only [pushCfgRow, rowPlaces, List.forall_mem_cons, Nat.reduceAdd] at hread
  obtain ⟨henabled, htrigger, hsource, hport, hburst, -, hdest, hcount, -⟩ := hread
  rw [decodePushCfg, henabled, htrigger, hsource, hport, hburst, hdest, hcount]
  obtain ⟨enabled, trigger, source, dest, port, count, burst⟩ := c
  cases trigger <;> simp [toIndex_val]

/-! ## DEVICE (R178) -/

theorem length_encodeDeviceCfg {d : Device} (h : d.managers.length ≤ 4) : (encodeDeviceCfg d).length = writeSize .device := by
  simp only [encodeDeviceCfg, writeSize, List.length_append, length_beNat, length_pad, List.length_flatMap,
    List.map_const', List.sum_replicate, smul_eq_mul]
  omega

theorem managers_le_of_deviceLegal {s : State} (h : DeviceLegal s) : s.device.managers.length ≤ 4 := by
  obtain ⟨-, hlen, -⟩ := h
  exact hlen

/-- The fields of a DEVICE read that belong to its written part. -/
def deviceWritten (d : Device) : List (Nat × Nat × Nat) :=
  rowPlaces 0 (deviceHead d) ++ rowPlaces 12 ((deviceTail d).take 5) ++ fieldsFrom 4 2 (managerPlaces d)

/-- The written part starts a READ, so it holds the fields of a READ that stand within it. -/
theorem holds_encodeDeviceCfg (s : State) (h : s.device.managers.length ≤ 4) :
    Holds (encodeDeviceCfg s.device) (deviceWritten s.device) := by
  obtain ⟨-, hread⟩ := laid_device s h
  rw [holds_append_iff, holds_append_iff] at hread
  obtain ⟨⟨hhead, htail⟩, hmanagers⟩ := hread
  have hwritten : Holds (readEntry s .device 0) (deviceWritten s.device) := by
    rw [deviceWritten, holds_append_iff, holds_append_iff]
    exact ⟨⟨hhead, Holds.subset htail (by simp [deviceTail, rowPlaces])⟩, hmanagers⟩
  have hwithin : ∀ x ∈ deviceWritten s.device, x.1 + x.2.1 ≤ 20 := by
    simp [deviceWritten, deviceHead, deviceTail, rowPlaces, fieldsFrom, managerPlaces, List.range_succ]
  obtain ⟨rest, hrest⟩ : ∃ rest, readEntry s .device 0 = encodeDeviceCfg s.device ++ rest := ⟨_, List.append_assoc ..⟩
  intro x hx
  have hfirst : x.1 + x.2.1 ≤ (encodeDeviceCfg s.device).length := by
    rw [length_encodeDeviceCfg h]
    exact hwithin x hx
  rw [← hwritten x hx, hrest, field_append_left rest hfirst]

/-- The manager list is read back. -/
theorem managers_encodeDeviceCfg (s : State) (h : s.device.managers.length ≤ 4) :
    ((List.range s.device.managers.length).map fun i => BitVec.ofNat 16 (field (4 + 2 * i) 2 (encodeDeviceCfg s.device))) =
      s.device.managers := by
  obtain ⟨-, hplaces⟩ := (holds_append_iff _ _ _).mp (holds_encodeDeviceCfg s h)
  have hpadded := map_range_getD (s.device.managers.map BitVec.toNat) (n := 4) (by simpa using h)
  simp only [List.getElem?_map] at hpadded
  rw [managerPlaces, hpadded] at hplaces
  have hread := Holds.map_range_field hplaces fun v hv => by
    obtain ⟨m, -, rfl⟩ := List.mem_map.mp hv
    exact m.isLt
  rw [List.length_map] at hread
  have hback := congrArg (List.map (BitVec.ofNat 16)) hread
  simpa [Function.comp_def] using hback

theorem decodeDevice_encodeDeviceCfg {s : State} (h : DeviceLegal s) :
    decodeDevice s.device.metrologyLock (encodeDeviceCfg s.device) = some s.device := by
  obtain ⟨hnode, hlen, hbroadcast, hinterval, hfloorLo, hfloorHi, hmarkLo, hmarkHi, halert, hreply, hreport, hlock⟩ := h
  have hmark : s.device.watermark ≤ 16384 := hmarkHi
  have hmanagers := managers_encodeDeviceCfg s hlen
  obtain ⟨hfields, -⟩ := (holds_append_iff _ _ _).mp (holds_encodeDeviceCfg s hlen)
  have hfit : ValuesFit (rowPlaces 0 (deviceHead s.device) ++ rowPlaces 12 ((deviceTail s.device).take 5)) := by
    have hmax : s.device.intervalLen ≤ 3600 := by
      simp only [validInterval, Bool.and_eq_true, decide_eq_true_eq] at hinterval
      obtain ⟨⟨-, hmax⟩, -⟩ := hinterval
      exact hmax
    simp only [ValuesFit, deviceHead, deviceTail, rowPlaces, List.take, List.cons_append, List.nil_append, List.forall_mem_cons]
    exact ⟨s.device.node.isLt, by omega, by omega, by omega, by omega, by omega, by omega, by omega, by simp⟩
  have hread := Holds.value hfields hfit
  simp only [deviceHead, deviceTail, rowPlaces, List.take, List.cons_append, List.nil_append, List.forall_mem_cons,
    Nat.reduceAdd] at hread
  obtain ⟨hnodeAt, hcount, hfloor, hintervalAt, hmarkAt, halertAt, hreplyAt, hreportAt, -⟩ := hread
  rw [decodeDevice, hnodeAt, hcount, hfloor, hintervalAt, hmarkAt, halertAt, hreplyAt, hreportAt,
    inRange_of_mem (Nat.zero_le _) hlen, inRange_of_mem hfloorLo hfloorHi, inRange_of_mem hmarkLo hmark,
    inRange_of_mem (Nat.zero_le _) halert, inRange_of_mem (Nat.zero_le _) hreply, inRange_of_mem (Nat.zero_le _) hreport]
  simp only [Option.bind_eq_bind, Option.bind_some, hmanagers, BitVec.ofNat_toNat, BitVec.setWidth_eq]
  refine if_pos ?_
  simp only [hinterval, Bool.and_true, Bool.and_eq_true, bne_iff_ne, ne_eq, Bool.not_eq_true', List.contains_eq_mem,
    decide_eq_false_iff_not, Bool.and_eq_false_imp, beq_eq_false_iff_ne, List.length_eq_zero_iff]
  exact ⟨⟨hnode, hbroadcast⟩, hlock⟩

/-- Settles O54: the written part of each space is a row of fields that is read back value by value. -/
theorem writtenPartsReadBack : Obligations.WrittenPartsReadBack :=
  ⟨fun w => ⟨length_encodeWindow w, decodeWindow_encodeWindow w⟩,
    fun c h => ⟨length_encodeSlotCfg c, decodeSlotCfg_encodeSlotCfg h⟩,
    fun c h => ⟨length_encodePointCfg c, decodePointCfg_encodePointCfg h⟩,
    fun _ h => ⟨(laid_hset (validOrders_bounds h).1).1, decodeHset_encodeHset h⟩,
    fun m h => ⟨(laid_limit m).1, decodeLimit_encodeLimit h⟩,
    fun c h => ⟨length_encodeAlertCfg c, decodeAlertCfg_encodeAlertCfg h⟩,
    fun c h => ⟨length_encodePushCfg c, decodePushCfg_encodePushCfg h⟩,
    fun _ h => ⟨length_encodeDeviceCfg (managers_le_of_deviceLegal h), decodeDevice_encodeDeviceCfg h⟩⟩

end Sys2Proof.Machine
end

section
/-! SUPPORT. The part at the release of the reset input and while it is asserted, and the command at the front of the queue
(R209, R210): what the power-on state reads back as, the laws it keeps, its counters, and the rows that act out of reset alone. -/

namespace Sys2Proof.Machine

/-! ## The power-on state read back (R209) -/

section PowerOn

variable (straps : BitVec 12) (pending : List Instr)

@[simp] theorem State.powerOn_port (p : Port) : (State.powerOn straps pending).dlv.port p = .init := by cases p <;> rfl

@[simp] theorem State.powerOn_wait (p : Port) : (State.powerOn straps pending).dlv.wait p = [] := by cases p <;> rfl

@[simp] theorem State.powerOn_alert (n : Fin 20) : (State.powerOn straps pending).dlv.alert n = .init n.val := by
  simp [State.powerOn, Delivery.init, Delivery.alert]

@[simp] theorem State.powerOn_channel (c : Fin 4) : (State.powerOn straps pending).dlv.channel c = .init := by
  simp [State.powerOn, Delivery.init, Delivery.channel]

@[simp] theorem State.powerOn_window (i : Fin 16) : (State.powerOn straps pending).classifier.windows[i] = .init := by
  simp [State.powerOn, Classifier.init]

@[simp] theorem State.powerOn_hset (j : Fin 8) : (State.powerOn straps pending).finisher.hsets[j] = [1] := by
  simp [State.powerOn, Finisher.init]

@[simp] theorem State.powerOn_limit (j : Fin 8) : (State.powerOn straps pending).finisher.limits[j] = .zero := by
  simp [State.powerOn, Finisher.init]

@[simp] theorem State.powerOn_ticket (k : Fin 4) : (State.powerOn straps pending).agent.tickets[k] = .free := by
  simp [State.powerOn, Agent.init]

/-- The 12 straps fit the node number (R179). -/
theorem Device.init_node : (Device.init straps).node.toNat = straps.toNat :=
  BitVec.toNat_setWidth_of_le (by decide)

/-! ## The laws at power-on -/

theorem State.powerOn_downPorts : DownPortsHoldNothing (State.powerOn straps pending) := fun p _ => by
  rw [State.powerOn_port]
  exact ⟨rfl, rfl, rfl, rfl, rfl, rfl, rfl, rfl, rfl⟩

theorem PortState.init_withinCapacity : PortWithinCapacity .init := by
  simp [PortWithinCapacity, PortState.init, passBytes]

theorem State.powerOn_queuesWithinCapacity : QueuesWithinCapacity (State.powerOn straps pending) := by
  refine ⟨fun p => ⟨?_, ?_⟩, Nat.zero_le _⟩
  · rw [State.powerOn_port]; exact PortState.init_withinCapacity
  · rw [State.powerOn_wait]; exact List.nodup_nil

theorem State.powerOn_alertsApart : AlertsNeverBoth (State.powerOn straps pending) := fun n => by
  rw [State.powerOn_alert]
  exact AlertEntry.apart_of_not_awaiting rfl

theorem Point.init_sound : Point.init.Sound := ⟨by decide, by decide, nofun⟩

theorem State.powerOn_pointsSound : PointsSound (State.powerOn straps pending) := fun i => by
  rw [State.powerOn_point]
  exact Point.init_sound

theorem State.powerOn_remaindersBelow : RemaindersBelow (State.powerOn straps pending) := fun i => by
  rw [State.powerOn_point]
  exact Accumulators.zero_below

theorem State.powerOn_pairingSound : PairingSound (State.powerOn straps pending) := by
  rw [pairingSound_iff]
  refine ⟨fun k => ?_, fun i => ?_⟩
  · rw [State.powerOn_slot]; decide
  · rw [State.powerOn_point]; exact .of_empty rfl rfl nofun

/-! ## The counters at power-on (R207) -/

/-- The counters of a table, read entry by entry. -/
theorem flatMap_counters_zero {α : Type} {l : List α} {f : α → List Counter} (h : ∀ x ∈ l, ∀ w ∈ f x, w = 0) :
    ∀ w ∈ l.flatMap f, w = 0 := fun w hw => by
  obtain ⟨x, hx, hwx⟩ := List.mem_flatMap.mp hw
  exact h x hx w hwx

theorem flatMap_replicate_counters_zero {α : Type} {n : Nat} {x : α} {f : α → List Counter} (h : ∀ w ∈ f x, w = 0) :
    ∀ w ∈ (Vector.replicate n x).toList.flatMap f, w = 0 :=
  flatMap_counters_zero fun y hy => by
    rw [Vector.toList_replicate] at hy
    rw [List.eq_of_mem_replicate hy]
    exact h

theorem PortCounters.zero_counters : ∀ w ∈ PortCounters.zero.list, w = 0 := by
  simp [PortCounters.zero, PortCounters.list]

theorem Slot.init_counters : ∀ w ∈ Slot.init.ctr.list, w = 0 := by
  simp [Slot.init, SlotCounters.zero, SlotCounters.list]

theorem Point.init_counters : ∀ w ∈ Point.init.counterList ++
    [Point.init.finished, Point.init.iau.closed, Point.init.iau.merges, Point.init.iau.discardedIntervals], w = 0 := by
  simp [Point.init, Point.counterList, PairCounters.zero, Framer.init, FramerCounters.zero, IauCounters.zero]

theorem Channel.init_counters : ∀ w ∈ Channel.init.counterList, w = 0 := by
  simp [Channel.init, Channel.counterList]

theorem AlertEntry.init_counters (n : Nat) : ∀ w ∈ (AlertEntry.init n).counterList, w = 0 := by
  simp [AlertEntry.init, AlertEntry.counterList]

theorem State.powerOn_alertCounters :
    ∀ w ∈ (State.powerOn straps pending).dlv.alerts.toList.flatMap AlertEntry.counterList, w = 0 :=
  flatMap_counters_zero fun e he => by
    have hinit : ∃ n : Fin 20, AlertEntry.init n.val = e := by
      simpa [State.powerOn, Delivery.init, Vector.mem_ofFn] using he
    obtain ⟨n, rfl⟩ := hinit
    exact AlertEntry.init_counters n

theorem Agent.init_ticketsHeld : gauge Agent.init.ticketsHeld = 0 := by decide

/-- Every block of COUNTERS is 0 at power-on, table by table. -/
theorem State.powerOn_counterBlocks : ∀ b ∈ counterBlocks (State.powerOn straps pending), ∀ w ∈ b, w = 0 := by
  simp only [counterBlocks, List.forall_mem_cons]
  refine ⟨?portA, ?portB, ?overflow, ?hits, ?unmatched, ?slots, ?points, ?finisher, ?records, ?channels, ?alerts, ?agent, nofun⟩
  case portA => exact PortCounters.zero_counters
  case portB => exact PortCounters.zero_counters
  case overflow => exact ⟨rfl, rfl, nofun⟩
  case hits => exact fun w hw => List.eq_of_mem_replicate (Vector.toList_replicate ▸ hw)
  case unmatched => exact ⟨rfl, rfl, nofun⟩
  case slots => exact flatMap_replicate_counters_zero Slot.init_counters
  case points => exact flatMap_replicate_counters_zero Point.init_counters
  case finisher => exact ⟨rfl, rfl, nofun⟩
  case records => exact ⟨rfl, rfl, rfl, rfl, rfl, rfl, nofun⟩
  case channels => exact flatMap_replicate_counters_zero Channel.init_counters
  case alerts => exact State.powerOn_alertCounters straps pending
  case agent => exact ⟨rfl, rfl, rfl, rfl, rfl, rfl, Agent.init_ticketsHeld, rfl, rfl, rfl, nofun⟩

/-- No counter and no gauge has counted at power-on. -/
theorem State.powerOn_counterWords : ∀ w ∈ counterWords (State.powerOn straps pending), w = 0 := fun w hw => by
  rw [counterWords_eq] at hw
  obtain ⟨b, hb, hwb⟩ := List.mem_flatten.mp hw
  exact State.powerOn_counterBlocks straps pending b hb w hwb

end PowerOn

/-! ## The rows out of reset alone (R210) -/

theorem State.event_under_reset {s : State} (f : State → State) (h : s.inReset = true) : s.event f = .next s := by
  rw [State.event, if_pos h]

/-- Every row but the two of the reset input is an event, which acts out of reset alone. -/
theorem exec_under_reset {c : Instr} {s : State} (h : s.inReset = true) (hrelease : ∀ straps, c ≠ .powerOnReset straps)
    (hassert : c ≠ .resetAsserted) : exec c s = .next s := by
  cases c with
  | powerOnReset straps => exact absurd rfl (hrelease straps)
  | resetAsserted => exact absurd rfl hassert
  | linkUp p => rw [exec, execLinkUp, State.event_under_reset _ h]
  | finishComplete => rw [exec, execFinishComplete, State.event_under_reset _ h]
  | abandonedFinish => rw [exec, execAbandonedFinish, State.event_under_reset _ h]
  | alertOffer p => rw [exec, execAlertOffer, State.event_under_reset _ h]
  | sendAttempt c => rw [exec, execSendAttempt, State.event_under_reset _ h]
  | loadExpired => rw [exec, execLoadExpired, State.event_under_reset _ h]
  | _ => exact State.event_under_reset _ h

/-! ## The obligations -/

/-- Settles O1: a step takes the front of the queue. -/
theorem stepRunsTheFrontCommand : Obligations.StepRunsTheFrontCommand := by
  intro s c rest h
  rw [step, h]

/-- Settles O3: the row leaves the power-on state, whose tables read back as their defaults. -/
theorem powerOnResetLeavesDefaults : Obligations.PowerOnResetLeavesDefaults := by
  intro straps s
  refine ⟨State.powerOn straps s.pending, rfl, rfl, rfl, rfl, Device.init_node straps, rfl, rfl, rfl, fun p => ?_, ?_, ?_,
    fun i => ?_, fun k => ?_, fun i => ?_, fun c => ?_, fun n => ?_, State.powerOn_hset _ _, State.powerOn_limit _ _⟩
  · rw [State.powerOn_port]; rfl
  · rw [State.powerOn_alert]; rfl
  · rw [State.powerOn_alert]; rfl
  · rw [State.powerOn_window]; rfl
  · rw [State.powerOn_slot]; rfl
  · rw [State.powerOn_point]; rfl
  · rw [State.powerOn_channel]; rfl
  · rw [State.powerOn_alert]; rfl

/-- Settles O4: the assertion leaves the power-on state under reset, in which every row but the two of the reset input keeps
the state. -/
theorem resetAssertedEndsEverything : Obligations.ResetAssertedEndsEverything := by
  refine ⟨fun s => ?_, fun c s => exec_under_reset⟩
  have hports (p : Port) : ((State.powerOn s.straps s.pending).dlv.port p).up = false ∧
      ((State.powerOn s.straps s.pending).dlv.port p).tx = none ∧ NothingWaits ((State.powerOn s.straps s.pending).dlv.port p) := by
    rw [State.powerOn_port]
    exact ⟨rfl, rfl, rfl, rfl, rfl, rfl⟩
  have haccounts (i : Fin 24) : ((State.powerOn s.straps s.pending).point i).ivl = .empty ∧
      ((State.powerOn s.straps s.pending).point i).acc = .zero := by
    rw [State.powerOn_point]
    exact ⟨rfl, rfl⟩
  exact ⟨{ State.powerOn s.straps s.pending with inReset := true }, rfl, rfl, rfl, rfl, hports, rfl, haccounts, rfl, rfl,
    State.powerOn_ticket s.straps s.pending, State.powerOn_counterWords s.straps s.pending⟩

/-- Settles O60: the reset state is the power-on state with all straps low, and each law holds at power-on. -/
theorem everyLawHoldsAtReset : Obligations.EveryLawHoldsAtReset :=
  ⟨Nat.zero_le _, State.powerOn_downPorts _ _, State.powerOn_queuesWithinCapacity _ _, State.powerOn_alertsApart _ _, nofun,
    Device.init_legal _, State.powerOn_remaindersBelow _ _, State.powerOn_pointsSound _ _, State.powerOn_tables _ _,
    State.powerOn_finishQueue _ _, State.powerOn_pairingSound _ _⟩

end Sys2Proof.Machine
end
